-- ==== Sys2Proof/Word.lean ====
section
/-! DEFINITION. The word types of the WL4620 model: the octets that cross a port, the bits of an approach
stream, and part time, the one quantity of the spec whose arithmetic wraps at 32 bits. -/

namespace Sys2Proof

/-- One octet of a frame, a message or a telegram slot (spec/10, R169: bit 7 is the most significant). -/
abbrev Octet := BitVec 8

/-- Part time, in tenths of a second since the last reset of any kind; it runs from 0 to 4,294,967,295 and
wraps (spec/00, "Time"). Differences are therefore taken with the wrap of 32 bits. -/
abbrev PartTime := BitVec 32

/-- A run of received bits, the first bit received standing first (R109). -/
abbrev Bits := List Bool

end Sys2Proof
end

