-- ==== Sys2Proof/Syntax.lean ====
section
/-! DEFINITION. The commands of the WL4620: one constructor per row of spec/opcode_table.json. The table gives its
rows no bits and no fields; an operand stands here only where the event brings something in from outside the
part (a line octet, received bits, the rate straps) or names which of several like things it happens to (a
port, a bus). Every other command finds what it acts on in the state, as the rules say: a taken telegram is the
head of the rotation's next queue (R5), a taken asked message is the head of the asked-message queue (R137), and
a judged frame is the one the receive framer has handed over (R134, R135). -/

namespace Sys2Proof

/-- The four approaches, lettered A to D (spec/00, "Names"). -/
inductive Approach where
  | a | b | c | d
deriving DecidableEq, Repr

/-- The commands, one per row of the opcode table, in the table's order. -/
inductive Instr where
  /-- POWER_ON_RESET (R171): RSTn rises; the operand is the level of the straps RATE1:0. -/
  | powerOnReset (straps : BitVec 2)
  /-- FRAMING_FAULT (R132): an octet arrives whose stop bit is zero. -/
  | framingFault
  /-- FRAME_GAP_TIMEOUT (R134): more than 3 ms have passed since the last octet of a frame. -/
  | frameGapTimeout
  /-- CABINET_CRC (R135): the frame handed over fails its CRC-16. -/
  | cabinetCrc
  /-- ASKED_MESSAGE_ARRIVAL (R136): the frame handed over passes its check and is an asked message. -/
  | askedMessageArrival
  /-- UNKNOWN_KIND (R137): the asked message at the head of the queue has no asked kind. -/
  | unknownKind
  /-- PHASE_STATUS (R54): the frame handed over is a phase status report. -/
  | phaseStatus
  /-- COMMAND_ANSWER (R90): the frame handed over is an answer to a priority command. -/
  | commandAnswer
  /-- CONFIGURE (R151). -/
  | configure
  /-- READ_CONFIG (R155). -/
  | readConfig
  /-- SET_MODE with target STANDBY (R150). -/
  | setModeStandby
  /-- SET_MODE with target MONITOR (R149). -/
  | setModeMonitor
  /-- SET_MODE with target RUN (R148). -/
  | setModeRun
  /-- READ_STATUS (R140). -/
  | readStatus
  /-- LIST_REQUESTS (R141). -/
  | listRequests
  /-- READ_REQUEST (R142). -/
  | readRequest
  /-- CANCEL_REQUEST (R143). -/
  | cancelRequest
  /-- READ_OUTCOMES (R160). -/
  | readOutcomes
  /-- PROGRAM_COUNTER (R161). -/
  | programCounter
  /-- READ_COUNTERS (R164). -/
  | readCounters
  /-- READ_SUMMARY (R165). -/
  | readSummary
  /-- SET_NOTICE_MASK (R167). -/
  | setNoticeMask
  /-- CLEAR_NOTICES (R167). -/
  | clearNotices
  /-- LINK_CONTROL (R127). -/
  | linkControl
  /-- INJECT_TELEGRAM (R144). -/
  | injectTelegram
  /-- RESTART with selector RESTART (R145). -/
  | restart
  /-- RESTART with selector FACTORY (R145). -/
  | factory
  /-- RESTART_TAKES_EFFECT (R145): the last octet of the RESTART's REPLY leaves the line. -/
  | restartTakesEffect
  /-- FACTORY_TAKES_EFFECT (R145): the last octet of the FACTORY's REPLY leaves the line. -/
  | factoryTakesEffect
  /-- OUTBOUND_FRAME_SENT (R138): the last octet of the frame at the head of the outbound queue leaves the line. -/
  | outboundFrameSent
  /-- COMMAND_TRANSMITTED (R89): the port's report that a command's frame was transmitted reaches the exchange. -/
  | commandTransmitted
  /-- CHECK_IN (R14): the table takes the next telegram of the rotation, a CHECK_IN. -/
  | checkIn
  /-- POSITION (R13): the table takes the next telegram of the rotation, a POSITION. -/
  | position
  /-- CHECK_OUT (R20): the table takes the next telegram of the rotation, a CHECK_OUT. -/
  | checkOut
  /-- WITHDRAW (R21): the table takes the next telegram of the rotation, a WITHDRAW. -/
  | withdraw
  /-- ENTRY_EXPIRY (R22): the expiry of the entry of this bus falls due. -/
  | entryExpiry (bus : Nat)
  /-- CACHE_AGE_OUT (R18): the age of this bus's cache entry reaches half the wrap of part time. -/
  | cacheAgeOut (bus : Nat)
  /-- PLANNING_PASS (R69): the due pass is given the request table. -/
  | planningPass
  /-- REVIEW_TIMER (R67): the review timer expires. -/
  | reviewTimer
  /-- ANSWER_TIMEOUT (R94): the answer due time of the command in the slot falls due. -/
  | answerTimeout
  /-- LOST_TAG_FORGET (R95): the forget time of the lost tag falls due. -/
  | lostTagForget
  /-- ARM_LIMIT (R100): the arm limit of an ARMED advance falls due. -/
  | armLimit
  /-- STALE_TIMER (R51): the stale timer falls due. -/
  | staleTimer
  /-- TABLE_OCCUPANCY (R163): the feed of each second. -/
  | tableOccupancy
  /-- CANDIDATE_MARKER (R112): the framer of port `x` searches the bits it has kept and these new bits. -/
  | candidateMarker (x : Approach) (bits : Bits)
  /-- CONFIRM_TEST (R113): the framer of port `x` tests the next frame-spaced marker. -/
  | confirmTest (x : Approach) (bits : Bits)
  /-- FRAME_SLOT (R114): the framer of port `x` judges the next 264-bit slot. -/
  | frameSlot (x : Approach) (bits : Bits)
  /-- LOCAL_FRAME_READ (R116): a local frame instant at port `x`. -/
  | localFrameRead (x : Approach)
  /-- CENTRING_TIMEOUT (R116): the sixteenth local frame instant of centring with no frame written. -/
  | centringTimeout (x : Approach)
  /-- CONSECUTIVE_REPEAT_LIMIT (R118): the local frame instant whose repeat is the sixteenth in a row. -/
  | consecutiveRepeatLimit (x : Approach)
  /-- RETURN_FRAME (R123): the first bit of the next return frame of port `x` is due. -/
  | returnFrame (x : Approach)
  /-- RSTN_LOW (R171): RSTn is driven low. -/
  | rstnLow
  /-- OCTET_RECEIVED (R134): an octet is taken from the cabinet line. -/
  | octetReceived (o : Octet)
deriving DecidableEq, Repr

end Sys2Proof
end

