-- ==== Sys2Proof/Decode.lean ====
section
/-! DEFINITION. The decoding of table words. Every row of spec/opcode_table.json has an empty list of fields and no
fixed bits ("n_rows_with_fixed": 0), so no word spells a command: the commands of this block are octets, bits and
events, not words. -/

namespace Sys2Proof

/-- The command an opcode-table word spells: none, since the table gives no row any bits (DEDUCED, log entry 5). -/
def decodeTableWord (_nbits _w : Nat) : Option Instr := none

end Sys2Proof
end

