-- ==== Sys2Proof/Config.lean ====
section
/-! DEFINITION. What the spec leaves to neither the configuration nor the state: the order in which claims that
fell due at the same instant are taken (R5, R22, R23, R51, R66, R94 to R100, R147: "either may be taken
first"). The order is a free value: nothing evaluates it and nothing can be proved of it. -/

namespace Sys2Proof.Config

/-- Free value (DESIGN CHOICE, log entry 3): the choice numbered `n` among claims that fell due at one instant. -/
opaque pick : Nat → Nat

end Sys2Proof.Config
end

