-- ==== Sys2Proof/Machine/Types.lean ====
section
/-! DEFINITION. The data of each block of the WL4620 (spec/00, Table 1-1), as plain structures: what the state of
Machine/State.lean is made of. -/

namespace Sys2Proof.Machine

/-! ### Names (Table 10-1) -/

/-- Operating mode (R146). -/
inductive Mode where | standby | monitor | run
deriving DecidableEq, Repr

/-- The five telegram sources, each with its intake queue (R2). -/
inductive Source where | port (x : Approach) | cabinet
deriving DecidableEq, Repr

/-- Telegram kinds (R1). -/
inductive TelegramKind where | checkIn | position | checkOut | withdraw
deriving DecidableEq, Repr

/-- Movements (R1). -/
inductive Movement where | through | left | right
deriving DecidableEq, Repr

/-- Eligibility (R37, R38). -/
inductive Eligibility where | neutral | eligible | hold
deriving DecidableEq, Repr

/-- The nine entry states (R9). -/
inductive EntryState where | new | far | watch | covered | waiting | commanded | granted | spent | denied
deriving DecidableEq, Repr

/-- The wait reasons of a WAITING entry (R78, Table 4-2). -/
inductive WaitReason where | needsGreen | limit | budget | noToken | guarded | coasting | suspended | grantBusy
deriving DecidableEq, Repr

/-- Indications radioed to drivers (R79). -/
inductive Indication where | none | granted | covered | wait | hold | denied
deriving DecidableEq, Repr

/-- The two adjustments a bus can get: EXTEND and ADVANCE. -/
inductive Action where | extend | advance
deriving DecidableEq, Repr

/-- What a priority command asks for (Table 5-1): an adjustment, or a REVISE. -/
inductive CommandAction where | adjust (a : Action) | revise
deriving DecidableEq, Repr

/-- Role of a command or of a grant member. -/
inductive Role where | lead | follower
deriving DecidableEq, Repr

/-- Intervals of a phase (R47). -/
inductive Interval where | green | yellow | redClear
deriving DecidableEq, Repr

/-- The five model states (Table 3-3). -/
inductive ModelState where | noStatus | tracking | unknownPlan | inhibited | stale
deriving DecidableEq, Repr

/-- State of the active grant (R98). -/
inductive GrantState where | armed | running
deriving DecidableEq, Repr

/-- The ten outcome codes, in the order of Table 9-1. -/
inductive OutcomeCode where
  | servedGranted | servedCovered | servedUnaided | servedDenied | missed | withdrawn | expired | evicted
  | cancelled | abandoned
deriving DecidableEq, Repr

/-- What happens to a record at a full buffer (R159). -/
inductive OutcomeMode where | stop | wrap
deriving DecidableEq, Repr

/-- Framer states (Table 6-2). -/
inductive FramerState where | disabled | hunt | confirm | aligned
deriving DecidableEq, Repr

/-- The last slip of a port (R117, R118). -/
inductive LastSlip where | none | drop | repeat
deriving DecidableEq, Repr

/-- The CRC-error insertion (R128): none, asked for, or aimed at the return quarter now being sent. -/
inductive CrcInsertion where | none | waiting | aimed
deriving DecidableEq, Repr

/-- Timing of a return frame (R124). -/
inductive ReturnTiming where | local | loop
deriving DecidableEq, Repr

/-- Which reset a RESTART message asks for (R145). -/
inductive Selector where | restart | factory
deriving DecidableEq, Repr

/-- The seventeen counted events, in the order of Table 9-2. -/
inductive EventKind where
  | telegramIn | telegramDiscard | admission | admitReject | evict | cacheLookup | orphanCheckout | close
  | commandSent | answer | coveredBypass | tokenEmpty | linkSlip | linkReframe | farBlockError | badStatus
  | tableOccupancy
deriving DecidableEq, Repr

/-- The 23 notice latches (R166). -/
inductive Latch where
  | restarted | linkState (x : Approach) | farAlarm (x : Approach) | receiverFault (x : Approach) | signalModel
  | tokensExhausted (x : Approach) | outcomesWaiting | outcomeOverrun | counterSaturated | hostOverrun | lateAccept
deriving DecidableEq, Repr

/-- Kinds of message the part sends (Table 7-3). -/
inductive OutKind where | reply | priorityCommand | notice
deriving DecidableEq, Repr

/-- Reply codes (Table 7-4). -/
inductive ReplyCode where
  | ok | okClamped | unknownKind | badLength | badValue | wrongMode | inconsistent | notFound | grantActive
deriving DecidableEq, Repr

/-! ### Several like things -/

/-- One value per approach A to D. -/
structure PerApproach (α : Type) where
  a : α
  b : α
  c : α
  d : α
deriving DecidableEq, Repr

/-- One value per telegram source A, B, C, D and cabinet (R3, R161). -/
structure PerSource (α : Type) where
  ports : PerApproach α
  cabinet : α
deriving DecidableEq, Repr

/-- One value per class 0 to 3. -/
structure PerClass (α : Type) where
  c0 : α
  c1 : α
  c2 : α
  c3 : α
deriving DecidableEq, Repr

/-- One value per notice latch (R166). -/
structure PerLatch (α : Type) where
  restarted : α
  linkState : PerApproach α
  farAlarm : PerApproach α
  receiverFault : PerApproach α
  signalModel : α
  tokensExhausted : PerApproach α
  outcomesWaiting : α
  outcomeOverrun : α
  counterSaturated : α
  hostOverrun : α
  lateAccept : α
deriving DecidableEq, Repr

/-! ### Configuration (Tables 8-4 to 8-6, 3-1, R45, R152) -/

/-- GENERAL section (Table 8-4), in the order of Table 10-6. -/
structure General where
  horizon : Nat
  clearance : Nat
  aMin : Nat
  bCycle : Nat
  gCycle : Nat
  tAns : Nat
  tLate : Nat
  tSig : Nat
  maxAttempts : Nat
  reviseThreshold : Nat
  quietTime : Nat
  wLate : Nat
  wLoad : Nat
  defaultClass : Nat
  outcomeMode : OutcomeMode
  outcomeThreshold : Nat
deriving DecidableEq, Repr

/-- APPROACH section (Table 8-5), in the order of Table 10-6. -/
structure ApproachConfig where
  enabled : Bool
  depth : Nat
  vFloor : Nat
  vCap : Nat
  vCruise : Nat
  dStop : Nat
  dDep : Nat
  m0 : Nat
  m1 : Nat
  cGrow : Nat
  tStale : Nat
  tExpire : Nat
  strength : Nat
  kMax : Nat
  refill : Nat
deriving DecidableEq, Repr

/-- CLASS section (Table 8-6), in the order of Table 10-6. -/
structure ClassConfig where
  enabled : Bool
  unconditional : Bool
  weight : Nat
  lOn : Nat
  lEarly : Nat
  lHys : Nat
deriving DecidableEq, Repr

/-- One route map entry: a route and its class. -/
structure RouteEntry where
  route : Nat
  cls : Nat
deriving DecidableEq, Repr

/-- One phase record (Table 3-1); the record of phase `i` is the `i`-th of the phase table. -/
structure PhaseRecord where
  yellow : Nat
  redClear : Nat
  minGreen : Nat
  pedMin : Nat
  maxExtend : Nat
  maxAdvance : Nat
  truncatable : Bool
deriving DecidableEq, Repr

/-- One plan (R45): id, cycle length, and the splits of phases 1 to 8. -/
structure Plan where
  id : Nat
  cycle : Nat
  splits : List Nat
deriving DecidableEq, Repr

/-- One approach's line of the movement map (Table 8-2). -/
structure MovementLine where
  through : Nat
  left : Nat
  right : Nat
deriving DecidableEq, Repr

/-- The whole configuration: the seven sections of Table 8-2. -/
structure Configuration where
  general : General
  approaches : PerApproach ApproachConfig
  classes : PerClass ClassConfig
  routeMap : List RouteEntry
  phases : List PhaseRecord
  plans : List Plan
  movementMap : PerApproach MovementLine
deriving DecidableEq, Repr

/-! ### Telegrams, entries and the cache (chapter 1) -/

/-- A telegram after the handling of R1, with its source and approach (R2). -/
structure Telegram where
  source : Source
  approach : Approach
  kind : TelegramKind
  bus : Nat
  seq : Nat
  movement : Movement
  atStop : Bool
  doorOpen : Bool
  route : Nat
  distance : Nat
  speed : Nat
  dwell : Nat
  lateness : Int
  load : Nat
  age : Nat
deriving DecidableEq, Repr

/-- The five intake queues and the source last served (R3 to R6). -/
structure Intake where
  queues : PerSource (List Telegram)
  lastServed : Source
deriving DecidableEq, Repr

/-- The estimate fields of an entry (Table 2-1). -/
structure Estimate where
  evalTime : PartTime
  speed : Nat
  distNow : Nat
  eta : Nat
  beyond : Bool
  halfWidth : Nat
  winStart : Nat
  winEnd : Nat
  eligibility : Eligibility
  score : Nat
  coasting : Bool
  coastedEver : Bool
deriving DecidableEq, Repr

/-- A request entry (R8), with the classified mark of R64. -/
structure Entry where
  bus : Nat
  route : Nat
  cls : Nat
  approach : Approach
  movement : Movement
  phase : Nat
  fromCabinet : Bool
  seq : Nat
  admission : BitVec 16
  admitTime : PartTime
  admittedByPosition : Bool
  ring : List Nat
  distance : Nat
  tLast : PartTime
  atStop : Bool
  doorOpen : Bool
  dwell : Nat
  lateness : Int
  latenessAtAdmission : Int
  load : Nat
  est : Estimate
  state : EntryState
  reason : Option WaitReason
  attempts : Nat
  action : Option Action
  requested : Option Nat
  applied : Option Nat
  role : Option Role
  commandTime : Option PartTime
  etaAtCommand : Option Nat
  closeTime : Option PartTime
  grantRan : Option Bool
  indication : Indication
  shadow : Bool
  classified : Bool
deriving DecidableEq, Repr

/-- A recent bus cache entry (R18). -/
structure CacheEntry where
  bus : Nat
  approach : Approach
  time : PartTime
deriving DecidableEq, Repr

/-! ### Signal model (chapter 3) -/

/-- The anchor (R48). -/
structure Anchor where
  plan : Nat
  phase : Nat
  interval : Interval
  elapsed : Nat
  arrival : PartTime
  pedCalls : BitVec 8
  inhibit : Bool
deriving DecidableEq, Repr

/-- Model state and anchor (R48 to R52). -/
structure SignalModel where
  state : ModelState
  anchor : Option Anchor
deriving DecidableEq, Repr

/-- A green window of the projection (R55), in tenths relative to now. -/
structure Window where
  phase : Nat
  start : Nat
  stop : Nat
  current : Bool
deriving DecidableEq, Repr

/-- The adjustment a projection applies (R59, R60, R74). -/
inductive Adjustment where
  | none
  | extend (phase total : Nat)
  | advance (phase amount : Nat)
deriving DecidableEq, Repr

/-! ### Planner and command exchange (chapters 4 and 5) -/

/-- The command slot record (Table 5-1). -/
structure Slot where
  tag : Nat
  action : CommandAction
  phase : Nat
  amount : Nat
  grantId : Nat
  role : Role
  bus : Option Nat
  approach : Approach
  commandTime : Option PartTime
  etaAtCommand : Option Nat
  due : Option PartTime
deriving DecidableEq, Repr

/-- The active grant record (Table 5-2), with the approach of its lead command, which a revise takes (R104; DEDUCED, log
entry 27). -/
structure Grant where
  id : Nat
  action : Action
  phase : Nat
  requested : Nat
  applied : Nat
  total : Nat
  members : List Nat
  state : GrantState
  acceptTime : PartTime
  shadow : Bool
  armLimit : Option PartTime
  outSeen : Option Bool
  approach : Approach
deriving DecidableEq, Repr

/-- The lost tag memory (R95). -/
structure LostTag where
  tag : Nat
  action : Action
  phase : Nat
  requested : Nat
  grantId : Nat
  role : Role
  bus : Nat
  approach : Approach
  commandTime : PartTime
  etaAtCommand : Nat
  forget : PartTime
deriving DecidableEq, Repr

/-- The pending revise (R104). -/
structure Revise where
  grantId : Nat
  phase : Nat
  total : Nat
  approach : Approach
  revoke : Bool
deriving DecidableEq, Repr

/-- A reservation of the cycle ledger (R85). -/
structure Reservation where
  amount : Nat
  role : Role
deriving DecidableEq, Repr

/-- The cycle ledger (R84). -/
structure Ledger where
  timeLimit : Nat
  grantLimit : Nat
  committed : Nat
  leads : Nat
  reservation : Option Reservation
deriving DecidableEq, Repr

/-- The planner's state (Table 4-1) and the exchange's tag counter (R88). `passDue` is the pass that is due and not
started; `passMark` is the pass-due mark; `passRunning` says that a pass is running (R66). -/
structure Planner where
  slot : Option Slot
  grant : Option Grant
  lost : Option LostTag
  revise : Option Revise
  tagCounter : Nat
  tokens : PerApproach Nat
  refills : PerApproach Nat
  ledger : Ledger
  review : Option PartTime
  passDue : Bool
  passMark : Bool
  passRunning : Bool
deriving DecidableEq, Repr

/-! ### Reports (chapter 9) -/

/-- An outcome record (Table 9-1). -/
structure OutcomeRecord where
  bus : Nat
  route : Nat
  approach : Approach
  cls : Nat
  phase : Nat
  code : OutcomeCode
  admitTime : PartTime
  closeTime : PartTime
  latenessAtAdmission : Int
  latenessAtClose : Int
  score : Nat
  action : Option Action
  requested : Nat
  applied : Nat
  role : Option Role
  attempts : Nat
  coastedEver : Bool
  shadow : Bool
  admittedByPosition : Bool
  arrivalError : Option Int
deriving DecidableEq, Repr

/-- The outcome buffer (R159). -/
structure OutcomeBuffer where
  records : List OutcomeRecord
  lost : Nat
deriving DecidableEq, Repr

/-- A programmable counter (R161): no event stands for NONE. -/
structure Counter where
  value : Nat
  event : Option EventKind
  subMask : BitVec 16
  sourceMask : BitVec 5
deriving DecidableEq, Repr

/-- The five fixed totals (R165). -/
structure Totals where
  sent : Nat
  accepted : Nat
  answeredPartly : Nat
  refused : Nat
  lost : Nat
deriving DecidableEq, Repr

/-- The statistics unit: eight counters and the fixed totals. -/
structure Statistics where
  counters : List Counter
  totals : Totals
deriving DecidableEq, Repr

/-- What a set latch holds (R166). -/
structure LatchInfo where
  detail : Nat
  time : PartTime
deriving DecidableEq, Repr

/-- The notice unit: latches (absent when clear) and mask (true when open) (R166, R167). -/
structure NoticeUnit where
  latches : PerLatch (Option LatchInfo)
  mask : PerLatch Bool
deriving DecidableEq, Repr

/-! ### Cabinet link (chapter 7) -/

/-- The receive framer (R134): idle, or receiving with the octets taken after the start octet. -/
inductive RxFramer where
  | idle
  | receiving (got : List Octet)
deriving DecidableEq, Repr

/-- An asked message in its queue (R136). -/
structure AskedMessage where
  kind : Octet
  tag : Octet
  body : List Octet
deriving DecidableEq, Repr

/-- A message of the outbound queue (R138); `final` marks the REPLY of a valid RESTART (R145). -/
structure OutMessage where
  kind : OutKind
  tag : Octet
  body : List Octet
  final : Bool
deriving DecidableEq, Repr

/-- A report that a PRIORITY_COMMAND frame was transmitted, not yet taken by the exchange (R66, R89). -/
structure TransmitReport where
  tag : Nat
  due : PartTime
deriving DecidableEq, Repr

/-- The cabinet link port (R132 to R145). `received` holds frames the receive framer has handed to the check of
R135 and that have not been judged yet (DEDUCED, log entry 26). -/
structure Link where
  framer : RxFramer
  received : List (List Octet)
  asked : List AskedMessage
  outbound : List OutMessage
  reports : List TransmitReport
  restart : Option Selector
  crcErrors : Nat
  overruns : Nat
  noticesDropped : Nat
deriving DecidableEq, Repr

/-! ### Approach ports (chapter 6) -/

/-- A frame of the elastic store (R116). -/
structure Frame where
  control : Octet
  aux : Octet
  payload : List Octet
  pos : Nat
  marked : Bool
  lost : Nat
deriving DecidableEq, Repr

/-- The quarter being assembled (R120): the offset of the last frame taken within the quarter, the payloads taken
and whether no frame of the quarter is known to be lost. -/
structure Quarter where
  offset : Nat
  payloads : List (List Octet)
  complete : Bool
deriving DecidableEq, Repr

/-- The return frame being sent (R123, R124): its octets, the timing of its bits, and how many of its 264 bits
are still to be sent. Only a loop-timed frame is counted down, one bit for each inbound bit; the bits of a locally timed
one go at a rate below a tenth (DESIGN CHOICE, log entry 17). -/
structure ReturnFrame where
  octets : List Octet
  timing : ReturnTiming
  unsent : Nat
deriving DecidableEq, Repr

/-- One approach port (Table 6-3). `bits` holds the received bits not yet consumed: in HUNT those still to be
searched, in CONFIRM those since the first bit of the candidate, in ALIGNED those of the slot under way. -/
structure Port where
  framer : FramerState
  bits : Bits
  passed : Nat
  expected : Nat
  judged : List Bool
  store : List Frame
  centring : Bool
  centringIdle : Nat
  repeats : Nat
  lastSlip : LastSlip
  quarter : Option Quarter
  history : List Bool
  echo : Bool
  farAlarm : Bool
  senderFault : Bool
  force : Bool
  markerInsertion : Bool
  crcInsertion : CrcInsertion
  returnPos : Nat
  sent : List (List Octet)
  rotation : Nat
  sending : Option ReturnFrame
deriving DecidableEq, Repr

end Sys2Proof.Machine
end

