-- ==== Sys2Proof/Machine/Operands.lean ====
section
/-! DEFINITION. Octets and codes: reading and writing multi-octet fields (R169), the two checks (R110, R133), the
bits of an approach stream (R109), and the codes of Table 10-1 in both directions. -/

namespace Sys2Proof.Machine

/-! ### Multi-octet fields, high octet first (R169) -/

/-- A one-octet field. -/
def octet (n : Nat) : Octet := BitVec.ofNat 8 n

/-- A two-octet field. -/
def octets2 (n : Nat) : List Octet := [octet (n / 256), octet n]

/-- A four-octet field. -/
def octets4 (n : Nat) : List Octet := [octet (n / 16777216), octet (n / 65536), octet (n / 256), octet n]

/-- A signed 16-bit field in two's complement. -/
def signed2 (i : Int) : List Octet := octets2 (i % 65536).toNat

/-- A flag: 0 for clear, 1 for set. -/
def flag (b : Bool) : Octet := if b then 1 else 0

/-- The number in a list of octets, high octet first. -/
def number : List Octet → Nat
  | os => os.foldl (fun acc o => acc * 256 + o.toNat) 0

/-- The 16-bit two's complement number in two octets. -/
def signedNumber (os : List Octet) : Int :=
  let n := number os
  if n < 32768 then n else (n : Int) - 65536

/-- A flag octet read from a message: 0 and 1 are its codes; any other is outside its set (R169). -/
def readFlag (o : Octet) : Option Bool :=
  if o = 0 then some false else if o = 1 then some true else none

/-! ### Bits of an approach stream (R109): most significant bit of each octet first -/

/-- The octet whose bits, most significant first, are the first eight of the list (absent bits read as zero). -/
def octetOfBits (bits : Bits) : Octet :=
  BitVec.ofNat 8 ((bits.take 8).foldl (fun acc b => 2 * acc + b.toNat) 0)

/-- The first `n` octets of a run of bits. -/
def octetsOfBits : Nat → Bits → List Octet
  | 0, _ => []
  | n + 1, bits => octetOfBits bits :: octetsOfBits n (bits.drop 8)

/-- The bits of an octet, most significant first. -/
def bitsOfOctet (o : Octet) : Bits :=
  [o.getLsbD 7, o.getLsbD 6, o.getLsbD 5, o.getLsbD 4, o.getLsbD 3, o.getLsbD 2, o.getLsbD 1, o.getLsbD 0]

/-- The bits of a run of octets as the line carries them. -/
def bitsOfOctets (os : List Octet) : Bits := os.flatMap bitsOfOctet

/-! ### Characters of the cabinet line (R132) -/

/-- An octet as the cabinet line carries it (R132): a start bit of zero, eight data bits with the least significant bit
first, a stop bit of one. -/
def lineForm (o : Octet) : Bits :=
  [false, o.getLsbD 0, o.getLsbD 1, o.getLsbD 2, o.getLsbD 3, o.getLsbD 4, o.getLsbD 5, o.getLsbD 6, o.getLsbD 7, true]

/-- The octet of a character received from the cabinet line: none when its stop bit is zero, the framing fault (R132). -/
def readCharacter : Bits → Option Octet
  | [_, b0, b1, b2, b3, b4, b5, b6, b7, true] => some (octetOfBits [b7, b6, b5, b4, b3, b2, b1, b0])
  | _ => none

/-! ### Checks (Table 10-10) -/

/-- One bit step of the CRC-8 with polynomial x⁸ + x² + x + 1. -/
def crc8Step (r : BitVec 8) : BitVec 8 := if r.getLsbD 7 then (r <<< 1) ^^^ 0x07#8 else r <<< 1

/-- One octet into the CRC-8, most significant bit first. -/
def crc8Octet (r : BitVec 8) (o : Octet) : BitVec 8 :=
  crc8Step (crc8Step (crc8Step (crc8Step (crc8Step (crc8Step (crc8Step (crc8Step (r ^^^ o))))))))

/-- CRC-8 of R110: start 0, no final inversion. -/
def crc8 (os : List Octet) : Octet := os.foldl crc8Octet 0

/-- One bit step of the CRC-16 with polynomial 0x1021. -/
def crc16Step (r : BitVec 16) : BitVec 16 := if r.getLsbD 15 then (r <<< 1) ^^^ 0x1021#16 else r <<< 1

/-- One octet into the CRC-16, most significant bit first. -/
def crc16Octet (r : BitVec 16) (o : Octet) : BitVec 16 :=
  crc16Step (crc16Step (crc16Step (crc16Step (crc16Step (crc16Step (crc16Step (crc16Step
    (r ^^^ (o.zeroExtend 16 <<< 8)))))))))

/-- CRC-16 of R133: start 0xFFFF, no final inversion. -/
def crc16 (os : List Octet) : BitVec 16 := os.foldl crc16Octet 0xFFFF#16

/-! ### Codes (Table 10-1) -/

/-- Approach code: 0 A to 3 D. -/
def Approach.index : Approach → Nat
  | .a => 0
  | .b => 1
  | .c => 2
  | .d => 3

/-- The approach a code names, if any. -/
def approachOf (o : Octet) : Option Approach :=
  if o = 0 then some .a else if o = 1 then some .b else if o = 2 then some .c else if o = 3 then some .d else none

/-- Bit of a source in a source mask. -/
def Source.index : Source → Nat
  | .port x => Approach.index x
  | .cabinet => 4

/-- Telegram kind as a sub-event (Table 9-2). -/
def TelegramKind.index : TelegramKind → Nat
  | .checkIn => 0
  | .position => 1
  | .checkOut => 2
  | .withdraw => 3

/-- Movement code. -/
def Movement.code : Movement → Nat
  | .through => 0
  | .left => 1
  | .right => 2

/-- Interval of a code, if it has one (R47). -/
def intervalOf (o : Octet) : Option Interval :=
  if o = 0 then some .green else if o = 1 then some .yellow else if o = 2 then some .redClear else none

/-- Interval code. -/
def Interval.code : Interval → Nat
  | .green => 0
  | .yellow => 1
  | .redClear => 2

/-- Model state code. -/
def ModelState.code : ModelState → Nat
  | .noStatus => 0
  | .tracking => 1
  | .unknownPlan => 2
  | .inhibited => 3
  | .stale => 4

/-- Entry state code. -/
def EntryState.code : EntryState → Nat
  | .new => 0
  | .far => 1
  | .watch => 2
  | .covered => 3
  | .waiting => 4
  | .commanded => 5
  | .granted => 6
  | .spent => 7
  | .denied => 8

/-- Wait reason code; 0 when absent. -/
def waitReasonCode : Option WaitReason → Nat
  | none => 0
  | some .needsGreen => 1
  | some .limit => 2
  | some .budget => 3
  | some .noToken => 4
  | some .guarded => 5
  | some .coasting => 6
  | some .suspended => 7
  | some .grantBusy => 8

/-- Eligibility code. -/
def Eligibility.code : Eligibility → Nat
  | .neutral => 0
  | .eligible => 1
  | .hold => 2

/-- Indication code. -/
def Indication.code : Indication → Nat
  | .none => 0
  | .granted => 1
  | .covered => 2
  | .wait => 3
  | .hold => 4
  | .denied => 5

/-- Action code of an entry, a grant or a record; 0 when absent. -/
def actionCode : Option Action → Nat
  | none => 0
  | some .extend => 1
  | some .advance => 2

/-- Action code of a command. -/
def CommandAction.code : CommandAction → Nat
  | .adjust a => actionCode (some a)
  | .revise => 3

/-- Role code; 0 when absent. -/
def roleCode : Option Role → Nat
  | none => 0
  | some .lead => 1
  | some .follower => 2

/-- Grant state code. -/
def GrantState.code : GrantState → Nat
  | .armed => 0
  | .running => 1

/-- Operating mode code. -/
def Mode.code : Mode → Nat
  | .standby => 0
  | .monitor => 1
  | .run => 2

/-- Reply code. -/
def ReplyCode.code : ReplyCode → Nat
  | .ok => 0
  | .okClamped => 1
  | .unknownKind => 2
  | .badLength => 3
  | .badValue => 4
  | .wrongMode => 5
  | .inconsistent => 6
  | .notFound => 7
  | .grantActive => 8

/-- Outcome code. -/
def OutcomeCode.code : OutcomeCode → Nat
  | .servedGranted => 0
  | .servedCovered => 1
  | .servedUnaided => 2
  | .servedDenied => 3
  | .missed => 4
  | .withdrawn => 5
  | .expired => 6
  | .evicted => 7
  | .cancelled => 8
  | .abandoned => 9

/-- The seventeen events in the order of Table 9-2. -/
def eventsInOrder : List EventKind :=
  [.telegramIn, .telegramDiscard, .admission, .admitReject, .evict, .cacheLookup, .orphanCheckout, .close,
   .commandSent, .answer, .coveredBypass, .tokenEmpty, .linkSlip, .linkReframe, .farBlockError, .badStatus,
   .tableOccupancy]

/-- Event code: 0 NONE, 1 to 17 in the order of Table 9-2. -/
def eventCode : Option EventKind → Nat
  | none => 0
  | some e => eventsInOrder.idxOf e + 1

/-- The event a code names: `some none` for NONE, `none` for a code that names nothing (R161). -/
def eventOf (n : Nat) : Option (Option EventKind) :=
  if n = 0 then some none else (eventsInOrder[n - 1]?).map some

/-- How many sub-events an event has (Table 9-2). -/
def subEventCount : EventKind → Nat
  | .telegramIn => 4
  | .telegramDiscard => 11
  | .admission => 2
  | .admitReject => 0
  | .evict => 0
  | .cacheLookup => 3
  | .orphanCheckout => 0
  | .close => 10
  | .commandSent => 4
  | .answer => 5
  | .coveredBypass => 0
  | .tokenEmpty => 0
  | .linkSlip => 2
  | .linkReframe => 0
  | .farBlockError => 0
  | .badStatus => 0
  | .tableOccupancy => 9

/-- Framer state code. -/
def FramerState.code : FramerState → Nat
  | .disabled => 0
  | .hunt => 1
  | .confirm => 2
  | .aligned => 3

/-- Last slip code. -/
def LastSlip.code : LastSlip → Nat
  | .none => 0
  | .drop => 1
  | .repeat => 2

/-- The sub-events of TELEGRAM_DISCARD, numbered in the order of Table 9-2. -/
inductive Discard where
  | weak | malformed | notRunning | intakeFull | duplicate | outOfOrder | crossApproach | staleAfterCheckout
  | unknownBus | crcError | slipLoss
deriving DecidableEq, Repr

/-- Place of a discard reason in the sub-mask. -/
def Discard.index : Discard → Nat
  | .weak => 0
  | .malformed => 1
  | .notRunning => 2
  | .intakeFull => 3
  | .duplicate => 4
  | .outOfOrder => 5
  | .crossApproach => 6
  | .staleAfterCheckout => 7
  | .unknownBus => 8
  | .crcError => 9
  | .slipLoss => 10

/-- The sub-events of ANSWER, numbered in the order of Table 9-2. -/
inductive AnswerEvent where | accept | someGiven | refuse | timeout | late
deriving DecidableEq, Repr

/-- Place of an answer sub-event in the sub-mask. -/
def AnswerEvent.index : AnswerEvent → Nat
  | .accept => 0
  | .someGiven => 1
  | .refuse => 2
  | .timeout => 3
  | .late => 4

/-- The four approaches in order. -/
def allApproaches : List Approach := [.a, .b, .c, .d]

/-- The latches in the order of their numbers (Table 10-1). -/
def latchesInOrder : List Latch :=
  [.restarted, .linkState .a, .linkState .b, .linkState .c, .linkState .d,
   .farAlarm .a, .farAlarm .b, .farAlarm .c, .farAlarm .d,
   .receiverFault .a, .receiverFault .b, .receiverFault .c, .receiverFault .d, .signalModel,
   .tokensExhausted .a, .tokensExhausted .b, .tokensExhausted .c, .tokensExhausted .d,
   .outcomesWaiting, .outcomeOverrun, .counterSaturated, .hostOverrun, .lateAccept]

/-- Notice kind code of a latch. -/
def Latch.kindCode : Latch → Nat
  | .restarted => 0
  | .linkState _ => 1
  | .farAlarm _ => 2
  | .receiverFault _ => 3
  | .signalModel => 4
  | .tokensExhausted _ => 5
  | .outcomesWaiting => 6
  | .outcomeOverrun => 7
  | .counterSaturated => 8
  | .hostOverrun => 9
  | .lateAccept => 10

/-- Approach octet of a NOTICE: the approach of a per-approach kind, 255 for the others. -/
def Latch.approachOctet : Latch → Nat
  | .linkState x | .farAlarm x | .receiverFault x | .tokensExhausted x => Approach.index x
  | .restarted | .signalModel | .outcomesWaiting | .outcomeOverrun | .counterSaturated | .hostOverrun
  | .lateAccept => 255

/-- Message kind code of a message the part sends (Table 7-3). -/
def OutKind.code : OutKind → Octet
  | .reply => 0x40
  | .priorityCommand => 0x41
  | .notice => 0x42

/-- A message as the octets of its frame (Table 7-2): start, length, kind, tag, body, CRC-16. -/
def frameOctets (m : OutMessage) : List Octet :=
  let covered := octet (m.body.length + 2) :: m.kind.code :: m.tag :: m.body
  0xA5 :: covered ++ octets2 (crc16 covered).toNat

end Sys2Proof.Machine
end

