-- ==== Sys2Proof/Machine/Factory.lean ====
section
/-! DEFINITION. Factory configuration and the values each block takes at a reset, from which State.reset and the
three resets are built. -/

namespace Sys2Proof.Machine

/-- Factory values of the GENERAL section (Table 8-4, R156). -/
def General.factory : General :=
  { horizon := 1200, clearance := 10, aMin := 50, bCycle := 300, gCycle := 2, tAns := 500, tLate := 5, tSig := 3,
    maxAttempts := 2, reviseThreshold := 20, quietTime := 90, wLate := 2, wLoad := 5, defaultClass := 2,
    outcomeMode := .wrap, outcomeThreshold := 16 }

/-- Factory values of an APPROACH section (Table 8-5, R156). -/
def ApproachConfig.factory : ApproachConfig :=
  { enabled := true, depth := 4, vFloor := 30, vCap := 160, vCruise := 100, dStop := 200, dDep := 30, m0 := 20,
    m1 := 10, cGrow := 10, tStale := 3, tExpire := 15, strength := 40, kMax := 3, refill := 2 }

/-- Factory values of the four CLASS sections (Table 8-6, R156). -/
def classesFactory : PerClass ClassConfig :=
  { c0 := { enabled := true, unconditional := false, weight := 60, lOn := 60, lEarly := 120, lHys := 20 },
    c1 := { enabled := true, unconditional := false, weight := 80, lOn := 30, lEarly := 120, lHys := 20 },
    c2 := { enabled := true, unconditional := false, weight := 30, lOn := 120, lEarly := 180, lHys := 30 },
    c3 := { enabled := false, unconditional := false, weight := 0, lOn := 0, lEarly := 0, lHys := 0 } }

/-- The factory phase record (R44). -/
def PhaseRecord.factory : PhaseRecord :=
  { yellow := 30, redClear := 20, minGreen := 50, pedMin := 0, maxExtend := 0, maxAdvance := 0, truncatable := false }

/-- The same value for each approach. -/
def PerApproach.all {α : Type} (v : α) : PerApproach α := ⟨v, v, v, v⟩

/-- The same value for each source. -/
def PerSource.all {α : Type} (v : α) : PerSource α := ⟨.all v, v⟩

/-- The factory configuration (R156): four factory phases (R44), no plans (R45), no routes, every movement unmapped. -/
def Configuration.factory : Configuration :=
  { general := .factory, approaches := .all .factory, classes := classesFactory, routeMap := [],
    phases := [.factory, .factory, .factory, .factory], plans := [], movementMap := .all ⟨0, 0, 0⟩ }

/-- Empty intake queues; the next service begins at queue A, the source after the cabinet (R6). -/
def Intake.atReset : Intake := { queues := .all [], lastServed := .cabinet }

/-- The signal model after any reset (R63). -/
def SignalModel.atReset : SignalModel := { state := .noStatus, anchor := none }

/-- The planner after a reset (Table 4-1, R88), with the tokens and ledger limits the reset gives. -/
def Planner.atReset (tokens : PerApproach Nat) (timeLimit grantLimit : Nat) : Planner :=
  { slot := none, grant := none, lost := none, revise := none, tagCounter := 0, tokens := tokens, refills := .all 0,
    ledger := { timeLimit := timeLimit, grantLimit := grantLimit, committed := 0, leads := 0, reservation := none },
    review := none, passDue := false, passMark := false, passRunning := false }

/-- The outcome buffer after any reset (R159). -/
def OutcomeBuffer.atReset : OutcomeBuffer := { records := [], lost := 0 }

/-- The fixed totals after any reset (R165). -/
def Totals.zero : Totals := { sent := 0, accepted := 0, answeredPartly := 0, refused := 0, lost := 0 }

/-- A counter that counts nothing (R162). Its masks at power-on reset and FACTORY, which the spec does not give, are clear
(DESIGN CHOICE, log entry 31). -/
def Counter.blank : Counter := { value := 0, event := none, subMask := 0, sourceMask := 0 }

/-- The statistics unit after power-on reset and FACTORY (R162, R165). -/
def Statistics.atReset : Statistics := { counters := List.replicate 8 Counter.blank, totals := .zero }

/-- The same value for each latch. -/
def PerLatch.all {α : Type} (v : α) : PerLatch α :=
  { restarted := v, linkState := .all v, farAlarm := .all v, receiverFault := .all v, signalModel := v,
    tokensExhausted := .all v, outcomesWaiting := v, outcomeOverrun := v, counterSaturated := v, hostOverrun := v,
    lateAccept := v }

/-- The factory mask: closed for every latch except RESTARTED (R168). -/
def maskFactory : PerLatch Bool := { PerLatch.all false with restarted := true }

/-- The notice unit with every latch clear (R168). -/
def NoticeUnit.clear (mask : PerLatch Bool) : NoticeUnit := { latches := .all none, mask := mask }

/-- The cabinet link port after any reset (R139). -/
def Link.atReset : Link :=
  { framer := .idle, received := [], asked := [], outbound := [], reports := [], restart := none, crcErrors := 0,
    overruns := 0, noticesDropped := 0 }

/-- The record of payloads sent at each reset and enable: four payloads of thirty zero octets (R123). -/
def sentZero : List (List Octet) := List.replicate 4 (List.replicate 30 0)

/-- A port after any reset (Table 6-3): HUNT when its approach is enabled, DISABLED otherwise. The fields Table 6-3 does not
list are 0, empty or clear (DESIGN CHOICE, log entry 29), and a return frame in progress is cut (DESIGN CHOICE, log entry
33). -/
def Port.atReset (enabled : Bool) : Port :=
  { framer := if enabled then .hunt else .disabled, bits := [], passed := 0, expected := 0, judged := [], store := [],
    centring := false, centringIdle := 0, repeats := 0, lastSlip := .none, quarter := none, history := [],
    echo := false, farAlarm := false, senderFault := false, force := false, markerInsertion := false,
    crcInsertion := .none, returnPos := 0, sent := sentZero, rotation := 0, sending := none }

/-- Body of the RESTARTED notice (Table 10-5): kind 0, no approach, the reset as detail, part time 0. -/
def restartedNotice (detail : Octet) : OutMessage :=
  { kind := .notice, tag := 0, body := [0, 255, detail, 0, 0, 0, 0], final := false }

end Sys2Proof.Machine
end

