-- ==== Sys2Proof/Machine/State.lean ====
section
/-! DEFINITION. The state of the WL4620: every register, queue, buffer, timer and flag its spec names, as plain data,
and the queue of waiting commands; the ways a step could stop; and the state after power-on reset. -/

namespace Sys2Proof.Machine

/-- Faults: none. No rule of spec/ describes an event that stops the part, so no meaning ends in a fault. -/
inductive Fault where
deriving DecidableEq, Repr

/-- Refusals. -/
inductive Refusal where
  /-- Raised by `exec` for a command that has no meaning yet; no arm raises it now. Safe: the machine stops. -/
  | notModelled (mnemonic : String)
deriving DecidableEq, Repr

/-- The whole machine. `pending` is the queue of commands that wait, oldest first; `occupancyFed` and `choices` are
the model's own (DESIGN CHOICE, log entries 3 and 8); every other field is the spec's. -/
structure State where
  pending : List Instr
  /-- RSTn is low (R171). -/
  held : Bool
  /-- Operating mode (R146). -/
  mode : Mode
  /-- Part time. -/
  now : PartTime
  /-- Cabinet link rate in force, as the straps RATE1:0 (R132). -/
  rate : BitVec 2
  /-- Configuration sections (Table 8-2). -/
  config : Configuration
  /-- Telegram intake (R3 to R6). -/
  intake : Intake
  /-- Request table, oldest admission first (R7). -/
  table : List Entry
  /-- Admission counter (R7). -/
  admissions : BitVec 16
  /-- Recent bus cache, in the order in which the times of entry were written (R18). -/
  cache : List CacheEntry
  /-- Signal model (chapter 3). -/
  model : SignalModel
  /-- Priority planner and command exchange (chapters 4 and 5). -/
  planner : Planner
  /-- Outcome buffer (R159). -/
  outcomes : OutcomeBuffer
  /-- Statistics unit (R161 to R165). -/
  stats : Statistics
  /-- Notice unit (R166 to R168). -/
  notices : NoticeUnit
  /-- Cabinet link port (chapter 7). -/
  link : Link
  /-- Approach ports A to D (chapter 6). -/
  ports : PerApproach Port
  /-- The TABLE_OCCUPANCY feed of the present instant has been made (model's own, DESIGN CHOICE, log entry 8). -/
  occupancyFed : Bool
  /-- How many free choices of order have been used (model's own, DESIGN CHOICE, log entry 3). -/
  choices : Nat
deriving DecidableEq, Repr

/-- The part right after power-on reset: the factory configuration (R156), STANDBY (R146), every block at its
power-on value, RESTARTED latched with its mask open and its NOTICE queued (R168). The straps are taken as 00
(DESIGN CHOICE, log entry 2). -/
def State.reset : State :=
  { pending := [], held := false, mode := .standby, now := 0, rate := 0, config := .factory, intake := .atReset,
    table := [], admissions := 0, cache := [], model := .atReset, planner := .atReset (.all 3) 300 2,
    outcomes := .atReset, stats := .atReset,
    notices := { latches := { PerLatch.all none with restarted := some { detail := 0, time := 0 } },
                 mask := maskFactory },
    link := { Link.atReset with outbound := [restartedNotice 0] },
    ports := .all (.atReset true), occupancyFed := false, choices := 0 }

end Sys2Proof.Machine
end

