-- ==== Sys2Proof/Machine/Flags.lean ====
section
/-! DEFINITION. Reading and replacing one of several like things, and the values that follow from the state without
being stored: due times, the ATTN pin, the number of unanswered asked messages, the success percentage. -/

namespace Sys2Proof.Machine

/-! ### One of several like things -/

/-- The value of one approach. -/
def PerApproach.get {α : Type} (v : PerApproach α) : Approach → α
  | .a => v.a
  | .b => v.b
  | .c => v.c
  | .d => v.d

/-- Replace the value of one approach. -/
def PerApproach.set {α : Type} (v : PerApproach α) (x : Approach) (w : α) : PerApproach α :=
  match x with
  | .a => { v with a := w }
  | .b => { v with b := w }
  | .c => { v with c := w }
  | .d => { v with d := w }

/-- The value of one source. -/
def PerSource.get {α : Type} (v : PerSource α) : Source → α
  | .port x => v.ports.get x
  | .cabinet => v.cabinet

/-- Replace the value of one source. -/
def PerSource.set {α : Type} (v : PerSource α) (q : Source) (w : α) : PerSource α :=
  match q with
  | .port x => { v with ports := v.ports.set x w }
  | .cabinet => { v with cabinet := w }

/-- The value of a class; numbers above 3 do not occur (R8, R153). -/
def PerClass.get {α : Type} (v : PerClass α) : Nat → α
  | 0 => v.c0
  | 1 => v.c1
  | 2 => v.c2
  | _ => v.c3

/-- Replace the value of a class. -/
def PerClass.set {α : Type} (v : PerClass α) (n : Nat) (w : α) : PerClass α :=
  match n with
  | 0 => { v with c0 := w }
  | 1 => { v with c1 := w }
  | 2 => { v with c2 := w }
  | _ => { v with c3 := w }

/-- The value of one latch. -/
def PerLatch.get {α : Type} (v : PerLatch α) : Latch → α
  | .restarted => v.restarted
  | .linkState x => v.linkState.get x
  | .farAlarm x => v.farAlarm.get x
  | .receiverFault x => v.receiverFault.get x
  | .signalModel => v.signalModel
  | .tokensExhausted x => v.tokensExhausted.get x
  | .outcomesWaiting => v.outcomesWaiting
  | .outcomeOverrun => v.outcomeOverrun
  | .counterSaturated => v.counterSaturated
  | .hostOverrun => v.hostOverrun
  | .lateAccept => v.lateAccept

/-- Replace the value of one latch. -/
def PerLatch.set {α : Type} (v : PerLatch α) (l : Latch) (w : α) : PerLatch α :=
  match l with
  | .restarted => { v with restarted := w }
  | .linkState x => { v with linkState := v.linkState.set x w }
  | .farAlarm x => { v with farAlarm := v.farAlarm.set x w }
  | .receiverFault x => { v with receiverFault := v.receiverFault.set x w }
  | .signalModel => { v with signalModel := w }
  | .tokensExhausted x => { v with tokensExhausted := v.tokensExhausted.set x w }
  | .outcomesWaiting => { v with outcomesWaiting := w }
  | .outcomeOverrun => { v with outcomeOverrun := w }
  | .counterSaturated => { v with counterSaturated := w }
  | .hostOverrun => { v with hostOverrun := w }
  | .lateAccept => { v with lateAccept := w }

/-! ### Part time (spec/00, "Part time") -/

/-- The tenths from `earlier` to `later`, modulo the wrap. -/
def elapsed (later earlier : PartTime) : Nat := (later - earlier).toNat

/-- A due time moved on by a number of tenths. -/
def after (t : PartTime) (tenths : Nat) : PartTime := t + BitVec.ofNat 32 tenths

/-- The instant `due` is the present or lies in the past, the two less than half a wrap apart. -/
def reached (present due : PartTime) : Bool := elapsed present due < 2147483648

/-! ### Values that follow from the state -/

/-- A latch is set and its mask setting is open. -/
def State.latchShows (s : State) (l : Latch) : Bool := (s.notices.latches.get l).isSome && s.notices.mask.get l

/-- ATTN is asserted (R168); it is released while RSTn is low (R171). -/
def State.attn (s : State) : Bool := !s.held && latchesInOrder.any s.latchShows

/-- Unanswered asked messages: those queued and those whose REPLY is queued (R136). -/
def State.unanswered (s : State) : Nat :=
  s.link.asked.length + (s.link.outbound.filter (fun m => m.kind == .reply)).length

/-- CL_TXD is held at one (R171), or idle at one because nothing is queued (R132). -/
def State.lineIdle (s : State) : Bool := s.held || s.link.outbound.isEmpty

/-- ApxTXD and ApxTXC are held at one while RSTn is low (R171), and idle at one where no return frame is being sent
(R129, R131). -/
def State.approachIdle (s : State) (x : Approach) : Bool := s.held || (s.ports.get x).sending.isNone

/-- Real work is in flight (R150): a command in the slot, or an active grant with its shadow flag clear. -/
def State.workInFlight (s : State) : Bool :=
  s.planner.slot.isSome || (match s.planner.grant with | some g => !g.shadow | none => false)

/-- The port of an approach is ALIGNED: its link state (R111). -/
def State.linkAligned (s : State) (x : Approach) : Bool := (s.ports.get x).framer == .aligned

/-- Time remaining in the cycle ledger, B_rem (R84). -/
def Ledger.remaining (l : Ledger) : Nat := l.timeLimit - l.committed

/-- The success percentage (R165). -/
def Totals.percentage (t : Totals) : Nat :=
  if t.sent = 0 then 0 else min 100 (100 * (t.accepted + t.answeredPartly) / t.sent)

/-- The entry of a bus, if the table holds one. -/
def State.findEntry (s : State) (bus : Nat) : Option Entry := s.table.find? (fun e => e.bus == bus)

/-- The cache entry of a bus, if the cache holds one. -/
def State.findCached (s : State) (bus : Nat) : Option CacheEntry := s.cache.find? (fun c => c.bus == bus)

/-- The indication that goes with a state and an eligibility (R79). -/
def indicationOf : EntryState → Eligibility → Indication
  | .new, _ => .none
  | .far, _ => .none
  | .watch, .hold => .hold
  | .watch, _ => .none
  | .covered, _ => .covered
  | .waiting, _ => .wait
  | .commanded, _ => .wait
  | .granted, _ => .granted
  | .spent, _ => .none
  | .denied, _ => .denied

end Sys2Proof.Machine
end

