-- ==== Sys2Proof/Machine/Ops.lean ====
section
/-! DEFINITION. The operations every block shares: replacing a part of the state, latching a notice, counting an
event, queueing a message, triggering a pass, and rewriting entries of the request table. -/

namespace Sys2Proof.Machine

/-! ### Parts of the state -/

/-- Apply a function to the planner's state. -/
def State.onPlanner (s : State) (f : Planner → Planner) : State := { s with planner := f s.planner }

/-- Apply a function to the cabinet link port's state. -/
def State.onLink (s : State) (f : Link → Link) : State := { s with link := f s.link }

/-- Apply a function to the port of approach `x`. -/
def State.onPort (s : State) (x : Approach) (f : Port → Port) : State :=
  { s with ports := s.ports.set x (f (s.ports.get x)) }

/-- Apply a function to the fixed totals (R165). -/
def State.onTotals (s : State) (f : Totals → Totals) : State :=
  { s with stats := { s.stats with totals := f s.stats.totals } }

/-- A 16-bit tally that stays at 65535 (R139, R159). -/
def tally16 (n : Nat) : Nat := min 65535 (n + 1)

/-- A fixed total that stays at 4,294,967,295 (R165). -/
def tally32 (n : Nat) : Nat := min 4294967295 (n + 1)

/-! ### Outbound queue (R138) -/

/-- A message joins the outbound queue. -/
def queueMessage (m : OutMessage) (s : State) : State := s.onLink fun k => { k with outbound := k.outbound ++ [m] }

/-- A NOTICE joins only when fewer than 10 messages are queued; otherwise it is dropped and tallied (R138). -/
def offerNotice (l : Latch) (detail : Nat) (s : State) : State :=
  if s.link.outbound.length < 10 then
    queueMessage { kind := .notice, tag := 0,
                   body := [octet l.kindCode, octet l.approachOctet, octet detail] ++ octets4 s.now.toNat,
                   final := false } s
  else s.onLink fun k => { k with noticesDropped := tally16 k.noticesDropped }

/-- A latching event (R166): a set latch keeps its first detail and time; a clear one is set, and a NOTICE is
offered when its mask is open. -/
def latchNotice (l : Latch) (detail : Nat) (s : State) : State :=
  match s.notices.latches.get l with
  | some _ => s
  | none =>
    let s1 := { s with notices := { s.notices with
                          latches := s.notices.latches.set l (some { detail := detail, time := s.now }) } }
    if s.notices.mask.get l then offerNotice l detail s1 else s1

/-! ### Counting (R162) -/

/-- The counter selects this event, sub-event and source (R162). -/
def Counter.selects (c : Counter) (ev : EventKind) (sub : Nat) (src : Option Source) : Bool :=
  c.event == some ev && (subEventCount ev == 0 || c.subMask.getLsbD sub) &&
    (match src with | none => true | some q => c.sourceMask.getLsbD q.index)

/-- Add to a counter, which stays at 4,294,967,295 (R162, R163). -/
def Counter.add (c : Counter) (n : Nat) : Counter := { c with value := min 4294967295 (c.value + n) }

/-- The addition brings the counter to its limit (R162). -/
def Counter.saturates (c : Counter) (n : Nat) : Bool := c.value < 4294967295 && 4294967295 ≤ c.value + n

/-- Add to each counter the amount `f` gives it, and latch COUNTER_SATURATED for each that reaches its limit (R162), in
counter order, so that the lowest number is the detail (DESIGN CHOICE, log entry 32). -/
def addToCounters (f : Counter → Nat) (s : State) : State :=
  let full := (List.range s.stats.counters.length).filter fun i =>
    match s.stats.counters[i]? with
    | some c => c.saturates (f c)
    | none => false
  let s1 := { s with stats := { s.stats with counters := s.stats.counters.map fun c => c.add (f c) } }
  full.foldl (fun st i => latchNotice .counterSaturated i st) s1

/-- One event reaches the statistics unit with its sub-event and source (R162). -/
def countEvent (ev : EventKind) (sub : Nat) (src : Option Source) (s : State) : State :=
  addToCounters (fun c => if c.selects ev sub src then 1 else 0) s

/-- One TELEGRAM_DISCARD with its reason and source (R3, R12). -/
def countDiscard (why : Discard) (src : Source) (s : State) : State :=
  countEvent .telegramDiscard why.index (some src) s

/-! ### Pass triggers (R65, R66) -/

/-- A pass trigger: dropped in STANDBY; it sets the pass-due mark while a pass runs and otherwise makes one due. -/
def triggerPass (s : State) : State :=
  if s.mode = .standby then s
  else if s.planner.passRunning then s.onPlanner fun p => { p with passMark := true }
  else s.onPlanner fun p => { p with passDue := true }

/-! ### Request table -/

/-- Set an entry's state and wait reason, rewriting its indication (R78, R79). -/
def Entry.place (e : Entry) (st : EntryState) (why : Option WaitReason) : Entry :=
  { e with state := st, reason := why, indication := indicationOf st e.est.eligibility }

/-- Rewrite the entry of a bus, wherever it stands. -/
def updateEntry (bus : Nat) (f : Entry → Entry) (s : State) : State :=
  { s with table := s.table.map fun e => if e.bus = bus then f e else e }

/-- Remove the entry of a bus; the others keep their order (R7). -/
def removeEntry (bus : Nat) (s : State) : State := { s with table := s.table.filter fun e => e.bus != bus }

/-! ### Outcome buffer (R157 to R159) -/

/-- Arrival error, clamped to ±1270 (R158): present for a CHECK_OUT of an entry that holds a command time. -/
def arrivalError (e : Entry) (closeTime : PartTime) (byCheckOut : Bool) : Option Int :=
  match byCheckOut, e.commandTime with
  | true, some t =>
    some (max (-1270) (min 1270 ((elapsed closeTime t : Int) - ((e.etaAtCommand.getD 0 : Nat) : Int))))
  | _, _ => none

/-- The outcome record of a leaving entry (Table 9-1). -/
def outcomeRecord (e : Entry) (code : OutcomeCode) (closeTime : PartTime) (byCheckOut : Bool) : OutcomeRecord :=
  { bus := e.bus, route := e.route, approach := e.approach, cls := e.cls, phase := e.phase, code := code,
    admitTime := e.admitTime, closeTime := closeTime, latenessAtAdmission := e.latenessAtAdmission,
    latenessAtClose := e.lateness, score := e.est.score, action := e.action, requested := e.requested.getD 0,
    applied := e.applied.getD 0, role := e.role, attempts := e.attempts, coastedEver := e.est.coastedEver,
    shadow := e.shadow, admittedByPosition := e.admittedByPosition,
    arrivalError := arrivalError e closeTime byCheckOut }

/-- A record arrives at the outcome buffer (R159). -/
def outcomeArrives (r : OutcomeRecord) (s : State) : State :=
  let count := s.outcomes.records.length
  if count < 64 then
    let s1 := { s with outcomes := { s.outcomes with records := s.outcomes.records ++ [r] } }
    if count < s.config.general.outcomeThreshold && s.config.general.outcomeThreshold ≤ count + 1 then
      latchNotice .outcomesWaiting (count + 1) s1
    else s1
  else
    let kept := match s.config.general.outcomeMode with
      | .wrap => s.outcomes.records.tail ++ [r]
      | .stop => s.outcomes.records
    latchNotice .outcomeOverrun kept.length
      { s with outcomes := { records := kept, lost := tally16 s.outcomes.lost } }

/-! ### Recent bus cache (R18) -/

/-- The cache entry replaced when the cache is full: the greatest age, and among equal ages the one written first,
the list standing in the order of writing. -/
def oldestCached (now : PartTime) : List CacheEntry → Option CacheEntry
  | [] => none
  | c :: cs =>
    match oldestCached now cs with
    | none => some c
    | some d => if elapsed now d.time ≤ elapsed now c.time then some c else some d

/-- A bus id enters the cache, or its time and approach are replaced (R18). -/
def cacheBus (bus : Nat) (x : Approach) (s : State) : State :=
  let others := s.cache.filter fun c => c.bus != bus
  let fresh : CacheEntry := { bus := bus, approach := x, time := s.now }
  let kept :=
    if others.length < s.cache.length || s.cache.length < 16 then others
    else match oldestCached s.now others with
      | some d => others.filter fun c => c.bus != d.bus
      | none => others
  { s with cache := kept ++ [fresh] }

/-! ### The part while RSTn is low (R171) -/

/-- The effect of a command of a part that is out of reset; while RSTn is low it has none (R171, DEDUCED, log entry 7). -/
def whenRunning (s : State) (f : State → State) : Host.Outcome State Fault Refusal :=
  .next (if s.held then s else f s)

end Sys2Proof.Machine
end

