-- ==== Sys2Proof/Machine/Signal.lean ====
section
/-! DEFINITION. The signal model (chapter 3): phase and plan tables as the model reads them, the elapsed time of the
anchor, and the projection of green windows. -/

namespace Sys2Proof.Machine

/-! ### Tables (R44, R45) -/

/-- Phase count n (R44). -/
def State.phaseCount (s : State) : Nat := s.config.phases.length

/-- The record of phase `i`, 1 to n; a phase that is not one of the intersection's has the zero record. -/
def Configuration.phase (c : Configuration) (i : Nat) : PhaseRecord :=
  match i with
  | 0 => { yellow := 0, redClear := 0, minGreen := 0, pedMin := 0, maxExtend := 0, maxAdvance := 0, truncatable := false }
  | j + 1 => (c.phases[j]?).getD
      { yellow := 0, redClear := 0, minGreen := 0, pedMin := 0, maxExtend := 0, maxAdvance := 0, truncatable := false }

/-- The phase after phase `i` in the ring of `n` (R44). -/
def phaseAfter (n i : Nat) : Nat := if i < n then i + 1 else 1

/-- The plan a plan id names: the first plan of the table that holds it (R45, R152). -/
def Configuration.plan (c : Configuration) (id : Nat) : Option Plan := c.plans.find? fun p => p.id == id

/-- Split of phase `i` under a plan. -/
def Plan.split (p : Plan) (i : Nat) : Nat := (p.splits[i - 1]?).getD 0

/-- Planned green G_i of a phase under a plan (R45); a result below 0 is taken as 0. -/
def Configuration.plannedGreen (c : Configuration) (p : Plan) (i : Nat) : Nat :=
  p.split i - (c.phase i).yellow - (c.phase i).redClear

/-! ### Anchor (R49, R58, R62) -/

/-- Elapsed time e in the anchored interval (R49). -/
def Anchor.elapsedAt (a : Anchor) (now : PartTime) : Nat := a.elapsed + Machine.elapsed now a.arrival

/-- The anchor's pedestrian call of phase `i` is set (R58). -/
def Anchor.pedCall (a : Anchor) (i : Nat) : Bool := a.pedCalls.getLsbD (i - 1)

/-- The anchor shows phase `p` in GREEN. -/
def State.anchorGreen (s : State) (p : Nat) : Bool :=
  match s.model.anchor with
  | some a => a.phase == p && a.interval == .green
  | none => false

/-- The anchor and its plan while the model is TRACKING (R50): the base of every projection. TRACKING without a plan, which
no step reaches, offers none (DESIGN CHOICE, log entry 16). -/
def State.trackedPlan (s : State) : Option (Anchor × Plan) :=
  match s.model.state, s.model.anchor with
  | .tracking, some a => (s.config.plan a.plan).map fun p => (a, p)
  | _, _ => none

/-- Cycle length of the anchored plan, or none outside TRACKING (R62). -/
def State.cycleLength (s : State) : Option Nat := s.trackedPlan.map fun ap => ap.2.cycle

/-! ### Projection (R55 to R61) -/

/-- Effective minimum M_i' (R58). -/
def Configuration.effectiveMin (c : Configuration) (a : Anchor) (i : Nat) : Nat :=
  if a.pedCall i then max (c.phase i).minGreen (c.phase i).pedMin else (c.phase i).minGreen

/-- Floor of a window: the shortest length to which an early green may cut it (R58). -/
def Configuration.floor (c : Configuration) (a : Anchor) (now : PartTime) (w : Window) : Nat :=
  if w.current then c.effectiveMin a w.phase - a.elapsedAt now else c.effectiveMin a w.phase

/-- Slack of a window (R58). -/
def Configuration.slack (c : Configuration) (a : Anchor) (now : PartTime) (w : Window) : Nat :=
  if (c.phase w.phase).truncatable then (w.stop - w.start) - c.floor a now w else 0

/-- The green windows from phase `i` starting at `start`, one phase after another round the ring (R57); `fuel` bounds
how many. -/
def Configuration.ringWindows (c : Configuration) (p : Plan) : Nat → Nat → Nat → List Window
  | 0, _, _ => []
  | fuel + 1, i, start =>
    let stop := start + c.plannedGreen p i
    { phase := i, start := start, stop := stop, current := false } ::
      c.ringWindows p fuel (phaseAfter c.phases.length i) (stop + (c.phase i).yellow + (c.phase i).redClear)

/-- Extension in force on phase `k` under an adjustment, X_k (R59). -/
def Adjustment.extension (adj : Adjustment) (k : Nat) : Nat :=
  match adj with
  | .extend p total => if p = k then total else 0
  | .advance _ _ => 0
  | .none => 0

/-- How many windows a projection is built from before it is cut at H. A window starts at least a yellow of 20 after
the one before, H is at most 2550 and an advance moves a window by at most 300, so no window beyond these can start
within H (R55 counts 128 without the advance). -/
def projectionFuel : Nat := 160

/-- All windows before the cut at H, without an advance (R56, R57, Table 3-4). -/
def Configuration.timeline (c : Configuration) (p : Plan) (a : Anchor) (now : PartTime) (adj : Adjustment) :
    List Window :=
  let e := a.elapsedAt now
  let k := a.phase
  let next := phaseAfter c.phases.length k
  match a.interval with
  | .green =>
    let r := c.plannedGreen p k + adj.extension k - e
    { phase := k, start := 0, stop := r, current := true } ::
      c.ringWindows p projectionFuel next (r + (c.phase k).yellow + (c.phase k).redClear)
  | .yellow => c.ringWindows p projectionFuel next ((c.phase k).yellow - e + (c.phase k).redClear)
  | .redClear => c.ringWindows p projectionFuel next ((c.phase k).redClear - e)

/-- The windows before the target window of an advance of phase `p`, which is the first green window of `p` that is
not the current green, and those from it on (R60 steps 1 and 2). -/
def splitAtTarget (p : Nat) : List Window → List Window × List Window
  | [] => ([], [])
  | w :: ws =>
    if w.phase = p ∧ w.current = false then ([], w :: ws)
    else
      let r := splitAtTarget p ws
      (w :: r.1, r.2)

/-- How much R60 step 3 takes from each window before the target, given them last first. -/
def takeBack (slackOf : Window → Nat) (p : Nat) : Nat → List Window → List Nat
  | _, [] => []
  | x, w :: ws =>
    let t := if w.phase = p then 0 else min (slackOf w) x
    t :: takeBack slackOf p (x - t) ws

/-- Move windows earlier by `shift` and by what is taken from the windows before them (R60 step 4). -/
def shiftWindows : Nat → List Window → List Nat → List Window
  | shift, w :: ws, t :: ts =>
    { w with start := w.start - shift, stop := w.stop - shift - t } :: shiftWindows (shift + t) ws ts
  | shift, ws, [] => ws.map fun w => { w with start := w.start - shift, stop := w.stop - shift }
  | _, [], _ => []

/-- Take an advance of `x` toward phase `p` out of a timeline (R60). -/
def applyAdvance (slackOf : Window → Nat) (p x : Nat) (ws : List Window) : List Window :=
  let before := (splitAtTarget p ws).1
  shiftWindows 0 ws (takeBack slackOf p x before.reverse).reverse

/-- The projection under an adjustment, cut at the horizon (R55): every window whose start is not beyond H. -/
def Configuration.project (c : Configuration) (p : Plan) (a : Anchor) (now : PartTime) (adj : Adjustment) :
    List Window :=
  let ws := c.timeline p a now adj
  let ws := match adj with
    | .advance q x => applyAdvance (c.slack a now) q x ws
    | .extend _ _ => ws
    | .none => ws
  ws.takeWhile fun w => w.start ≤ c.general.horizon

/-- The adjustment the active grant puts into the projection (R59 to R61): none for a shadow grant. -/
def adjustmentOf : Option Grant → Adjustment
  | none => .none
  | some g =>
    if g.shadow then .none
    else match g.state, g.action with
      | .running, _ => .extend g.phase g.total
      | .armed, .advance => .advance g.phase g.applied
      | .armed, .extend => .none

/-- The projection the model offers under an adjustment, or none outside TRACKING (R55). -/
def State.projectWith (s : State) (adj : Adjustment) : Option (List Window) :=
  s.trackedPlan.map fun ap => s.config.project ap.2 ap.1 s.now adj

/-- The projection at the present instant (R55). -/
def State.projection (s : State) : Option (List Window) := s.projectWith (adjustmentOf s.planner.grant)

/-- Next green of phase `p` in a projection (R62): the start of the first window of `p` whose end is greater than 0. -/
def nextGreen (ws : List Window) (p : Nat) : Option Nat :=
  (ws.find? fun w => w.phase == p && 0 < w.stop).map fun w => w.start

end Sys2Proof.Machine
end

