-- ==== Sys2Proof/Machine/Exchange.lean ====
section
/-! DEFINITION. Tokens, the cycle ledger and the life of grants (R82 to R86, R98 to R107), which the request table's
exits, the signal model and the command exchange share. -/

namespace Sys2Proof.Machine

/-! ### Tokens (R82, R83) -/

/-- One token is taken from an approach; a taking from 1 to 0 latches TOKENS_EXHAUSTED, one at 0 leaves 0 (R82). -/
def takeToken (x : Approach) (s : State) : State :=
  let n := s.planner.tokens.get x
  let s1 := s.onPlanner fun p => { p with tokens := p.tokens.set x (n - 1) }
  if n = 1 then latchNotice (.tokensExhausted x) 0 s1 else s1

/-- One approach at a cycle start (R83). -/
def refillOne (s : State) (x : Approach) : State :=
  let a := s.config.approaches.get x
  let c := s.planner.refills.get x + 1
  let n := s.planner.tokens.get x
  if a.refill ≤ c then
    s.onPlanner fun p => { p with refills := p.refills.set x 0,
                                  tokens := if n < a.kMax then p.tokens.set x (n + 1) else p.tokens }
  else s.onPlanner fun p => { p with refills := p.refills.set x c }

/-! ### Cycle ledger (R84 to R86) -/

/-- Apply a function to the ledger. -/
def State.onLedger (s : State) (f : Ledger → Ledger) : State := s.onPlanner fun p => { p with ledger := f p.ledger }

/-- Renewal at a cycle start (R84). -/
def renewLedger (s : State) : State :=
  s.onLedger fun _ => { timeLimit := s.config.general.bCycle, grantLimit := s.config.general.gCycle, committed := 0,
                        leads := 0, reservation := none }

/-- A cycle start announced to the planner (R53): tokens of each approach in turn, then the ledger. -/
def cycleStart (s : State) : State := renewLedger (allApproaches.foldl refillOne s)

/-- Reservation of a handed-over command (R85). -/
def Ledger.reserve (l : Ledger) (amount : Nat) (role : Role) : Ledger :=
  { l with committed := l.committed + amount, leads := if role = .lead then l.leads + 1 else l.leads,
           reservation := some { amount := amount, role := role } }

/-- Conversion at an acceptance of `applied` (R86); with no reservation it changes nothing. -/
def Ledger.convert (l : Ledger) (applied : Nat) : Ledger :=
  match l.reservation with
  | some r => { l with committed := l.committed - (r.amount - applied), reservation := none }
  | none => l

/-- Release at a refusal, a timeout or a discard (R86); with no reservation it changes nothing. -/
def Ledger.release (l : Ledger) : Ledger :=
  match l.reservation with
  | some r => { l with committed := l.committed - r.amount,
                       leads := if r.role = .lead then l.leads - 1 else l.leads, reservation := none }
  | none => l

/-- Direct charge at the adoption of a late answer (R86). -/
def Ledger.charge (l : Ledger) (applied : Nat) (role : Role) : Ledger :=
  { l with committed := l.committed + applied, leads := if role = .lead then l.leads + 1 else l.leads }

/-! ### Command slot (R88, R89) -/

/-- Remove the frame of a command from the outbound queue unless its transmission has begun. The frame at the head is
the one in transmission (R89, R138, DEDUCED, log entry 6). -/
def removeUnsent (tag : Nat) : List OutMessage → List OutMessage
  | [] => []
  | m :: ms => m :: ms.filter fun q => !(q.kind == .priorityCommand && q.tag == octet tag)

/-- The slot is emptied by a settlement, a timeout or a discard, and the command's frame is withdrawn if it has not
begun transmission (R89, R91 to R94, R105). -/
def emptySlot (s : State) : State :=
  match s.planner.slot with
  | none => s
  | some c => (s.onPlanner fun p => { p with slot := none }).onLink fun k =>
      { k with outbound := removeUnsent c.tag k.outbound }

/-! ### Grants (R98 to R107) -/

/-- Apply a function to the active grant. -/
def State.onGrant (s : State) (f : Grant → Grant) : State := s.onPlanner fun p => { p with grant := p.grant.map f }

/-- A member goes to SPENT at the close of its grant (R101). -/
def Entry.spend (now : PartTime) (ran : Bool) (e : Entry) : Entry :=
  { e.place .spent none with closeTime := some now, grantRan := some ran }

/-- The active grant closes (R101). -/
def closeGrant (s : State) : State :=
  match s.planner.grant with
  | none => s
  | some g =>
    let s1 : State := { s with table := s.table.map fun e =>
                  if g.members.contains e.bus then e.spend s.now (g.state == GrantState.running) else e }
    s1.onPlanner fun p =>
      { p with grant := none,
               revise := match p.revise with
                 | some r => if r.grantId = g.id then none else some r
                 | none => none }

/-- Which revise stays when one is to be made pending while another may be (R104). -/
def mergeRevise (old : Option Revise) (r : Revise) : Option Revise :=
  match old with
  | none => some r
  | some o => if o.grantId = r.grantId then some r else if r.revoke && !o.revoke then some r else some o

/-- A revise is made pending (R104). -/
def makePending (r : Revise) (s : State) : State := s.onPlanner fun p => { p with revise := mergeRevise p.revise r }

/-- A revise of the active grant to `total` is called for: made pending for a real grant (R104), taken as accepted at
once for a shadow grant (R107). -/
def callRevise (g : Grant) (total : Nat) (s : State) : State :=
  if g.shadow then
    if total = 0 then closeGrant s else s.onGrant fun q => { q with total := total }
  else makePending { grantId := g.id, phase := g.phase, total := total, approach := g.approach, revoke := false } s

/-- Time from now to the planned end of the current green, without any extension (R103). -/
def plannedRest (c : Configuration) (p : Plan) (a : Anchor) (now : PartTime) (phase : Nat) : Nat :=
  c.plannedGreen p phase - a.elapsedAt now

/-- Need of one member at the trim test (R103). -/
def memberNeed (now : PartTime) (clearance rest : Nat) (e : Entry) : Int :=
  ((e.est.winEnd - elapsed now e.est.evalTime + clearance : Nat) : Int) - rest

/-- The needed total: the greatest need over the members present, floored at 0 (R103). -/
def neededTotal (now : PartTime) (clearance rest : Nat) (members : List Entry) : Nat :=
  members.foldl (fun m e => max m (memberNeed now clearance rest e).toNat) 0

/-- The entries of the table that are members of a grant. -/
def State.membersOf (s : State) (g : Grant) : List Entry := s.table.filter fun e => g.members.contains e.bus

/-- The trim test (R103). -/
def trimTest (s : State) : State :=
  match s.planner.grant, s.trackedPlan with
  | some g, some (a, p) =>
    if g.state = .running then
      let needed := neededTotal s.now s.config.general.clearance (plannedRest s.config p a s.now g.phase) (s.membersOf g)
      if (needed : Int) < (g.total : Int) - s.config.general.reviseThreshold then callRevise g needed s else s
    else s
  | _, _ => s

/-- A RUNNING grant whose list is empty is to be given back (R102): it carries an extension, and its green has not
yet passed its planned end or the model cannot tell. -/
def State.giveBack (s : State) (g : Grant) : Bool :=
  match g.state with
  | .armed => true
  | .running =>
    0 < g.total &&
      (match s.trackedPlan with
       | some (a, p) => a.elapsedAt s.now < s.config.plannedGreen p g.phase
       | none => true)

/-- The planner is told of the departure of an entry (R19 step 1): a GRANTED one leaves its member list and the grant
is judged (R102, R107); any other departure changes nothing here. -/
def tellDeparture (e : Entry) (s : State) : State :=
  if e.state = .granted then
    match s.planner.grant with
    | none => s
    | some g =>
      let g1 := { g with members := g.members.filter fun b => b != e.bus }
      let s1 := s.onPlanner fun p => { p with grant := some g1 }
      if g1.members.isEmpty then
        if s.giveBack g then callRevise g1 0 s1 else s1
      else trimTest s1
  else s

/-- The new grant of an accepted command (R91 step 4, R100). -/
def newGrant (s : State) (id : Nat) (action : Action) (phase requested applied : Nat) (x : Approach) (shadow : Bool)
    (members : List Nat) : Grant :=
  { id := id, action := action, phase := phase, requested := requested, applied := applied,
    total := if action = .extend then applied else 0, members := members,
    state := if action = .extend then .running else .armed, acceptTime := s.now, shadow := shadow,
    armLimit := if action = .extend then none else s.cycleLength.map fun c => after s.now c,
    outSeen := if action = .extend then none else some (!s.anchorGreen phase), approach := x }

/-- A grant just created closes at once when it is an extension whose phase the anchor does not show in GREEN (R91),
or an advance for which the model gives no cycle length (R100), for shadow and adopted grants alike (DEDUCED, log entry
19). -/
def closeIfVain (s : State) : State :=
  match s.planner.grant with
  | none => s
  | some g =>
    match g.action with
    | .extend => if s.anchorGreen g.phase then s else closeGrant s
    | .advance => if g.armLimit.isSome then s else closeGrant s

/-- A rise in the grant's extension total by an accepted amount: the pending revise naming the grant is discarded and
the trim test is made anew (R92). -/
def raiseTotal (amount : Nat) (s : State) : State :=
  match s.planner.grant with
  | none => s
  | some g =>
    trimTest <| s.onPlanner fun p =>
      { p with grant := some { g with total := g.total + amount },
               revise := match p.revise with
                 | some r => if r.grantId = g.id then none else some r
                 | none => none }

/-- An entry joins the active grant (R91, R92, R96, R97, R106). -/
def Entry.join (role : Role) (applied : Nat) (shadow : Bool) (e : Entry) : Entry :=
  { e.place .granted none with applied := some applied, role := some role, shadow := shadow }

/-- A valid status handed to the planner, with its phase and interval, decides the life of the grant (R99, R100). -/
def grantStatus (phase : Nat) (interval : Interval) (s : State) : State :=
  match s.planner.grant with
  | none => s
  | some g =>
    let shown := phase = g.phase ∧ interval = .green
    match g.state with
    | .running => if shown then s else closeGrant s
    | .armed =>
      if shown then
        if g.outSeen = some true then s.onGrant fun q => { q with state := .running, armLimit := none, outSeen := none }
        else s
      else s.onGrant fun q => { q with outSeen := some true }

/-! ### Model state (R52, R67) -/

/-- The planner learns that the model has entered or left TRACKING: the review timer starts or stops (R67), and an
ARMED grant closes unused when TRACKING is left (R100). -/
def signalPlanner (before now' : ModelState) (s : State) : State :=
  if now' = .tracking then s.onPlanner fun p => { p with review := some (after s.now 10) }
  else if before = .tracking then
    let s1 := s.onPlanner fun p => { p with review := none }
    match s1.planner.grant with
    | some g => if g.state = .armed then closeGrant s1 else s1
    | none => s1
  else s

/-- The model takes a state; only a change is signalled, to the notice unit and to the planner (R52). -/
def setModelState (st : ModelState) (s : State) : State :=
  if s.model.state = st then s
  else signalPlanner s.model.state st
    (latchNotice .signalModel st.code { s with model := { s.model with state := st } })

end Sys2Proof.Machine
end

