-- ==== Sys2Proof/Machine/Answers.lean ====
section
/-! DEFINITION. The command exchange (chapter 5): sending commands and revises, their answers, timeouts and late
answers, and the commands COMMAND_TRANSMITTED, ANSWER_TIMEOUT, LOST_TAG_FORGET and ARM_LIMIT. -/

namespace Sys2Proof.Machine

/-! ### Sending (R89) -/

/-- The tag after another, 1 to 255 (R89). -/
def tagAfter (t : Nat) : Nat := if t < 255 then t + 1 else 1

/-- The next tag, passing over the lost tag while it is held (R89). -/
def nextTag (counter : Nat) (lost : Option LostTag) : Nat :=
  match lost with
  | some l => if l.tag = tagAfter counter then tagAfter (tagAfter counter) else tagAfter counter
  | none => tagAfter counter

/-- Sub-event of COMMAND_SENT (R89, Table 9-2). -/
def sentIndex (c : Slot) : Nat :=
  match c.action, c.role with
  | .revise, _ => 2
  | .adjust _, .follower => 3
  | .adjust .extend, .lead => 0
  | .adjust .advance, .lead => 1

/-- The PRIORITY_COMMAND message of a slot record (Table 10-5); its envelope tag is the command's tag (R138). -/
def commandMessage (c : Slot) : OutMessage :=
  { kind := .priorityCommand, tag := octet c.tag,
    body := [octet c.action.code, octet c.phase] ++ octets2 c.amount ++ [octet c.grantId, octet (roleCode (some c.role))],
    final := false }

/-- A command is placed in the slot, queued and counted (R89 steps 3 to 5); the tag counter holds its tag. -/
def sendCommand (c : Slot) (s : State) : State :=
  let s1 := s.onPlanner fun p => { p with slot := some c, tagCounter := c.tag }
  let s2 := countEvent .commandSent (sentIndex c) (some (.port c.approach)) (queueMessage (commandMessage c) s1)
  match c.action, c.role with
  | .adjust _, .lead => s2.onTotals fun t => { t with sent := tally32 t.sent }
  | _, _ => s2

/-- The pending revise is sent (R81, R89, R104): a REVISE with role LEAD and the recorded grant id, phase, total and
approach; the pending revise is then cleared. -/
def sendRevise (r : Revise) (s : State) : State :=
  let tag := nextTag s.planner.tagCounter s.planner.lost
  sendCommand { tag := tag, action := .revise, phase := r.phase, amount := r.total, grantId := r.grantId, role := .lead,
                bus := none, approach := r.approach, commandTime := none, etaAtCommand := none, due := none }
    (s.onPlanner fun p => { p with revise := none })

/-- A command's answer due time from the instant its frame was transmitted (R89). -/
def answerDue (now : PartTime) (tAns : Nat) : PartTime := after now ((tAns + 99) / 100)

/-- The exchange takes the oldest report of a transmission (R89): it sets the due time of the command in the slot, and
changes nothing else for a command that no longer stands there. -/
def takeReport (s : State) : State :=
  match s.link.reports with
  | [] => s
  | r :: rest =>
    let s1 := s.onLink fun k => { k with reports := rest }
    match s.planner.slot with
    | some c =>
      if c.tag = r.tag ∧ c.due = none then s1.onPlanner fun p => { p with slot := some { c with due := some r.due } }
      else s1
    | none => s1

/-! ### Answers (R90) -/

/-- A verdict as read (R90): acceptance of an amount, or refusal with a reason that is FIRM or TRANSIENT. -/
inductive Verdict where
  | accept (applied : Nat) (someOnly : Bool)
  | refuse (firm : Bool)
deriving DecidableEq, Repr

/-- The verdict codes (Table 10-1). -/
inductive VerdictCode where | accept | someGiven | refuse
deriving DecidableEq, Repr

/-- A well-formed COMMAND_ANSWER body (R90, Table 10-5). -/
structure Answer where
  tag : Nat
  verdict : VerdictCode
  applied : Nat
  firm : Bool
deriving DecidableEq, Repr

/-- Read a COMMAND_ANSWER body; one of another length or with a code of no name is not well-formed (R90). -/
def readAnswer (body : List Octet) : Option Answer :=
  match body with
  | [tag, v, hi, lo, r] =>
    match (if v = 0 then some VerdictCode.accept else if v = 1 then some .someGiven
           else if v = 2 then some .refuse else none), readFlag r with
    | some verdict, some firm => some { tag := tag.toNat, verdict := verdict, applied := number [hi, lo], firm := firm }
    | _, _ => none
  | _ => none

/-- How an answer to a lead or follower command for `requested` is read (R90). -/
def Answer.read (a : Answer) (requested : Nat) : Verdict :=
  match a.verdict with
  | .accept => .accept requested false
  | .someGiven => if a.applied = 0 then .refuse false else .accept (min a.applied requested) true
  | .refuse => .refuse a.firm

/-- Sub-event of ANSWER for a verdict as read (R90). -/
def Verdict.event : Verdict → AnswerEvent
  | .accept _ false => .accept
  | .accept _ true => .someGiven
  | .refuse _ => .refuse

/-- Sub-event of ANSWER for an answer to a REVISE, whose applied amount is not read (R105). -/
def VerdictCode.event : VerdictCode → AnswerEvent
  | .accept => .accept
  | .someGiven => .someGiven
  | .refuse => .refuse

/-- One ANSWER event (R90, R94, R105). -/
def countAnswer (ev : AnswerEvent) (x : Option Approach) (s : State) : State :=
  countEvent .answer ev.index (x.map Source.port) s

/-! ### Settling (R91 to R94) -/

/-- The entry a command was chosen for is still in the table: it is the COMMANDED entry of that bus. A bus that left
and was admitted again while its command was in the slot is a new entry, not that one (R91 to R93, DEDUCED, log entry 9). -/
def State.stillCommanded (s : State) (bus : Nat) : Bool :=
  match s.findEntry bus with
  | some e => e.state == .commanded
  | none => false

/-- Rewrite the entry a command was chosen for, if it is still in the table. -/
def updateCommanded (bus : Nat) (f : Entry → Entry) (s : State) : State :=
  updateEntry bus (fun e => if e.state = .commanded then f e else e) s

/-- The acceptance of a lead command (R91). -/
def acceptLead (c : Slot) (act : Action) (applied : Nat) (someOnly : Bool) (s : State) : State :=
  let s1 := (emptySlot s).onLedger fun l => l.convert applied
  let s2 := takeToken c.approach s1
  let bus := c.bus.getD 0
  let present := s2.stillCommanded bus
  let g := newGrant s2 c.grantId act c.phase c.amount applied c.approach false (if present then [bus] else [])
  let s3 := s2.onPlanner fun p => { p with grant := some g }
  let s4 := if present then updateCommanded bus (Entry.join .lead applied false) s3
    else makePending { grantId := g.id, phase := g.phase, total := 0, approach := g.approach, revoke := false } s3
  closeIfVain <| s4.onTotals fun t =>
    if someOnly then { t with answeredPartly := tally32 t.answeredPartly } else { t with accepted := tally32 t.accepted }

/-- The acceptance of a follower command (R92). -/
def acceptFollower (c : Slot) (applied : Nat) (s : State) : State :=
  let s1 := (emptySlot s).onLedger fun l => l.convert applied
  let bus := c.bus.getD 0
  match s1.planner.grant with
  | some g =>
    if g.id = c.grantId then
      if s1.stillCommanded bus then
        raiseTotal applied
          ((updateCommanded bus (Entry.join .follower applied false) s1).onGrant fun q => { q with members := q.members ++ [bus] })
      else raiseTotal applied s1
    else updateCommanded bus (fun e => { e.place .waiting (some .needsGreen) with applied := some applied }) s1
  | none => updateCommanded bus (fun e => { e.place .waiting (some .needsGreen) with applied := some applied }) s1

/-- What a refusal does to the entry (R93). -/
def Entry.refuse (firm : Bool) (maxAttempts : Nat) (e : Entry) : Entry :=
  let e1 := { e with attempts := e.attempts + 1 }
  if firm then e1.place .denied none
  else if maxAttempts ≤ e1.attempts then e1.place .denied none
  else e1.place .waiting (some .needsGreen)

/-- A refusal or timeout settles the slot, the ledger and the entry (R93, R94 steps 1 to 3). -/
def refuseCommand (c : Slot) (firm : Bool) (s : State) : State :=
  let s1 := (emptySlot s).onLedger Ledger.release
  updateCommanded (c.bus.getD 0) (Entry.refuse firm s.config.general.maxAttempts) s1

/-- The answer to a lead or follower command in the slot (R91 to R93). -/
def settleAdjust (c : Slot) (act : Action) (v : Verdict) (s : State) : State :=
  match v, c.role with
  | .accept n p, .lead => acceptLead c act n p s
  | .accept n _, .follower => acceptFollower c n s
  | .refuse firm, .lead => (refuseCommand c firm s).onTotals fun t => { t with refused := tally32 t.refused }
  | .refuse firm, .follower => refuseCommand c firm s

/-- The answer to a REVISE in the slot (R105). -/
def settleRevise (c : Slot) (v : VerdictCode) (s : State) : State :=
  let s1 := emptySlot s
  match v with
  | .refuse => s1
  | _ =>
    match s1.planner.grant with
    | some g =>
      if g.id = c.grantId then
        if c.amount = 0 then closeGrant s1
        else if g.state = .running then s1.onGrant fun q => { q with total := c.amount }
        else s1
      else s1
    | none => s1

/-! ### Late answers (R95 to R97) -/

/-- The entry takes its command fields from the lost tag memory (R96, R97). -/
def Entry.adopt (m : LostTag) (applied : Nat) (e : Entry) : Entry :=
  { e.join m.role applied false with
      action := some m.action, requested := some m.requested, commandTime := some m.commandTime,
      etaAtCommand := some m.etaAtCommand }

/-- The entry of a lost command is in the table, in WAITING (R96, R97). -/
def State.lostWaits (s : State) (bus : Nat) : Bool :=
  match s.findEntry bus with
  | some e => e.state == .waiting
  | none => false

/-- Every condition of R96 for adopting a late acceptance of a lead command. -/
def State.adoptsLead (s : State) (m : LostTag) (applied : Nat) : Bool :=
  s.mode == .run && s.planner.grant.isNone && s.planner.slot.isNone &&
    applied ≤ s.planner.ledger.remaining && s.planner.ledger.leads < s.planner.ledger.grantLimit && s.lostWaits m.bus

/-- Every condition of R97 for adopting a late acceptance of a follower command. -/
def State.adoptsFollower (s : State) (m : LostTag) (applied : Nat) : Bool :=
  match s.planner.grant with
  | some g =>
    s.mode == .run && g.id == m.grantId && g.state == .running && s.planner.slot.isNone &&
      g.total + applied ≤ (s.config.phase g.phase).maxExtend && applied ≤ s.planner.ledger.remaining &&
      g.members.length < 5 && s.lostWaits m.bus
  | none => false

/-- A late acceptance of a lead command is adopted (R96). -/
def adoptLead (m : LostTag) (applied : Nat) (s : State) : State :=
  let s1 := takeToken m.approach (s.onLedger fun l => l.charge applied .lead)
  let g := newGrant s1 m.tag m.action m.phase m.requested applied m.approach false [m.bus]
  closeIfVain (updateEntry m.bus (Entry.adopt m applied) (s1.onPlanner fun p => { p with grant := some g }))

/-- A late acceptance of a follower command is adopted (R97). -/
def adoptFollower (m : LostTag) (applied : Nat) (s : State) : State :=
  let s1 := s.onLedger fun l => l.charge applied .follower
  let s2 := updateEntry m.bus (Entry.adopt m applied) s1
  raiseTotal applied (s2.onGrant fun g => { g with members := g.members ++ [m.bus] })

/-- The total a revoke restores (R96, R97): 0 for a lead, the grant's present total for a follower of the active grant. -/
def State.revokeTotal (s : State) (m : LostTag) : Nat :=
  match m.role, s.planner.grant with
  | .follower, some g => if g.id = m.grantId then g.total else 0
  | .follower, none => 0
  | .lead, _ => 0

/-- A late acceptance is revoked (R96, R97). -/
def revokeLate (m : LostTag) (s : State) : State :=
  makePending { grantId := m.grantId, phase := m.phase, total := s.revokeTotal m, approach := m.approach,
                revoke := true } s

/-- A late answer matched to the lost tag (R96, R97): counted LATE, the memory cleared; a refusal is discarded, an
acceptance adopted or revoked, with its notice and pass. -/
def lateAnswer (m : LostTag) (a : Answer) (s : State) : State :=
  let s1 := (countAnswer .late (some m.approach) s).onPlanner fun p => { p with lost := none }
  match a.read m.requested with
  | .refuse _ => s1
  | .accept applied _ =>
    match m.role with
    | .lead =>
      if s1.adoptsLead m applied then triggerPass (latchNotice .lateAccept 0 (adoptLead m applied s1))
      else triggerPass (latchNotice .lateAccept 1 (revokeLate m s1))
    | .follower =>
      if s1.adoptsFollower m applied then triggerPass (latchNotice .lateAccept 0 (adoptFollower m applied s1))
      else triggerPass (latchNotice .lateAccept 1 (revokeLate m s1))

/-- The answer to the command in the slot: counted, acted on, and a pass triggered (R90; the order of the count is
DEDUCED, log entry 14). -/
def slotAnswer (c : Slot) (a : Answer) (s : State) : State :=
  match c.action with
  | .adjust act =>
    let v := a.read c.amount
    triggerPass (settleAdjust c act v (countAnswer v.event (some c.approach) s))
  | .revise => triggerPass (settleRevise c a.verdict (countAnswer a.verdict.event (some c.approach) s))

/-- A well-formed answer is matched by its tag: the slot, then the lost tag, then discarded as LATE (R90). -/
def matchAnswer (a : Answer) (s : State) : State :=
  match s.planner.slot with
  | some c =>
    if c.tag = a.tag then slotAnswer c a s
    else match s.planner.lost with
      | some m => if m.tag = a.tag then lateAnswer m a s else countAnswer .late none s
      | none => countAnswer .late none s
  | none =>
    match s.planner.lost with
    | some m => if m.tag = a.tag then lateAnswer m a s else countAnswer .late none s
    | none => countAnswer .late none s

/-- A COMMAND_ANSWER body arrives; one that is not well-formed is discarded (R90). -/
def commandAnswered (body : List Octet) (s : State) : State :=
  match readAnswer body with
  | some a => matchAnswer a s
  | none => s

/-! ### Due events (R94, R95, R100) -/

/-- A due time held by the state has been reached. -/
def State.isDue (s : State) (t : Option PartTime) : Bool :=
  match t with
  | some d => reached s.now d
  | none => false

/-- The memory of a timed-out lead or follower command (R95). -/
def lostTagOf (c : Slot) (act : Action) (s : State) : LostTag :=
  { tag := c.tag, action := act, phase := c.phase, requested := c.amount, grantId := c.grantId, role := c.role,
    bus := c.bus.getD 0, approach := c.approach, commandTime := c.commandTime.getD 0,
    etaAtCommand := c.etaAtCommand.getD 0, forget := after s.now (10 * s.config.general.tLate) }

/-- The command in the slot times out (R94, R105). -/
def timeOut (c : Slot) (s : State) : State :=
  match c.action with
  | .adjust act =>
    let s1 := (refuseCommand c false s).onPlanner fun p => { p with lost := some (lostTagOf c act s) }
    let s2 := countAnswer .timeout (some c.approach) s1
    let s3 := if c.role = .lead then s2.onTotals fun t => { t with lost := tally32 t.lost } else s2
    triggerPass s3
  | .revise => triggerPass (countAnswer .timeout (some c.approach) (emptySlot s))

/-- ANSWER_TIMEOUT: nothing happens unless the answer due time of the slot is reached (R94). -/
def answerTimeout (s : State) : State :=
  match s.planner.slot with
  | some c => if s.isDue c.due then timeOut c s else s
  | none => s

/-- LOST_TAG_FORGET: the memory is cleared when its forget time is reached (R95). -/
def forgetLost (s : State) : State :=
  match s.planner.lost with
  | some m => if reached s.now m.forget then s.onPlanner fun p => { p with lost := none } else s
  | none => s

/-- ARM_LIMIT: an ARMED grant whose arm limit is reached closes unused; no pass is triggered (R100, R101). -/
def armLimitDue (s : State) : State :=
  match s.planner.grant with
  | some g => if g.state = .armed ∧ s.isDue g.armLimit then closeGrant s else s
  | none => s

/-! ### Meanings -/

/-- COMMAND_TRANSMITTED (R89). -/
def execCommandTransmitted (s : State) : Host.Outcome State Fault Refusal := whenRunning s takeReport

/-- ANSWER_TIMEOUT (R94). -/
def execAnswerTimeout (s : State) : Host.Outcome State Fault Refusal := whenRunning s answerTimeout

/-- LOST_TAG_FORGET (R95). -/
def execLostTagForget (s : State) : Host.Outcome State Fault Refusal := whenRunning s forgetLost

/-- ARM_LIMIT (R100). -/
def execArmLimit (s : State) : Host.Outcome State Fault Refusal := whenRunning s armLimitDue

end Sys2Proof.Machine
end

