-- ==== Sys2Proof/Machine/Estimator.lean ====
section
/-! DEFINITION. The arrival estimator (chapter 2): distance, speed, ETA, window, eligibility, score and coasting, and
the placement of an entry's state after an evaluation (R10, R27). -/

namespace Sys2Proof.Machine

/-- Division rounded up. -/
def ceilDiv (n d : Nat) : Nat := (n + (d - 1)) / d

/-- Limit a value to a range. -/
def clamp (lo hi n : Nat) : Nat := max lo (min hi n)

/-- Corrected distance d_c of a telegram (R29). -/
def correctedDistance (distance speed age : Nat) : Nat := distance - speed * age / 1000

/-- Smoothed speed v_eff from the sample ring, oldest sample first (R30). -/
def smoothedSpeed (a : ApproachConfig) (ring : List Nat) : Nat :=
  let k := min a.depth ring.length
  if k = 0 then a.vCruise else clamp a.vFloor a.vCap ((ring.drop (ring.length - k)).sum / k)

/-- Distance now, d_now (R31). -/
def distanceNow (atStop : Bool) (dc v delta : Nat) : Nat := if atStop then dc else dc - v * delta / 100

/-- Travel time to the stop line (R32). -/
def travelTime (a : ApproachConfig) (atStop : Bool) (dNow v : Nat) : Nat :=
  if atStop then ceilDiv (dNow * 100) a.vCruise else ceilDiv (dNow * 100) v

/-- Dwell remainder (R33). -/
def dwellRemainder (a : ApproachConfig) (atStop doorOpen : Bool) (dwell delta : Nat) : Nat :=
  match atStop, doorOpen with
  | true, true => max a.dDep (a.dStop - (10 * dwell + delta))
  | true, false => a.dDep - delta
  | false, _ => 0

/-- Half-width w of the arrival window (R35). -/
def halfWidth (a : ApproachConfig) (dNow delta : Nat) (coasting : Bool) : Nat :=
  let w := a.m0 + ceilDiv (dNow * a.m1) 100
  min 300 (if coasting then w + a.cGrow * (delta - 10 * a.tStale) / 10 else w)

/-- Score S (R40). -/
def scoreOf (g : General) (c : ClassConfig) (lateness : Int) (load : Nat) : Nat :=
  min 255 (c.weight + g.wLate * (min 300 lateness.toNat / 10) + g.wLoad * load)

/-- Eligibility at an update evaluation (R37, R38). -/
def decideEligibility (c : ClassConfig) (previous : Eligibility) (lateness : Int) : Eligibility :=
  if !c.enabled then .neutral
  else if c.unconditional then .eligible
  else if previous = .eligible && (c.lOn : Int) - c.lHys ≤ lateness then .eligible
  else if previous = .hold && lateness ≤ -(c.lEarly : Int) + c.lHys then .hold
  else if (c.lOn : Int) ≤ lateness then .eligible
  else if lateness ≤ -(c.lEarly : Int) then .hold
  else .neutral

/-- Coasting flag (R41): data older than the stale limit, or last updated over a link that is not ALIGNED. -/
def coastingNow (a : ApproachConfig) (aligned fromCabinet : Bool) (delta : Nat) : Bool :=
  10 * a.tStale < delta || (!fromCabinet && !aligned)

/-- One evaluation that stores results (R28 to R36, R40 to R42), with the eligibility the occasion gives (R26). -/
def evaluate (g : General) (a : ApproachConfig) (c : ClassConfig) (aligned : Bool) (now : PartTime)
    (eligibility : Eligibility) (e : Entry) : Estimate :=
  let delta := elapsed now e.tLast
  let v := smoothedSpeed a e.ring
  let d := distanceNow e.atStop e.distance v delta
  let raw := travelTime a e.atStop d v + dwellRemainder a e.atStop e.doorOpen e.dwell delta
  let eta := min raw 2550
  let coasting := coastingNow a aligned e.fromCabinet delta
  let w := halfWidth a d delta coasting
  { evalTime := now, speed := v, distNow := d, eta := eta, beyond := g.horizon < raw, halfWidth := w,
    winStart := eta - w, winEnd := eta + w, eligibility := eligibility, score := scoreOf g c e.lateness e.load,
    coasting := coasting, coastedEver := e.est.coastedEver || coasting }

/-- Evaluate an entry at the present instant with the configuration as it stands (R43), eligibility as given. -/
def State.evaluateWith (s : State) (eligibility : Eligibility) (e : Entry) : Entry :=
  { e with est := evaluate s.config.general (s.config.approaches.get e.approach) (s.config.classes.get e.cls)
                    (s.linkAligned e.approach) s.now eligibility e }

/-- Update evaluation: eligibility decided (R26, R37). -/
def State.updateEvaluation (s : State) (e : Entry) : Entry :=
  s.evaluateWith (decideEligibility (s.config.classes.get e.cls) e.est.eligibility e.lateness) e

/-- Pass and victim evaluation: eligibility kept (R26, R39). -/
def State.keepEvaluation (s : State) (e : Entry) : Entry := s.evaluateWith e.est.eligibility e

/-- The newcomer's single-sample ETA, limited to 2550 (R17, R26 trial evaluation). -/
def State.trialEta (s : State) (t : Telegram) : Nat :=
  let a := s.config.approaches.get t.approach
  let v := if t.atStop then a.vCruise else smoothedSpeed a [t.speed]
  let d := correctedDistance t.distance t.speed t.age
  min 2550 (travelTime a t.atStop d v + dwellRemainder a t.atStop t.doorOpen t.dwell 0)

/-- The tests R10 and R27 share: beyond the horizon FAR, not ELIGIBLE or phase 0 WATCH, otherwise COVERED and WAITING
are kept and NEW, FAR and WATCH go to WAITING with NEEDS_GREEN. -/
def Entry.placeByEstimate (e : Entry) : Entry :=
  if e.est.beyond then e.place .far none
  else if e.est.eligibility ≠ .eligible ∨ e.phase = 0 then e.place .watch none
  else match e.state with
    | .covered => e
    | .waiting => e
    | .new => e.place .waiting (some .needsGreen)
    | .far => e.place .waiting (some .needsGreen)
    | .watch => e.place .waiting (some .needsGreen)
    | .commanded => e
    | .granted => e
    | .spent => e
    | .denied => e

/-- Placement after an update or an admission (R10). -/
def Entry.placeAfterUpdate (e : Entry) : Entry :=
  match e.state with
  | .new => if e.ring.length < 2 && !e.atStop then e else e.placeByEstimate
  | .far => e.placeByEstimate
  | .watch => e.placeByEstimate
  | .covered => e.placeByEstimate
  | .waiting => e.placeByEstimate
  | .commanded => e
  | .granted => e
  | .spent => e
  | .denied => e

/-- Placement after a pass evaluation (R27). -/
def Entry.placeAfterPass (e : Entry) : Entry :=
  match e.state with
  | .new => e
  | .far => e.placeByEstimate
  | .watch => e.placeByEstimate
  | .covered => e.placeByEstimate
  | .waiting => e.placeByEstimate
  | .commanded => e
  | .granted => e
  | .spent => e
  | .denied => e

end Sys2Proof.Machine
end

