-- ==== Sys2Proof/Machine/Planning.lean ====
section
/-! DEFINITION. The priority planner (chapter 4): the coverage test, sizing, protection, classification, the choice and
the planning pass; shadow grants (R106); and the commands PLANNING_PASS and REVIEW_TIMER. -/

namespace Sys2Proof.Machine

/-! ### Coverage (R70) -/

/-- W: the first window of phase `p` whose end is greater than `a` (R70). -/
def firstWindow (ws : List Window) (p a : Nat) : Option Window := ws.find? fun w => w.phase == p && a < w.stop

/-- The coverage test on a projection (R70). -/
def coveredBy (ws : List Window) (clearance : Nat) (e : Entry) : Bool :=
  match firstWindow ws e.phase e.est.winStart with
  | some w => w.start ≤ e.est.winStart && e.est.winEnd + clearance ≤ w.stop
  | none => false

/-! ### Action (R71 to R73) -/

/-- The action an entry that is not covered needs, by where W lies (R71): EXTEND for the current green, ADVANCE for the
next green when it starts after `a`, none otherwise. -/
def neededAction (ws : List Window) (p a : Nat) : Option (Action × Window) :=
  match firstWindow ws p a with
  | none => none
  | some w =>
    if w.current then some (.extend, w)
    else if ws.find? (fun v => v.phase == p && !v.current) = some w ∧ a < w.start then some (.advance, w)
    else none

/-- Feasibility of an EXTEND of `need` over a total already in force (R72). -/
def extendVerdict (need total maxExtend remaining : Nat) : Option WaitReason :=
  if maxExtend < total + need then some .limit else if remaining < need then some .budget else none

/-- Available time for an ADVANCE (R73): the slack of the windows before W of other phases. -/
def availableSlack (slackOf : Window → Nat) (ws : List Window) (p : Nat) : Nat :=
  (((splitAtTarget p ws).1.filter fun w => w.phase != p).map slackOf).sum

/-- The amount of an ADVANCE, or the reason it is not feasible (R73). -/
def advanceVerdict (need available maxAdvance remaining aMin : Nat) : Except WaitReason Nat :=
  let x := min (min (min need available) maxAdvance) remaining
  if aMin ≤ x then .ok x
  else if min (min need available) maxAdvance < aMin then .error .limit
  else .error .budget

/-! ### Classification (R74 to R77) -/

/-- What a pass works with: one instant, one projection and one state of the planner (R66, R69). -/
structure PassView where
  anchor : Anchor
  plan : Plan
  windows : List Window
  coveredSet : List Entry
deriving DecidableEq, Repr

/-- What classification finds for an entry that is not covered. -/
inductive Finding where
  | waits (why : WaitReason)
  | candidate (action : Action) (amount : Nat)
deriving DecidableEq, Repr

/-- Protection (R74, R75): on the trial projection the coverage test fails for an entry found COVERED at this pass whose
score is equal to or greater than that of the entry under test. -/
def State.protectedAgainst (s : State) (v : PassView) (adj : Adjustment) (e : Entry) : Bool :=
  let trial := s.config.project v.plan v.anchor s.now adj
  v.coveredSet.any fun f => e.est.score ≤ f.est.score && !coveredBy trial s.config.general.clearance f

/-- Tests 3 to 6 of R76 once the amount is known, for a lead. -/
def State.leadFinding (s : State) (v : PassView) (e : Entry) (act : Action) (amount : Nat) (adj : Adjustment) : Finding :=
  if s.planner.ledger.grantLimit ≤ s.planner.ledger.leads then .waits .budget
  else if s.planner.tokens.get e.approach = 0 then .waits .noToken
  else if s.protectedAgainst v adj e then .waits .guarded
  else .candidate act amount

/-- A lead under test (R76 tests 3 to 6). -/
def State.testLead (s : State) (v : PassView) (e : Entry) (act : Action) (w : Window) : Finding :=
  let r := s.config.phase e.phase
  let remaining := s.planner.ledger.remaining
  match act with
  | .extend =>
    let need := e.est.winEnd + s.config.general.clearance - w.stop
    match extendVerdict need 0 r.maxExtend remaining with
    | some why => .waits why
    | none => s.leadFinding v e .extend need (.extend e.phase need)
  | .advance =>
    let available := availableSlack (s.config.slack v.anchor s.now) v.windows e.phase
    match advanceVerdict (w.start - e.est.winStart) available r.maxAdvance remaining s.config.general.aMin with
    | .error why => .waits why
    | .ok x => s.leadFinding v e .advance x (.advance e.phase x)

/-- The follower path is open (R77). -/
def State.followerPath (s : State) (g : Grant) (e : Entry) : Bool :=
  g.state == .running && g.phase == e.phase &&
    ((s.mode == .run && !g.shadow) || (s.mode == .monitor && g.shadow))

/-- E': the end of the current green of the grant's phase, to which a shadow grant's total is added (R77). -/
def extendedEnd (ws : List Window) (g : Grant) : Nat :=
  let stop := match ws.find? fun w => w.phase == g.phase && w.current with
    | some w => w.stop
    | none => 0
  if g.shadow then stop + g.total else stop

/-- A possible follower of the active grant (R77). -/
def State.testFollower (s : State) (v : PassView) (g : Grant) (e : Entry) : Finding :=
  if !s.followerPath g e then .waits .grantBusy
  else
    let stop := extendedEnd v.windows g
    if stop ≤ e.est.winStart then .waits .grantBusy
    else if e.est.winEnd + s.config.general.clearance ≤ stop then .waits .grantBusy
    else if 5 ≤ g.members.length then .waits .grantBusy
    else
      let need := e.est.winEnd + s.config.general.clearance - stop
      match extendVerdict need g.total (s.config.phase e.phase).maxExtend s.planner.ledger.remaining with
      | some why => .waits why
      | none =>
        if s.protectedAgainst v (.extend e.phase (g.total + need)) e then .waits .guarded
        else .candidate .extend need

/-- Classification of an entry found not covered (R70, R71, R76, R77). -/
def State.finding (s : State) (v : PassView) (e : Entry) : Finding :=
  match neededAction v.windows e.phase e.est.winStart with
  | none => .waits .needsGreen
  | some (act, w) =>
    if e.est.coasting then .waits .coasting
    else match s.planner.grant with
      | some g => s.testFollower v g e
      | none => s.testLead v e act w

/-- The wait reason a finding gives: a candidate waits at GRANT_BUSY unless it is chosen (R76, R77). -/
def Finding.reason : Finding → WaitReason
  | .waits why => why
  | .candidate _ _ => .grantBusy

/-- COVERED and WAITING entries are the ones a pass classifies (R69). -/
def EntryState.classifiable : EntryState → Bool
  | .covered => true
  | .waiting => true
  | .new => false
  | .far => false
  | .watch => false
  | .commanded => false
  | .granted => false
  | .spent => false
  | .denied => false

/-- The coverage stage for one entry (R70): a covered one becomes COVERED, counting COVERED_BYPASS at its first
classification, and every tested entry gets its classified mark. -/
def coverOne (ws : List Window) (s : State) (e : Entry) : State :=
  if e.state.classifiable then
    let cov := coveredBy ws s.config.general.clearance e
    let s1 := updateEntry e.bus
      (fun q => if cov then { q.place .covered none with classified := true } else { q with classified := true }) s
    if cov && !e.classified then countEvent .coveredBypass 0 (some (.port e.approach)) s1 else s1
  else s

/-- The test stage for one entry found not covered (R76, R77), with TOKEN_EMPTY for one newly at NO_TOKEN. -/
def testOne (v : PassView) (s : State) (e : Entry) : State :=
  if e.state.classifiable && !coveredBy v.windows s.config.general.clearance e then
    let f := s.finding v e
    let s1 := updateEntry e.bus (fun q => q.place .waiting (some f.reason)) s
    if f = .waits .noToken ∧ ¬(e.state = .waiting ∧ e.reason = some .noToken) then
      countEvent .tokenEmpty 0 (some (.port e.approach)) s1
    else s1
  else s

/-- A candidate with the amount and action its command would carry. -/
structure Candidate where
  entry : Entry
  action : Action
  amount : Nat
deriving DecidableEq, Repr

/-- The candidates of a pass, in admission order (R76, R77). -/
def State.candidates (s : State) (v : PassView) (entries : List Entry) : List Candidate :=
  entries.filterMap fun e =>
    if e.state.classifiable && !coveredBy v.windows s.config.general.clearance e then
      match s.finding v e with
      | .candidate act amount => some { entry := e, action := act, amount := amount }
      | .waits _ => none
    else none

/-- The first of two candidates, in admission order, stays unless the second has a higher score, or an equal score and
a smaller window end (R80). -/
def betterCandidate (c d : Candidate) : Candidate :=
  if c.entry.est.score < d.entry.est.score then d
  else if c.entry.est.score = d.entry.est.score ∧ d.entry.est.winEnd < c.entry.est.winEnd then d
  else c

/-- The candidate chosen (R80). -/
def chooseCandidate : List Candidate → Option Candidate
  | [] => none
  | c :: cs =>
    match chooseCandidate cs with
    | none => some c
    | some d => some (betterCandidate c d)

/-! ### Handing over (R80, R85, R89, R106) -/

/-- The chosen entry becomes COMMANDED with its command fields (R80). -/
def Entry.command (act : Action) (amount : Nat) (now : PartTime) (e : Entry) : Entry :=
  { e.place .commanded none with
      action := some act, requested := some amount, applied := none, commandTime := some now,
      etaAtCommand := some e.est.eta }

/-- A lead command of MONITOR becomes a shadow grant at once (R106): ledger converted, token taken, grant created. -/
def shadowLead (tag : Nat) (k : Candidate) (s : State) : State :=
  let s1 := takeToken k.entry.approach (s.onLedger fun l => l.convert k.amount)
  let g := newGrant s1 tag k.action k.entry.phase k.amount k.amount k.entry.approach true [k.entry.bus]
  closeIfVain (updateEntry k.entry.bus (Entry.join .lead k.amount true) (s1.onPlanner fun p => { p with grant := some g }))

/-- A follower command of MONITOR raises the shadow grant's total and joins its list (R106). -/
def shadowFollower (k : Candidate) (s : State) : State :=
  let s1 := s.onLedger fun l => l.convert k.amount
  let s2 := updateEntry k.entry.bus (Entry.join .follower k.amount true) s1
  raiseTotal k.amount (s2.onGrant fun g => { g with members := g.members ++ [k.entry.bus] })

/-- The chosen candidate's command is reserved and handed to the exchange (R80, R85): sent in RUN (R89), a shadow grant
in MONITOR (R106). It is a follower when a grant is active, a lead when none is. -/
def handOver (k : Candidate) (s : State) : State :=
  let role := if s.planner.grant.isSome then Role.follower else Role.lead
  let tag := nextTag s.planner.tagCounter s.planner.lost
  let grantId := match s.planner.grant with
    | some g => g.id
    | none => tag
  let s1 := (updateEntry k.entry.bus (Entry.command k.action k.amount s.now) s).onLedger fun l => l.reserve k.amount role
  if s.mode = .run then
    sendCommand { tag := tag, action := .adjust k.action, phase := k.entry.phase, amount := k.amount,
                  grantId := grantId, role := role, bus := some k.entry.bus, approach := k.entry.approach,
                  commandTime := some s.now, etaAtCommand := some k.entry.est.eta, due := none } s1
  else
    let s2 := s1.onPlanner fun p => { p with tagCounter := tag }
    match role with
    | .lead => shadowLead tag k s2
    | .follower => shadowFollower k s2

/-! ### The pass (R66 to R69) -/

/-- A suspended pass (R68). -/
def suspendedPass (s : State) : State :=
  { s with table := s.table.map fun e => if e.state.classifiable then e.place .waiting (some .suspended) else e }

/-- Step 1 of a pass (R69): every entry not in NEW is evaluated and placed. -/
def evaluateAll (s : State) : State :=
  { s with table := s.table.map fun e => if e.state = .new then e else (s.keepEvaluation e).placeAfterPass }

/-- Steps 4 and 5 of a pass (R69, R80, R81). -/
def chooseAndSend (v : PassView) (entries : List Entry) (before : State) (s : State) : State :=
  match s.planner.slot with
  | some _ => s
  | none =>
    match s.planner.revise with
    | some r => sendRevise r s
    | none =>
      match chooseCandidate (before.candidates v entries) with
      | some k => handOver k s
      | none => s

/-- Steps 2 to 5 of a pass over the evaluated table (R69). The coverage stage takes every entry before the test stage
takes any, each in admission order, so the COVERED_BYPASS events of a pass come before its TOKEN_EMPTY events (DESIGN
CHOICE, log entry 34). -/
def classifyAll (a : Anchor) (p : Plan) (s : State) : State :=
  let entries := s.table
  let ws := s.config.project p a s.now (adjustmentOf s.planner.grant)
  let v : PassView :=
    { anchor := a, plan := p, windows := ws,
      coveredSet := entries.filter fun e => e.state.classifiable && coveredBy ws s.config.general.clearance e }
  let s1 := entries.foldl (coverOne ws) s
  let s2 := entries.foldl (testOne v) s1
  chooseAndSend v entries s s2

/-- The work of a pass: suspended outside TRACKING (R68), whole in TRACKING (R69). -/
def passBody (s : State) : State :=
  match s.trackedPlan with
  | some (a, p) => classifyAll a p (evaluateAll s)
  | none => suspendedPass s

/-- The start of a pass: it is no longer due, and it is running (R66). -/
def beginPass (s : State) : State := s.onPlanner fun p => { p with passDue := false, passRunning := true }

/-- The end of a pass: with the pass-due mark set, the mark is cleared and one further pass is due (R66). -/
def endPass (s : State) : State :=
  s.onPlanner fun p => { p with passRunning := false, passDue := p.passMark || p.passDue, passMark := false }

/-- A due pass is taken whole; with none due, or in STANDBY, nothing happens (R65, R66). -/
def planningPass (s : State) : State :=
  if s.planner.passDue = true ∧ s.mode ≠ .standby then endPass (passBody (beginPass s)) else s

/-- The review timer expires: it restarts for 1.0 s and triggers a pass (R67). -/
def reviewExpires (s : State) : State :=
  if s.isDue s.planner.review then triggerPass (s.onPlanner fun p => { p with review := some (after s.now 10) }) else s

/-! ### Meanings -/

/-- PLANNING_PASS (R69). -/
def execPlanningPass (s : State) : Host.Outcome State Fault Refusal := whenRunning s planningPass

/-- REVIEW_TIMER (R67). -/
def execReviewTimer (s : State) : Host.Outcome State Fault Refusal := whenRunning s reviewExpires

end Sys2Proof.Machine
end

