-- ==== Sys2Proof/Machine/Link.lean ====
section
/-! DEFINITION. The cabinet link (chapter 7): the receive framer, the check and dispatch of frames, the asked-message
queue and its replies; the handling of PHASE_STATUS (R47 to R54); and the commands FRAMING_FAULT, FRAME_GAP_TIMEOUT,
OCTET_RECEIVED, CABINET_CRC, ASKED_MESSAGE_ARRIVAL, PHASE_STATUS, COMMAND_ANSWER, UNKNOWN_KIND and STALE_TIMER. -/

namespace Sys2Proof.Machine

/-! ### Receive framer (R132, R134) -/

/-- An octet is taken from the line (R134). -/
def takeOctet (o : Octet) (k : Link) : Link :=
  match k.framer with
  | .idle => if o = 0xA5 then { k with framer := .receiving [] } else k
  | .receiving [] =>
    if o.toNat < 2 ∨ 250 < o.toNat then { k with framer := .idle } else { k with framer := .receiving [o] }
  | .receiving (len :: got) =>
    if got.length + 1 = len.toNat + 2 then
      { k with framer := .idle, received := k.received ++ [len :: got ++ [o]] }
    else { k with framer := .receiving (len :: got ++ [o]) }

/-- A frame being received is abandoned and the framer becomes idle; an idle framer stays idle (R132, R134). -/
def abandonFrame (k : Link) : Link := { k with framer := .idle }

/-- A character is received from CL_RXD (R132): its octet is taken, and one whose stop bit is zero abandons the frame. -/
def takeCharacter (bits : Bits) (k : Link) : Link :=
  match readCharacter bits with
  | some o => takeOctet o k
  | none => abandonFrame k

/-- The bits CL_TXD carries for the message at the head of the outbound queue, each octet in its line form (R132, R138);
none while the line is held or idles at one. -/
def State.cabinetBits (s : State) : Bits :=
  if s.held then []
  else match s.link.outbound with
    | [] => []
    | m :: _ => (frameOctets m).flatMap lineForm

/-! ### Check and dispatch (R135) -/

/-- A frame handed over, without its start octet: length, kind, tag, body and the two check octets. It passes when the
CRC-16 of all but the check equals the check. -/
def framePasses (f : List Octet) : Bool :=
  octets2 (crc16 (f.take (f.length - 2))).toNat == f.drop (f.length - 2)

/-- Kind of a frame handed over (Table 7-2). -/
def frameKind (f : List Octet) : Octet := (f[1]?).getD 0

/-- Tag of a frame handed over. -/
def frameTag (f : List Octet) : Octet := (f[2]?).getD 0

/-- Body of a frame handed over. -/
def frameBody (f : List Octet) : List Octet := (f.take (f.length - 2)).drop 3

/-- A told message: PHASE_STATUS or COMMAND_ANSWER (R135). -/
def toldKind (k : Octet) : Bool := k == 0x20 || k == 0x21

/-- Take the oldest frame handed over, if it satisfies a test; otherwise the event does not happen (DESIGN CHOICE, log entry 4). -/
def takeReceived (want : List Octet → Bool) (act : List Octet → State → State) (s : State) : State :=
  match s.link.received with
  | [] => s
  | f :: rest => if want f then act f (s.onLink fun k => { k with received := rest }) else s

/-- A frame that fails its check is discarded and tallied (R135, R139). -/
def discardBadFrame (s : State) : State :=
  takeReceived (fun f => !framePasses f) (fun _ st => st.onLink fun k => { k with crcErrors := tally16 k.crcErrors }) s

/-- An asked message passes its check (R136, R145). -/
def askedArrives (m : AskedMessage) (s : State) : State :=
  if s.link.restart.isSome then s
  else if 4 ≤ s.unanswered then
    latchNotice .hostOverrun 0 (s.onLink fun k => { k with overruns := tally16 k.overruns })
  else s.onLink fun k => { k with asked := k.asked ++ [m] }

/-- ASKED_MESSAGE_ARRIVAL: the frame handed over passes its check and is neither told kind (R135, R136). -/
def askedMessageArrival (s : State) : State :=
  takeReceived (fun f => framePasses f && !toldKind (frameKind f))
    (fun f => askedArrives { kind := frameKind f, tag := frameTag f, body := frameBody f }) s

/-! ### PHASE_STATUS (R47 to R54) -/

/-- A valid status as read (R47, Table 10-5). -/
structure Status where
  plan : Nat
  phase : Nat
  interval : Interval
  elapsed : Nat
  cycleStart : Bool
  inhibit : Bool
  pedCalls : BitVec 8
deriving DecidableEq, Repr

/-- Judge a PHASE_STATUS body against the phase count n (R47): none when the status is not valid. Mask bits of phases
above n are not read. -/
def readStatusBody (n : Nat) (body : List Octet) : Option Status :=
  match body with
  | [plan, phase, interval, hi, lo, flags, mask] =>
    match intervalOf interval with
    | some i =>
      if 1 ≤ phase.toNat ∧ phase.toNat ≤ n then
        some { plan := plan.toNat, phase := phase.toNat, interval := i, elapsed := number [hi, lo],
               cycleStart := flags.getLsbD 0, inhibit := flags.getLsbD 1,
               pedCalls := mask &&& BitVec.ofNat 8 (2 ^ n - 1) }
      else none
    | none => none
  | _ => none

/-- The anchor a valid status gives (R48). -/
def Status.anchor (t : Status) (now : PartTime) : Anchor :=
  { plan := t.plan, phase := t.phase, interval := t.interval, elapsed := t.elapsed, arrival := now,
    pedCalls := t.pedCalls, inhibit := t.inhibit }

/-- The model state a valid status sets (R50). -/
def Status.modelState (t : Status) (c : Configuration) : ModelState :=
  if t.inhibit then .inhibited else if (c.plan t.plan).isNone then .unknownPlan else .tracking

/-- The handling of one valid status, in the order of R54. -/
def validStatus (t : Status) (s : State) : State :=
  let before := s.model.state
  let s1 : State := { s with model := { s.model with anchor := some (t.anchor s.now) } }
  let s2 := setModelState (t.modelState s.config) s1
  let s3 := if t.cycleStart && before != .noStatus then cycleStart s2 else s2
  triggerPass (grantStatus t.phase t.interval s3)

/-- A PHASE_STATUS body arrives: judged, then taken or discarded as BAD_STATUS (R47). -/
def statusArrives (body : List Octet) (s : State) : State :=
  match readStatusBody s.phaseCount body with
  | some t => validStatus t s
  | none => countEvent .badStatus 0 none s

/-- The stale timer runs in TRACKING, UNKNOWN_PLAN and INHIBITED, and is due at the anchor's arrival plus 10 × T_sig
(R51). -/
def State.staleDue (s : State) : Bool :=
  match s.model.state, s.model.anchor with
  | .noStatus, _ => false
  | .stale, _ => false
  | _, some a => reached s.now (after a.arrival (10 * s.config.general.tSig))
  | _, none => false

/-- STALE_TIMER: the model enters STALE when the timer is due (R51). -/
def staleExpires (s : State) : State := if s.staleDue then setModelState .stale s else s

/-! ### Asked messages and replies (R137) -/

/-- What an owner returns: a reply code and, for OK and OK_CLAMPED, data. -/
structure Reply where
  code : ReplyCode
  data : List Octet
deriving DecidableEq, Repr

/-- A reply that carries a code alone. -/
def Reply.bare (c : ReplyCode) : Reply := { code := c, data := [] }

/-- An OK reply with data. -/
def Reply.ok (data : List Octet) : Reply := { code := .ok, data := data }

/-- The REPLY message to an asked message (R137, Table 10-5). -/
def replyMessage (m : AskedMessage) (r : Reply) : OutMessage :=
  { kind := .reply, tag := m.tag, body := m.kind :: octet r.code.code :: r.data, final := false }

/-- The asked message the port takes next (R137): none while a restart is pending (R145). -/
def State.nextAsked (s : State) : Option AskedMessage :=
  match s.link.restart with
  | some _ => none
  | none => s.link.asked.head?

/-- Take the head asked message when it satisfies a test, let its owner act, and queue the REPLY (R137); otherwise the
event does not happen (DESIGN CHOICE, log entry 4). -/
def takeAsked (want : AskedMessage → Bool) (owner : AskedMessage → State → State × Reply) (s : State) : State :=
  match s.nextAsked with
  | some m =>
    if want m then
      let r := owner m (s.onLink fun k => { k with asked := k.asked.tail })
      queueMessage (replyMessage m r.2) r.1
    else s
  | none => s

/-- One of the sixteen asked kinds of Table 7-3. -/
def askedKind (k : Octet) : Bool := 1 ≤ k.toNat && k.toNat ≤ 16

/-- UNKNOWN_KIND (R137, first check). -/
def unknownKind (s : State) : State :=
  takeAsked (fun m => !askedKind m.kind) (fun _ st => (st, .bare .unknownKind)) s

/-- The second check of R137 for a body of fixed length, then the owner. -/
def withLength (n : Nat) (owner : List Octet → State → State × Reply) (m : AskedMessage) (s : State) : State × Reply :=
  if m.body.length = n then owner m.body s else (s, .bare .badLength)

/-- Take the head asked message of one kind, with a body of fixed length. -/
def takeFixed (kind : Octet) (n : Nat) (owner : List Octet → State → State × Reply) (s : State) : State :=
  takeAsked (fun m => m.kind == kind) (withLength n owner) s

/-- Octet `i` of a body. -/
def bodyOctet (body : List Octet) (i : Nat) : Octet := (body[i]?).getD 0

/-! ### Meanings -/

/-- FRAMING_FAULT (R132): a character whose stop bit is zero, whatever its data bits. -/
def execFramingFault (s : State) : Host.Outcome State Fault Refusal := whenRunning s fun st => st.onLink abandonFrame

/-- FRAME_GAP_TIMEOUT (R134). -/
def execFrameGapTimeout (s : State) : Host.Outcome State Fault Refusal := whenRunning s fun st => st.onLink abandonFrame

/-- OCTET_RECEIVED (R134): the octet arrives in its line form (R132). -/
def execOctetReceived (o : Octet) (s : State) : Host.Outcome State Fault Refusal :=
  whenRunning s fun st => st.onLink (takeCharacter (lineForm o))

/-- CABINET_CRC (R135). -/
def execCabinetCrc (s : State) : Host.Outcome State Fault Refusal := whenRunning s discardBadFrame

/-- ASKED_MESSAGE_ARRIVAL (R136). -/
def execAskedMessageArrival (s : State) : Host.Outcome State Fault Refusal := whenRunning s askedMessageArrival

/-- PHASE_STATUS (R54). -/
def execPhaseStatus (s : State) : Host.Outcome State Fault Refusal :=
  whenRunning s (takeReceived (fun f => framePasses f && frameKind f == 0x20) fun f => statusArrives (frameBody f))

/-- COMMAND_ANSWER (R90). -/
def execCommandAnswer (s : State) : Host.Outcome State Fault Refusal :=
  whenRunning s (takeReceived (fun f => framePasses f && frameKind f == 0x21) fun f => commandAnswered (frameBody f))

/-- UNKNOWN_KIND (R137). -/
def execUnknownKind (s : State) : Host.Outcome State Fault Refusal := whenRunning s unknownKind

/-- STALE_TIMER (R51). -/
def execStaleTimer (s : State) : Host.Outcome State Fault Refusal := whenRunning s staleExpires

end Sys2Proof.Machine
end

