-- ==== Sys2Proof/Machine/Intake.lean ====
section
/-! DEFINITION. The telegram intake (R1 to R6): reading a slot, the four checks, the queues and their rotation. -/

namespace Sys2Proof.Machine

/-- What a slot is found to be (R1, R2). -/
inductive SlotReading where
  | empty
  | malformed
  | telegram (t : Telegram)
deriving DecidableEq, Repr

/-- Octet `i` of a slot. -/
def slotOctet (os : List Octet) (i : Nat) : Octet := (os[i]?).getD 0

/-- Telegram kind of a code: none for a code that names no kind (R1, Table 10-1). -/
def telegramKindOf (o : Octet) : Option TelegramKind :=
  if o = 1 then some .checkIn else if o = 2 then some .position else if o = 3 then some .checkOut
  else if o = 4 then some .withdraw else none

/-- Movement of a code: none for the fourth code (R1). -/
def movementOf (n : Nat) : Option Movement :=
  if n = 0 then some .through else if n = 1 then some .left else if n = 2 then some .right else none

/-- A slot carries the empty-slot code (R2). -/
def slotEmpty (os : List Octet) : Bool := slotOctet os 0 == 0

/-- Only a CHECK_IN and a POSITION read the full set of fields (R1). -/
def TelegramKind.full : TelegramKind → Bool
  | .checkIn => true
  | .position => true
  | .checkOut => false
  | .withdraw => false

/-- Read a 15-octet slot (Table 10-3) with the clamps and substitutions of R1. A CHECK_OUT or WITHDRAW whose
movement code is the fourth is no less a telegram; its movement is not read and is stored as THROUGH. -/
def readSlot (src : Source) (x : Approach) (os : List Octet) : SlotReading :=
  if slotEmpty os then .empty
  else
    let bus := number [slotOctet os 1, slotOctet os 2]
    let b3 := (slotOctet os 3).toNat
    let route := number [slotOctet os 4, slotOctet os 5]
    match telegramKindOf (slotOctet os 0) with
    | none => .malformed
    | some kind =>
      if bus = 0 ∨ bus = 65535 then .malformed
      else if kind.full ∧ movementOf (b3 / 4 % 4) = none then .malformed
      else .telegram
        { source := src, approach := x, kind := kind, bus := bus, seq := b3 / 16,
          movement := (movementOf (b3 / 4 % 4)).getD .through,
          atStop := (slotOctet os 3).getLsbD 1, doorOpen := (slotOctet os 3).getLsbD 0,
          route := if route = 0 ∨ 999 < route then 0 else route,
          distance := number [slotOctet os 6, slotOctet os 7] % 1024,
          speed := min 250 (slotOctet os 8).toNat,
          dwell := (slotOctet os 9).toNat,
          lateness := max (-600) (min 600 (signedNumber [slotOctet os 10, slotOctet os 11])),
          load := (slotOctet os 12).toNat % 4,
          age := (slotOctet os 14).toNat }

/-- What the intake did with a slot; the codes are those of the injection result, WEAK arising on links only. -/
inductive Handling where | queued | empty | malformed | notRunning | intakeFull | weak
deriving DecidableEq, Repr

/-- Injection result code (R144, Table 10-1); WEAK never arises for the cabinet source. -/
def Handling.code : Handling → Nat
  | .queued => 0
  | .empty => 1
  | .malformed => 2
  | .notRunning => 3
  | .intakeFull => 4
  | .weak => 2

/-- A link telegram below its approach's strength threshold (R3, first check); the cabinet source is exempt. -/
def State.weakSlot (s : State) (src : Source) (x : Approach) (os : List Octet) : Bool :=
  match src with
  | .port _ => (slotOctet os 13).toNat < (s.config.approaches.get x).strength
  | .cabinet => false

/-- A slot reaches the intake: the empty slot is skipped (R2), then the four checks are made in order (R3) and the
telegram joins its source's queue (R4). -/
def takeSlot (src : Source) (x : Approach) (os : List Octet) (s : State) : State × Handling :=
  if slotEmpty os then (s, .empty)
  else if s.weakSlot src x os then (countDiscard .weak src s, .weak)
  else match readSlot src x os with
    | .empty => (s, .empty)
    | .malformed => (countDiscard .malformed src s, .malformed)
    | .telegram t =>
      if s.mode = .standby then (countDiscard .notRunning src s, .notRunning)
      else if 8 ≤ (s.intake.queues.get src).length then (countDiscard .intakeFull src s, .intakeFull)
      else
        (countEvent .telegramIn t.kind.index (some src)
          { s with intake := { s.intake with
                      queues := s.intake.queues.set src (s.intake.queues.get src ++ [t]) } }, .queued)

/-- The source after another in the rotation A, B, C, D, cabinet (R5). -/
def Source.next : Source → Source
  | .port .a => .port .b
  | .port .b => .port .c
  | .port .c => .port .d
  | .port .d => .cabinet
  | .cabinet => .port .a

/-- The five sources in rotation order, beginning after the one last served (R5). -/
def rotationAfter (q : Source) : List Source :=
  [q.next, q.next.next, q.next.next.next, q.next.next.next.next, q]

/-- The next non-empty queue of the rotation (R5). -/
def Intake.nextSource (i : Intake) : Option Source :=
  (rotationAfter i.lastServed).find? fun q => !(i.queues.get q).isEmpty

/-- The telegram the table takes next, while the mode is MONITOR or RUN (R5). -/
def State.nextTelegram (s : State) : Option Telegram :=
  if s.mode = .standby then none
  else s.intake.nextSource.bind fun q => (s.intake.queues.get q).head?

/-- The next telegram leaves its queue, and its source is the one last served (R5). -/
def Intake.serve (i : Intake) : Intake :=
  match i.nextSource with
  | none => i
  | some q => { queues := i.queues.set q (i.queues.get q).tail, lastServed := q }

/-- The sources in the order in which a change to STANDBY empties their queues (R6). -/
def allSources : List Source := [.port .a, .port .b, .port .c, .port .d, .cabinet]

/-- Empty the queues at a change to STANDBY, each telegram counted as discarded NOT_RUNNING (R6). DESIGN CHOICE, unsafe:
the rotation keeps its place, which R6 and R150 do not say (log entry 36). -/
def flushQueues (s : State) : State :=
  let s1 := allSources.foldl
    (fun st q => (s.intake.queues.get q).foldl (fun st' _ => countDiscard .notRunning q st') st) s
  { s1 with intake := { s1.intake with queues := .all [] } }

end Sys2Proof.Machine
end

