-- ==== Sys2Proof/Machine/Ports.lean ====
section
/-! DEFINITION. The approach ports (chapter 6): framer, elastic store, quarter checker, return stream, enable and
disable; and the commands CANDIDATE_MARKER, CONFIRM_TEST, FRAME_SLOT, LOCAL_FRAME_READ, CENTRING_TIMEOUT,
CONSECUTIVE_REPEAT_LIMIT and RETURN_FRAME. -/

namespace Sys2Proof.Machine

/-! ### Octets of a frame (Table 10-2) -/

/-- Frame position of a control octet. -/
def controlPos (o : Octet) : Nat := o.toNat / 16

/-- Far-alarm bit of a control octet. -/
def controlFarAlarm (o : Octet) : Bool := o.getLsbD 3

/-- Sender-fault bit of a control octet. -/
def controlFault (o : Octet) : Bool := o.getLsbD 2

/-- The frame marker. -/
def marker : Octet := 0x6C

/-- The two telegram slots of a payload, slot 0 first (Table 10-2). -/
def payloadSlots (payload : List Octet) : List (List Octet) := [payload.take 15, payload.drop 15]

/-! ### Leaving and entering ALIGNED (R115, R129) -/

/-- The non-empty slots of a list are discarded for one reason, each counted (R120, R121). -/
def discardSlots (why : Discard) (x : Approach) (payloads : List (List Octet)) (s : State) : State :=
  (payloads.flatMap payloadSlots).foldl
    (fun st os => if slotEmpty os then st else countDiscard why (.port x) st) s

/-- The effects of every exit from ALIGNED but for the state entered (R115): notice, LINK_REFRAME, SLIP_LOSS of the
unsettled quarter, the store emptied, the status fields and the echo state cleared. -/
def leaveAligned (x : Approach) (s : State) : State :=
  let held := match (s.ports.get x).quarter with
    | some q => q.payloads
    | none => []
  let s1 := countEvent .linkReframe 0 (some (.port x)) (latchNotice (.linkState x) 0 s)
  (discardSlots .slipLoss x held s1).onPort x fun p =>
    { p with store := [], centring := false, centringIdle := 0, quarter := none, farAlarm := false,
             senderFault := false, echo := false }

/-- An exit to HUNT, with the bits the new search starts from (R112, R114, R116, R118, R122). -/
def exitToHunt (x : Approach) (bits : Bits) (s : State) : State :=
  (leaveAligned x s).onPort x fun p => { p with framer := .hunt, bits := bits, passed := 0 }

/-- Entry into ALIGNED from CONFIRM (R113, R115): notice, an empty store that centres, a checker that starts afresh. -/
def enterAligned (x : Approach) (expected : Nat) (bits : Bits) (s : State) : State :=
  (s.onPort x fun p =>
    { p with framer := .aligned, bits := bits, passed := 0, expected := expected, judged := [], store := [],
             centring := true, centringIdle := 0, quarter := none, history := [], echo := false, repeats := 0 })
  |> latchNotice (.linkState x) 1

/-- The frame in progress ends at local timing, the inbound clock having been lost (R124). -/
def Port.finishLocally (p : Port) : Port :=
  { p with sending := p.sending.map fun r => { r with timing := .local } }

/-- An exit by R116 or R118, whose sixteen frame instants without a frame are a loss of the inbound stream or of its
clock: the return frame in progress goes on at local timing (R124). -/
def clockLost (x : Approach) (s : State) : State := (exitToHunt x [] s).onPort x Port.finishLocally

/-- Inbound bits clock a loop-timed return frame, one return bit for each of them (R124). -/
def Port.clocked (n : Nat) (p : Port) : Port :=
  { p with sending := p.sending.map fun r =>
      match r.timing with
      | .loop => { r with unsent := r.unsent - n }
      | .local => r }

/-! ### HUNT and CONFIRM (R112, R113) -/

/-- Search the bits for the first candidate marker whose control octet has been received too; what remains when there
is none are the bits at which a candidate may still begin (R112). -/
def searchMarker : Bits → Bool × Bits
  | [] => (false, [])
  | b :: bs =>
    if (b :: bs).length < 16 then
      if (b :: bs).length < 8 then (false, b :: bs)
      else if octetOfBits (b :: bs) = marker then (false, b :: bs)
      else searchMarker bs
    else if octetOfBits (b :: bs) = marker then (true, b :: bs)
    else searchMarker bs

/-- Bits that reach a DISABLED port are not read (R111), but their clock completes a loop-timed return frame that was in
progress at the disable (R124, R129). At any other port that is not in the command's state they are not taken (DESIGN
CHOICE, log entries 4 and 18). -/
def unreadBits (x : Approach) (new : Bits) (s : State) : State :=
  if (s.ports.get x).framer = .disabled then s.onPort x (Port.clocked new.length) else s

/-- CANDIDATE_MARKER (R112): the framer searches; a candidate takes it to CONFIRM with the bits kept from its marker. -/
def candidateMarker (x : Approach) (new : Bits) (s : State) : State :=
  if (s.ports.get x).framer = .hunt then
    s.onPort x fun p =>
      let r := searchMarker (p.bits ++ new)
      if r.1 then { p.clocked new.length with framer := .confirm, bits := r.2, passed := 0 }
      else { p.clocked new.length with bits := r.2 }
  else unreadBits x new s

/-- The frame-position field of the frame whose slot begins `264 * j` bits after the candidate (R112, R113). -/
def positionAt (bits : Bits) (j : Nat) : Nat := controlPos (octetOfBits ((bits.drop (264 * j)).drop 8))

/-- The test of the `j`-th frame after the candidate: the marker, and the position one more than the previous (R113). -/
def confirmPasses (bits : Bits) (j : Nat) : Bool :=
  octetOfBits (bits.drop (264 * j)) == marker && positionAt bits j == (positionAt bits (j - 1) + 1) % 16

/-- CONFIRM_TEST (R113): the next test is made when its sixteen bits are there, a wrong marker failing with its control
octet and not before (DESIGN CHOICE, log entry 30); a failure takes the framer to HUNT with the bits after the first bit
of the candidate, and the third pass takes it to ALIGNED at the end of that frame's slot. The bits clock a loop-timed
return frame (R124). -/
def confirmTest (x : Approach) (new : Bits) (s0 : State) : State :=
  let p := s0.ports.get x
  if p.framer = .confirm then
    let s := s0.onPort x (Port.clocked new.length)
    let bits := p.bits ++ new
    let j := p.passed + 1
    if p.passed < 3 then
      if bits.length < 264 * j + 16 then s.onPort x fun q => { q with bits := bits }
      else if confirmPasses bits j then
        if j = 3 ∧ 264 * 4 ≤ bits.length then
          enterAligned x ((positionAt bits 3 + 1) % 16) (bits.drop (264 * 4)) s
        else s.onPort x fun q => { q with bits := bits, passed := j }
      else s.onPort x fun q => { q with framer := .hunt, bits := bits.drop 1, passed := 0 }
    else if 264 * 4 ≤ bits.length then
      enterAligned x ((positionAt bits 3 + 1) % 16) (bits.drop (264 * 4)) s
    else s.onPort x fun q => { q with bits := bits }
  else unreadBits x new s0

/-! ### ALIGNED: frame slots and the elastic store (R114 to R118) -/

/-- A write into the elastic store (R116, R117): a full store drops its oldest frame, whose loss and lost count pass to
the next. -/
def writeFrame (x : Approach) (f : Frame) (s : State) : State :=
  match (s.ports.get x).store with
  | a :: b :: rest =>
    if rest.length < 2 then
      s.onPort x fun p => { p with store := a :: b :: rest ++ [f], centring := false, centringIdle := 0 }
    else
      countEvent .linkSlip 0 (some (.port x)) (s.onPort x fun p =>
        { p with store := { b with lost := b.lost + 1 + a.lost } :: rest ++ [f], lastSlip := .drop })
  | [a] => s.onPort x fun p => { p with store := [a, f], centring := false, centringIdle := 0 }
  | [] => s.onPort x fun p => { p with store := [f], centringIdle := 0 }

/-- The newest `n` of a list of judgements or results, oldest first. -/
def newest {α : Type} (n : Nat) (l : List α) : List α := l.drop (l.length - n)

/-- FRAME_SLOT (R114): a slot is judged when its last bit has been received; the fourth error in sixteen ends
alignment, and any other slot is written to the store with the position expected for it. The bits clock a loop-timed
return frame (R124). -/
def frameSlot (x : Approach) (new : Bits) (s0 : State) : State :=
  let p := s0.ports.get x
  if p.framer = .aligned then
    let s := s0.onPort x (Port.clocked new.length)
    let bits := p.bits ++ new
    if bits.length < 264 then s.onPort x fun q => { q with bits := bits }
    else
      let os := octetsOfBits 33 bits
      let control := (os[1]?).getD 0
      let wrong := (os[0]?).getD 0 != marker || controlPos control != p.expected
      let judged := newest 16 (p.judged ++ [wrong])
      let rest := bits.drop 264
      if 4 ≤ judged.count true then exitToHunt x rest s
      else
        writeFrame x
          { control := control, aux := (os[2]?).getD 0, payload := os.drop 3, pos := p.expected, marked := wrong,
            lost := 0 }
          (s.onPort x fun q => { q with bits := rest, judged := judged, expected := (p.expected + 1) % 16 })
  else unreadBits x new s0

/-! ### Quarter checker (R119 to R122) -/

/-- The alarm, fault and echo bits of a frame without the alignment-error mark (R119). -/
def readFrameBits (x : Approach) (f : Frame) (s : State) : State :=
  let s1 := s.onPort x fun p => { p with farAlarm := controlFarAlarm f.control, senderFault := controlFault f.control }
  let s2 := if controlFarAlarm f.control then latchNotice (.farAlarm x) 0 s1 else s1
  let s3 := if controlFault f.control then latchNotice (.receiverFault x) 0 s2 else s2
  if f.pos % 4 = 1 ∧ f.aux.getLsbD 0 = true then countEvent .farBlockError 0 (some (.port x)) s3 else s3

/-- A good quarter's slots are handed to the intake in order (R121). -/
def deliverQuarter (x : Approach) (payloads : List (List Octet)) (s : State) : State :=
  (payloads.flatMap payloadSlots).foldl (fun st os => (takeSlot (.port x) x os st).1) s

/-- The result of a checked quarter enters the history and becomes the echo state (R121, R122). -/
def recordResult (x : Approach) (failed : Bool) (s : State) : State :=
  s.onPort x fun p => { p with history := newest 16 (p.history ++ [failed]), echo := failed }

/-- The quarter is complete when the first frame of a later quarter is taken: its four frames are there, and that frame
is the first of the next quarter (R120). -/
def Quarter.checked (q : Quarter) (f : Frame) : Bool := q.complete && q.offset == 3 && f.lost == 0

/-- The check octet of the settling frame is trusted and agrees with the quarter's payloads (R121). -/
def Quarter.agrees (q : Quarter) (f : Frame) : Bool := !f.marked && f.aux == crc8 q.payloads.flatten

/-- A quarter is settled by the first frame of a later quarter (R120, R121): incomplete, good or failed. -/
def settleQuarter (x : Approach) (q : Quarter) (f : Frame) (s : State) : State :=
  if q.checked f then
    if q.agrees f then deliverQuarter x q.payloads (recordResult x false s)
    else recordResult x true (discardSlots .crcError x q.payloads s)
  else discardSlots .slipLoss x q.payloads s

/-- The quarter a frame begins (R120): incomplete unless the frame stands at its first position. -/
def beginQuarter (f : Frame) : Quarter := { offset := f.pos % 4, payloads := [f.payload], complete := f.pos % 4 == 0 }

/-- A settlement that checked a quarter and found it failed forces the framer into HUNT when eight of the last sixteen
checked have then failed (R122). -/
def forceHunt (x : Approach) (q : Quarter) (f : Frame) (s : State) : State :=
  if q.checked f && !q.agrees f && 8 ≤ ((s.ports.get x).history).count true then exitToHunt x [] s else s

/-- The checker takes a frame (R119, R120): its bits are read, and it joins the quarter under assembly or settles that
quarter and begins the next, whose first frame it is. Bits first, then the settlement (DEDUCED, log entry 12); the
settling frame belongs to the next quarter also when the settlement forces HUNT (DEDUCED, log entry 13). -/
def checkFrame (x : Approach) (f : Frame) (s : State) : State :=
  let s1 := if f.marked then s else readFrameBits x f s
  match (s1.ports.get x).quarter with
  | none => s1.onPort x fun p => { p with quarter := some (beginQuarter f) }
  | some q =>
    if q.offset + 1 + f.lost ≤ 3 then
      s1.onPort x fun p => { p with quarter := some { offset := q.offset + 1 + f.lost,
                                                      payloads := q.payloads ++ [f.payload],
                                                      complete := q.complete && f.lost == 0 } }
    else
      forceHunt x q f ((settleQuarter x q f s1).onPort x fun p => { p with quarter := some (beginQuarter f) })

/-- A local frame instant of an ALIGNED port (R116, R118): while centring it is counted, and the sixteenth with no frame
written leaves ALIGNED; otherwise the oldest frame is read, or the last one is repeated, and the sixteenth repeat in a
row leaves ALIGNED. -/
def localFrameRead (x : Approach) (s : State) : State :=
  let p := s.ports.get x
  if p.framer = .aligned then
    if p.centring then
      if 16 ≤ p.centringIdle + 1 then clockLost x s
      else s.onPort x fun q => { q with centringIdle := q.centringIdle + 1 }
    else
      match p.store with
      | f :: rest => checkFrame x f (s.onPort x fun q => { q with store := rest, repeats := 0 })
      | [] =>
        let s1 := countEvent .linkSlip 1 (some (.port x)) (s.onPort x fun q =>
          { q with lastSlip := .repeat, repeats := q.repeats + 1 })
        if 16 ≤ p.repeats + 1 then clockLost x s1 else s1
  else s

/-- CENTRING_TIMEOUT (R116): the local frame instant that is the sixteenth of centring with no frame written, which
LOCAL_FRAME_READ also finds (DEDUCED, log entry 25). -/
def centringTimeout (x : Approach) (s : State) : State :=
  let p := s.ports.get x
  if p.framer = .aligned ∧ p.centring = true ∧ 16 ≤ p.centringIdle + 1 then clockLost x s else s

/-- CONSECUTIVE_REPEAT_LIMIT (R118): the local frame instant whose repeat is the sixteenth in a row; the repeat is
counted as a slip like the others before the exit, as LOCAL_FRAME_READ does (DEDUCED, log entry 25). -/
def consecutiveRepeatLimit (x : Approach) (s : State) : State :=
  let p := s.ports.get x
  if p.framer = .aligned ∧ p.centring = false ∧ p.store = [] ∧ 16 ≤ p.repeats + 1 then
    clockLost x (countEvent .linkSlip 1 (some (.port x)) (s.onPort x fun q =>
      { q with lastSlip := .repeat, repeats := q.repeats + 1 }))
  else s

/-! ### Enable and disable (R129, R130) -/

/-- The enabled setting of an approach is cleared (R129). -/
def disablePort (x : Approach) (s : State) : State :=
  let p := s.ports.get x
  if p.framer = .disabled then s
  else
    (if p.framer = .aligned then leaveAligned x s else s).onPort x fun q =>
      { q with framer := .disabled, bits := [], passed := 0, store := [], repeats := 0, markerInsertion := false,
               crcInsertion := .none, farAlarm := false, senderFault := false }

/-- The enabled setting of a disabled approach is set (R130): HUNT, and a return stream that starts afresh, so that a frame
still in progress from before the disable is cut (DESIGN CHOICE, log entry 33). -/
def enablePort (x : Approach) (s : State) : State :=
  if (s.ports.get x).framer = .disabled then
    s.onPort x fun q =>
      { q with framer := .hunt, bits := [], passed := 0, store := [], repeats := 0, returnPos := 0, sent := sentZero,
               echo := false, sending := none }
  else s

/-! ### Return stream (R123 to R128) -/

/-- The indication list of an approach (R125). -/
def State.indicationList (s : State) (x : Approach) : List Entry :=
  s.table.filter fun e => e.approach == x && e.indication != .none

/-- The entries a return frame carries: min(5, L) from the rotation index on, wrapping round (R125). -/
def rotated (list : List Entry) (index : Nat) : List Entry :=
  let i := index % list.length
  (list.drop i ++ list.take i).take 5

/-- The rotation index after a frame (R125). -/
def nextRotation (length index : Nat) : Nat :=
  if length = 0 then 0 else (index % length + min 5 length) % length

/-- Wait estimate of an entry from the projection, if there is one (R126). The start of a current green is 0, so a phase
that is green now answers 0; an anchored green that has overrun, whose window has length 0 (R56), is not counted as green
now, and the next window of the phase, or none, answers, as R62 says (DESIGN CHOICE, log entry 35). -/
def waitEstimate (ws : Option (List Window)) (phase : Nat) : Nat :=
  if phase = 0 then 255
  else match ws.bind fun l => nextGreen l phase with
    | some t => min 254 ((t + 9) / 10)
    | none => 255

/-- A filled indication place (R126, Table 10-4). -/
def indicationPlace (ws : Option (List Window)) (e : Entry) : List Octet :=
  octets2 e.bus ++ [octet e.indication.code, octet e.phase, octet (waitEstimate ws e.phase),
    octet (if e.indication = .granted then e.applied.getD 0 / 10 else 0)]

/-- The payload of the return frame composed now: five places, empty outside RUN (R125). -/
def State.returnPayload (s : State) (x : Approach) : List Octet :=
  let list := if s.mode = .run then rotated (s.indicationList x) (s.ports.get x).rotation else []
  let filled := list.flatMap (indicationPlace s.projection)
  filled ++ List.replicate (30 - filled.length) 0

/-- The far-alarm bit sent (R123). -/
def Port.sendsFarAlarm (p : Port) : Bool := p.framer != .aligned || p.force

/-- The control octet of the return frame composed now (R123). -/
def State.returnControl (s : State) (x : Approach) : Octet :=
  let p := s.ports.get x
  octet (p.returnPos * 16 + (if p.sendsFarAlarm then 8 else 0) + (if s.mode = .standby then 4 else 0))

/-- The aux octet of the return frame composed now (R123, R128): the check octet of the preceding return quarter at
position 4q, inverted while a CRC-error insertion aims at that quarter; the echo bit at 4q + 1; otherwise zero. -/
def Port.returnAux (p : Port) : Octet :=
  if p.returnPos % 4 = 0 then
    let c := crc8 p.sent.flatten
    if p.crcInsertion = .aimed then c ^^^ 0xFF else c
  else if p.returnPos % 4 = 1 then flag p.echo
  else 0

/-- The CRC-error insertion after the frame composed now (R128): made at the first frame after its target quarter, and
aimed at the quarter whose first frame is composed now. -/
def Port.nextCrcInsertion (p : Port) : CrcInsertion :=
  if p.returnPos % 4 = 0 then
    match p.crcInsertion with
    | .aimed => .none
    | .waiting => .aimed
    | .none => .none
  else p.crcInsertion

/-- The octets of the return frame composed now (R123, R128). -/
def State.returnOctets (s : State) (x : Approach) : List Octet :=
  let p := s.ports.get x
  (if p.markerInsertion then 0x93 else marker) :: s.returnControl x :: p.returnAux :: s.returnPayload x

/-- The first bit of the next return frame can be due: no loop-timed frame has bits still to be sent (R124). -/
def Port.returnDue (p : Port) : Bool :=
  match p.sending with
  | some r => r.timing == .local || r.unsent == 0
  | none => true

/-- RETURN_FRAME (R123): the next return frame is composed and begins with the timing of the link state (R124); at a
disabled port the stream stops at this boundary (R129). While a loop-timed frame has bits still to be sent, the boundary
is not reached (R124), and nothing happens (DESIGN CHOICE, log entry 4). When a locally timed frame ends is the sender's
to say (DESIGN CHOICE, log entry 23). -/
def returnFrame (x : Approach) (s : State) : State :=
  let p := s.ports.get x
  if p.returnDue = false then s
  else if p.framer = .disabled then s.onPort x fun q => { q with sending := none }
  else
    let octets := s.returnOctets x
    s.onPort x fun q =>
      { q with sending := some { octets := octets, unsent := 264,
                                 timing := if p.framer = .aligned then .loop else .local },
               markerInsertion := false, crcInsertion := p.nextCrcInsertion, returnPos := (p.returnPos + 1) % 16,
               sent := p.sent.drop 1 ++ [octets.drop 3],
               rotation := if s.mode = .run then nextRotation (s.indicationList x).length p.rotation else p.rotation }

/-- The bits of the return frame in progress that ApxTXD has still to carry (R109, R124); none while RSTn is low, when
ApxTXD and ApxTXC are held at one (R171), and at a port that sends nothing, where they idle at one (R129). -/
def State.returnBits (s : State) (x : Approach) : Bits :=
  if s.held then []
  else match (s.ports.get x).sending with
    | some r => (bitsOfOctets r.octets).drop (264 - r.unsent)
    | none => []

/-! ### Meanings -/

/-- CANDIDATE_MARKER (R112). -/
def execCandidateMarker (x : Approach) (bits : Bits) (s : State) : Host.Outcome State Fault Refusal :=
  whenRunning s (candidateMarker x bits)

/-- CONFIRM_TEST (R113). -/
def execConfirmTest (x : Approach) (bits : Bits) (s : State) : Host.Outcome State Fault Refusal :=
  whenRunning s (confirmTest x bits)

/-- FRAME_SLOT (R114). -/
def execFrameSlot (x : Approach) (bits : Bits) (s : State) : Host.Outcome State Fault Refusal :=
  whenRunning s (frameSlot x bits)

/-- LOCAL_FRAME_READ (R116). -/
def execLocalFrameRead (x : Approach) (s : State) : Host.Outcome State Fault Refusal := whenRunning s (localFrameRead x)

/-- CENTRING_TIMEOUT (R116). -/
def execCentringTimeout (x : Approach) (s : State) : Host.Outcome State Fault Refusal :=
  whenRunning s (centringTimeout x)

/-- CONSECUTIVE_REPEAT_LIMIT (R118). -/
def execConsecutiveRepeatLimit (x : Approach) (s : State) : Host.Outcome State Fault Refusal :=
  whenRunning s (consecutiveRepeatLimit x)

/-- RETURN_FRAME (R123). -/
def execReturnFrame (x : Approach) (s : State) : Host.Outcome State Fault Refusal := whenRunning s (returnFrame x)

end Sys2Proof.Machine
end

