-- ==== Sys2Proof/Machine/Configure.lean ====
section
/-! DEFINITION. Configuration (chapter 8): reading the items of a CONFIGURE body, its judgement, clamping and writing;
READ_CONFIG; and the two commands. -/

namespace Sys2Proof.Machine

/-! ### Items and lengths (Table 10-6, R170) -/

/-- The seven sections (Table 8-2). -/
inductive SectionName where | general | approach | cls | routeMap | phaseTable | planTable | movementMap
deriving DecidableEq, Repr

/-- The section a code names (Table 10-1). -/
def sectionOf (o : Octet) : Option SectionName :=
  if o = 1 then some .general else if o = 2 then some .approach else if o = 3 then some .cls
  else if o = 4 then some .routeMap else if o = 5 then some .phaseTable else if o = 6 then some .planTable
  else if o = 7 then some .movementMap else none

/-- Section code. -/
def SectionName.code : SectionName → Nat
  | .general => 1
  | .approach => 2
  | .cls => 3
  | .routeMap => 4
  | .phaseTable => 5
  | .planTable => 6
  | .movementMap => 7

/-- One item of a CONFIGURE: section, the octet naming its approach or class, and its data. -/
structure Item where
  name : SectionName
  place : Octet
  data : List Octet
deriving DecidableEq, Repr

/-- Data length of a section, read with the count its first data octet carries (Table 10-6, R170). -/
def dataLength (n : SectionName) (data : List Octet) : Option Nat :=
  match n, data with
  | .general, _ => some 19
  | .approach, _ => some 16
  | .cls, _ => some 8
  | .routeMap, m :: _ => some (1 + 3 * m.toNat)
  | .phaseTable, m :: _ => some (1 + 12 * m.toNat)
  | .planTable, m :: _ => some (1 + 19 * m.toNat)
  | .movementMap, _ => some 12
  | _, [] => none

/-- What the length walk finds: the items, and whether it ended at a code that names no section (R170). -/
structure Items where
  items : List Item
  unknown : Bool
deriving DecidableEq, Repr

/-- The length walk over `k` items (R170): none when the length does not agree. Items after a code that names no section
are not seen (DEDUCED, log entry 15). -/
def walkItems : Nat → List Octet → Option Items
  | 0, rest => if rest.isEmpty then some { items := [], unknown := false } else none
  | k + 1, body =>
    match body with
    | [] => none
    | code :: rest =>
      match sectionOf code with
      | none => some { items := [], unknown := true }
      | some name =>
        match rest with
        | [] => none
        | place :: data =>
          match dataLength name data with
          | none => none
          | some n =>
            if data.length < n then none
            else (walkItems k (data.drop n)).map fun r =>
              { r with items := { name := name, place := place, data := data.take n } :: r.items }

/-! ### Fields and ranges (Tables 8-4 to 8-6, 3-1, R153) -/

/-- Read fields of the given widths, high octet first. -/
def readFields : List Nat → List Octet → List Nat
  | [], _ => []
  | w :: ws, os => number (os.take w) :: readFields ws (os.drop w)

/-- Split data into records of one length. -/
def records (len : Nat) : Nat → List Octet → List (List Octet)
  | 0, _ => []
  | k + 1, os => os.take len :: records len k (os.drop len)

/-- Widths of the GENERAL fields. -/
def generalWidths : List Nat := [2, 1, 1, 2, 1, 2, 1, 1, 1, 1, 1, 1, 1, 1, 1, 1]

/-- Ranges of the GENERAL fields (Table 8-4); the outcome mode is a code, judged as structure. -/
def generalRanges : List (Nat × Nat) :=
  [(300, 2550), (0, 50), (10, 200), (0, 900), (1, 4), (100, 2000), (1, 10), (1, 10), (1, 3), (0, 100), (10, 255),
   (0, 4), (0, 20), (0, 3), (0, 1), (1, 64)]

/-- Widths of the APPROACH fields. -/
def approachWidths : List Nat := [1, 1, 1, 1, 1, 2, 1, 1, 1, 1, 1, 1, 1, 1, 1]

/-- Ranges of the APPROACH fields (Table 8-5); enabled and N are codes, judged as structure. -/
def approachRanges : List (Nat × Nat) :=
  [(0, 1), (2, 8), (10, 100), (50, 250), (30, 200), (0, 600), (0, 100), (0, 100), (0, 50), (0, 50), (1, 10), (5, 60),
   (0, 255), (1, 15), (1, 8)]

/-- Widths of the CLASS fields. -/
def classWidths : List Nat := [1, 1, 1, 2, 2, 1]

/-- Ranges of the CLASS fields (Table 8-6). -/
def classRanges : List (Nat × Nat) := [(0, 1), (0, 1), (0, 100), (0, 600), (0, 600), (0, 120)]

/-- Widths of a route map entry. -/
def routeWidths : List Nat := [2, 1]

/-- Ranges of a route map entry; the route is judged as structure, a class above 3 is clamped (R153). -/
def routeRanges : List (Nat × Nat) := [(1, 999), (0, 3)]

/-- Widths of a phase record. -/
def phaseWidths : List Nat := [1, 1, 1, 2, 2, 2, 2, 1]

/-- Ranges of a phase record (Table 3-1); the phase and the truncatable flag are judged as structure. -/
def phaseRanges : List (Nat × Nat) := [(1, 8), (20, 60), (0, 60), (50, 600), (0, 600), (0, 300), (0, 300), (0, 1)]

/-- Widths of a plan. -/
def planWidths : List Nat := [1, 2, 2, 2, 2, 2, 2, 2, 2, 2]

/-- Ranges of a plan: cycle length (R45), splits (R153); the plan id is judged as structure. -/
def planRanges : List (Nat × Nat) :=
  [(0, 15), (300, 2400), (0, 2400), (0, 2400), (0, 2400), (0, 2400), (0, 2400), (0, 2400), (0, 2400), (0, 2400)]

/-- Field `i` of a list of fields. -/
def field (v : List Nat) (i : Nat) : Nat := (v[i]?).getD 0

/-- Replace field `i`. -/
def setField (v : List Nat) (i n : Nat) : List Nat := v.set i n

/-- Each value limited to its own range (R153). -/
def clampFields (ranges : List (Nat × Nat)) (v : List Nat) : List Nat :=
  (v.zip ranges).map fun q => max q.2.1 (min q.2.2 q.1)

/-- The two values of an APPROACH section that are clamped against each other: v_floor against v_cap, T_expire against
T_stale (R153). -/
def clampPairs (v : List Nat) : List Nat :=
  let v1 := if field v 3 < field v 2 then setField v 2 (field v 3) else v
  if field v1 11 ≤ field v1 10 then setField v1 11 (field v1 10 + 1) else v1

/-- The fields of an APPROACH section after both clamps. -/
def clampApproach (v : List Nat) : List Nat := clampPairs (clampFields approachRanges v)

/-- The records of a section: each with the number its clamped items carry as place, its fields as written, and its
fields after clamping (R153, R170). -/
structure Rec where
  place : Nat
  written : List Nat
  taken : List Nat
deriving DecidableEq, Repr

/-- Records numbered from 0. -/
def numbered (f : Nat → List Nat → Rec) : Nat → List (List Nat) → List Rec
  | _, [] => []
  | i, v :: vs => f i v :: numbered f (i + 1) vs

/-- The count octet and the records that follow it. -/
def countOf (data : List Octet) : Nat := (bodyOctet data 0).toNat

/-- The records of an item. MOVEMENT_MAP values are identifiers and are not clamped. -/
def Item.recs (it : Item) : List Rec :=
  match it.name with
  | .general =>
    let v := readFields generalWidths it.data
    [{ place := 0, written := v, taken := clampFields generalRanges v }]
  | .approach =>
    let v := readFields approachWidths it.data
    [{ place := it.place.toNat, written := v, taken := clampApproach v }]
  | .cls =>
    let v := readFields classWidths it.data
    [{ place := it.place.toNat, written := v, taken := clampFields classRanges v }]
  | .routeMap =>
    numbered (fun i v => { place := i, written := v, taken := clampFields routeRanges v }) 0
      ((records 3 (countOf it.data) it.data.tail).map (readFields routeWidths))
  | .phaseTable =>
    ((records 12 (countOf it.data) it.data.tail).map (readFields phaseWidths)).map fun v =>
      { place := field v 0, written := v, taken := clampFields phaseRanges v }
  | .planTable =>
    numbered (fun i v => { place := i, written := v, taken := clampFields planRanges v }) 0
      ((records 19 (countOf it.data) it.data.tail).map (readFields planWidths))
  | .movementMap =>
    let v := it.data.map (fun (o : Octet) => o.toNat)
    [{ place := 0, written := v, taken := v }]

/-! ### Structure (R152) -/

/-- No two values of a list are equal. -/
def noRepeats : List Nat → Bool
  | [] => true
  | n :: ns => !ns.contains n && noRepeats ns

/-- Two items carry the same section and, for APPROACH and CLASS, the same place; the place octet of any other section
is not read (R152, R170). -/
def Item.key (it : Item) : Nat :=
  match it.name with
  | .approach => 1000 + it.place.toNat
  | .cls => 2000 + it.place.toNat
  | .general => 1
  | .routeMap => 4
  | .phaseTable => 5
  | .planTable => 6
  | .movementMap => 7

/-- The structure of one item by itself (R152). -/
def Item.sound (it : Item) : Bool :=
  let vs := it.recs.map fun r => r.written
  match it.name with
  | .general => vs.all fun v => field v 14 ≤ 1
  | .approach => it.place.toNat ≤ 3 &&
      vs.all fun v => field v 0 ≤ 1 && (field v 1 == 2 || field v 1 == 4 || field v 1 == 8)
  | .cls => it.place.toNat ≤ 3 && vs.all fun v => field v 0 ≤ 1 && field v 1 ≤ 1
  | .routeMap => countOf it.data ≤ 64 &&
      (vs.all fun v => 1 ≤ field v 0 && field v 0 ≤ 999) && noRepeats (vs.map fun v => field v 0)
  | .phaseTable => 2 ≤ countOf it.data && countOf it.data ≤ 8 &&
      (vs.all fun v => 1 ≤ field v 0 && field v 0 ≤ countOf it.data && field v 7 ≤ 1) &&
      noRepeats (vs.map fun v => field v 0)
  | .planTable => countOf it.data ≤ 4 && vs.all fun v => field v 0 ≤ 15
  | .movementMap => vs.all fun v => v.all fun p => p ≤ 8

/-- The item of a section, if the message carries one. -/
def findItem (n : SectionName) (items : List Item) : Option Item := items.find? fun it => it.name == n

/-- Every phase a movement map names. -/
def mapPhases (m : PerApproach MovementLine) : List Nat :=
  allApproaches.flatMap fun x => [(m.get x).through, (m.get x).left, (m.get x).right]

/-- The movement map and the phase count that will stand agree (R152); judged when either is written. -/
def mapAgrees (c : Configuration) (items : List Item) : Bool :=
  let n := match findItem .phaseTable items with
    | some it => countOf it.data
    | none => c.phases.length
  let phases := match findItem .movementMap items with
    | some it => it.data.map (fun (o : Octet) => o.toNat)
    | none => mapPhases c.movementMap
  match findItem .phaseTable items, findItem .movementMap items with
  | none, none => true
  | _, _ => phases.all fun p => p ≤ n

/-- The message has no structural error (R152). -/
def structureOk (c : Configuration) (count : Nat) (r : Items) : Bool :=
  !r.unknown && 1 ≤ count && count ≤ 7 && noRepeats (r.items.map Item.key) && r.items.all Item.sound &&
    mapAgrees c r.items

/-- A section that can be written in STANDBY only (Table 8-2). -/
def SectionName.standbyOnly : SectionName → Bool
  | .phaseTable => true
  | .planTable => true
  | .movementMap => true
  | .general => false
  | .approach => false
  | .cls => false
  | .routeMap => false

/-! ### Clamped items (R153, R170) -/

/-- The clamped fields of a record: index, and the value as written. -/
def clampedFrom : Nat → List Nat → List Nat → List (Nat × Nat)
  | i, w :: ws, t :: ts => if w = t then clampedFrom (i + 1) ws ts else (i, w) :: clampedFrom (i + 1) ws ts
  | _, _, _ => []

/-- The clamped items of a section, as octets of the OK_CLAMPED reply (Table 10-5). -/
def Item.clamped (it : Item) : List (List Octet) :=
  it.recs.flatMap fun r =>
    (clampedFrom 0 r.written r.taken).map fun q => [octet (it.name.code * 32 + q.1), octet r.place] ++ octets2 q.2

/-! ### Writing (R154) -/

/-- GENERAL from its fields. -/
def General.ofFields (v : List Nat) : General :=
  { horizon := field v 0, clearance := field v 1, aMin := field v 2, bCycle := field v 3, gCycle := field v 4,
    tAns := field v 5, tLate := field v 6, tSig := field v 7, maxAttempts := field v 8, reviseThreshold := field v 9,
    quietTime := field v 10, wLate := field v 11, wLoad := field v 12, defaultClass := field v 13,
    outcomeMode := if field v 14 = 0 then .stop else .wrap, outcomeThreshold := field v 15 }

/-- GENERAL as fields. -/
def General.fields (g : General) : List Nat :=
  [g.horizon, g.clearance, g.aMin, g.bCycle, g.gCycle, g.tAns, g.tLate, g.tSig, g.maxAttempts, g.reviseThreshold,
   g.quietTime, g.wLate, g.wLoad, g.defaultClass, if g.outcomeMode = .stop then 0 else 1, g.outcomeThreshold]

/-- APPROACH from its fields. -/
def ApproachConfig.ofFields (v : List Nat) : ApproachConfig :=
  { enabled := field v 0 == 1, depth := field v 1, vFloor := field v 2, vCap := field v 3, vCruise := field v 4,
    dStop := field v 5, dDep := field v 6, m0 := field v 7, m1 := field v 8, cGrow := field v 9, tStale := field v 10,
    tExpire := field v 11, strength := field v 12, kMax := field v 13, refill := field v 14 }

/-- APPROACH as fields. -/
def ApproachConfig.fields (a : ApproachConfig) : List Nat :=
  [a.enabled.toNat, a.depth, a.vFloor, a.vCap, a.vCruise, a.dStop, a.dDep, a.m0, a.m1, a.cGrow, a.tStale, a.tExpire,
   a.strength, a.kMax, a.refill]

/-- CLASS from its fields. -/
def ClassConfig.ofFields (v : List Nat) : ClassConfig :=
  { enabled := field v 0 == 1, unconditional := field v 1 == 1, weight := field v 2, lOn := field v 3,
    lEarly := field v 4, lHys := field v 5 }

/-- CLASS as fields. -/
def ClassConfig.fields (c : ClassConfig) : List Nat :=
  [c.enabled.toNat, c.unconditional.toNat, c.weight, c.lOn, c.lEarly, c.lHys]

/-- A phase record from its fields; the first names the phase. -/
def PhaseRecord.ofFields (v : List Nat) : PhaseRecord :=
  { yellow := field v 1, redClear := field v 2, minGreen := field v 3, pedMin := field v 4, maxExtend := field v 5,
    maxAdvance := field v 6, truncatable := field v 7 == 1 }

/-- The record of phase `i` as fields. -/
def PhaseRecord.fields (r : PhaseRecord) (i : Nat) : List Nat :=
  [i, r.yellow, r.redClear, r.minGreen, r.pedMin, r.maxExtend, r.maxAdvance, r.truncatable.toNat]

/-- A plan from its fields. -/
def Plan.ofFields (v : List Nat) : Plan := { id := field v 0, cycle := field v 1, splits := (v.drop 2).take 8 }

/-- A plan as fields. -/
def Plan.fields (p : Plan) : List Nat := p.id :: p.cycle :: p.splits

/-- One approach's movement line from the twelve octets of the map. -/
def MovementLine.ofFields (v : List Nat) (x : Approach) : MovementLine :=
  { through := field v (3 * Approach.index x), left := field v (3 * Approach.index x + 1),
    right := field v (3 * Approach.index x + 2) }

/-- The phase records in phase order, whatever their order in the message (R155). -/
def phaseTableOf (n : Nat) (vs : List (List Nat)) : List PhaseRecord :=
  (List.range n).map fun i => PhaseRecord.ofFields ((vs.find? fun v => field v 0 == i + 1).getD [])

/-- One section takes its new contents (R154). -/
def writeItem (c : Configuration) (it : Item) : Configuration :=
  let vs := it.recs.map fun r => r.taken
  let v := vs.headD []
  match it.name with
  | .general => { c with general := .ofFields v }
  | .approach =>
    match approachOf it.place with
    | some x => { c with approaches := c.approaches.set x (.ofFields v) }
    | none => c
  | .cls => { c with classes := c.classes.set it.place.toNat (.ofFields v) }
  | .routeMap => { c with routeMap := vs.map fun q => { route := field q 0, cls := field q 1 } }
  | .phaseTable => { c with phases := phaseTableOf (countOf it.data) vs }
  | .planTable => { c with plans := vs.map Plan.ofFields }
  | .movementMap =>
    { c with movementMap := { a := .ofFields v .a, b := .ofFields v .b, c := .ofFields v .c, d := .ofFields v .d } }

/-- The model discards its anchor and enters NO_STATUS (R46). -/
def discardAnchor (s : State) : State :=
  setModelState .noStatus { s with model := { s.model with anchor := none } }

/-- Tokens above a lowered Kmax are set to it at once (R83). -/
def limitTokens (x : Approach) (kMax : Nat) (s : State) : State :=
  if kMax < s.planner.tokens.get x then s.onPlanner fun p => { p with tokens := p.tokens.set x kMax } else s

/-- The enabled setting reaches the port (R129, R130). -/
def followEnabled (x : Approach) (s : State) : State :=
  if (s.config.approaches.get x).enabled then enablePort x s else disablePort x s

/-- The effects of one written section on other blocks (R154). -/
def sectionEffect (s : State) (it : Item) : State :=
  match it.name with
  | .phaseTable => discardAnchor s
  | .planTable => discardAnchor s
  | .approach =>
    match approachOf it.place with
    | some x => limitTokens x (s.config.approaches.get x).kMax (followEnabled x s)
    | none => s
  | .general => s
  | .cls => s
  | .routeMap => s
  | .movementMap => s

/-- Every section of a message is written at one instant, then their effects are made in the message's order (R154). -/
def writeAll (items : List Item) (s : State) : State :=
  items.foldl sectionEffect { s with config := items.foldl writeItem s.config }

/-- The reply to a written message: OK, or OK_CLAMPED with the count and up to 60 clamped items (R151, R153). -/
def writtenReply (items : List Item) : Reply :=
  let clamped := items.flatMap Item.clamped
  if clamped.isEmpty then .bare .ok
  else { code := .okClamped, data := octet clamped.length :: (clamped.take 60).flatten }

/-- The judgement of a CONFIGURE whose length agrees (R151). -/
def judgeConfigure (count : Nat) (r : Items) (s : State) : State × Reply :=
  if s.mode ≠ .standby ∧ r.items.any (fun it => it.name.standbyOnly) then (s, .bare .wrongMode)
  else if structureOk s.config count r then (writeAll r.items s, writtenReply r.items)
  else (s, .bare .badValue)

/-- CONFIGURE: the length walk (R170), then the judgement (R151). -/
def configureOwner (m : AskedMessage) (s : State) : State × Reply :=
  match m.body with
  | [] => (s, .bare .badLength)
  | k :: body =>
    match walkItems k.toNat body with
    | some r => judgeConfigure k.toNat r s
    | none => (s, .bare .badLength)

/-! ### READ_CONFIG (R155) -/

/-- Fields of the given widths as octets. -/
def writeFields : List Nat → List Nat → List Octet
  | w :: ws, v :: vs => (if w = 2 then octets2 v else [octet v]) ++ writeFields ws vs
  | _, _ => []

/-- The line of the movement map of one approach. -/
def MovementLine.octets (l : MovementLine) : List Octet := [octet l.through, octet l.left, octet l.right]

/-- The phase records with their phases, from phase `i` on. -/
def phaseOctets : Nat → List PhaseRecord → List Octet
  | _, [] => []
  | i, r :: rs => writeFields phaseWidths (r.fields i) ++ phaseOctets (i + 1) rs

/-- A section's data as it stands (Table 10-6); an APPROACH also carries its movement map line (R155). None for a place
outside the section's set. -/
def sectionData (c : Configuration) (n : SectionName) (place : Octet) : Option (List Octet) :=
  match n with
  | .general => some (writeFields generalWidths c.general.fields)
  | .approach => (approachOf place).map fun x =>
      writeFields approachWidths (c.approaches.get x).fields ++ (c.movementMap.get x).octets
  | .cls => if place.toNat ≤ 3 then some (writeFields classWidths (c.classes.get place.toNat).fields) else none
  | .routeMap => some (octet c.routeMap.length :: c.routeMap.flatMap fun r => writeFields routeWidths [r.route, r.cls])
  | .phaseTable => some (octet c.phases.length :: phaseOctets 1 c.phases)
  | .planTable => some (octet c.plans.length :: c.plans.flatMap fun p => writeFields planWidths p.fields)
  | .movementMap => some (allApproaches.flatMap fun x => (c.movementMap.get x).octets)

/-- The place octet a READ_CONFIG reply carries: 0 for a section of one place (R170). -/
def replyPlace (n : SectionName) (place : Octet) : Octet :=
  match n with
  | .approach => place
  | .cls => place
  | .general => 0
  | .routeMap => 0
  | .phaseTable => 0
  | .planTable => 0
  | .movementMap => 0

/-- READ_CONFIG (R155). -/
def readConfigOwner (body : List Octet) (s : State) : State × Reply :=
  match sectionOf (bodyOctet body 0) with
  | none => (s, .bare .badValue)
  | some n =>
    match sectionData s.config n (bodyOctet body 1) with
    | some data => (s, .ok (bodyOctet body 0 :: replyPlace n (bodyOctet body 1) :: data))
    | none => (s, .bare .badValue)

/-! ### Meanings -/

/-- CONFIGURE (R151). -/
def execConfigure (s : State) : Host.Outcome State Fault Refusal :=
  whenRunning s (takeAsked (fun m => m.kind == 0x01) configureOwner)

/-- READ_CONFIG (R155). -/
def execReadConfig (s : State) : Host.Outcome State Fault Refusal := whenRunning s (takeFixed 0x02 2 readConfigOwner)

end Sys2Proof.Machine
end

