-- ==== Sys2Proof/Machine/Table.lean ====
section
/-! DEFINITION. The request table (chapter 1): taking telegrams, updating, admitting and evicting entries, the recent
bus cache and the exits; and the commands CHECK_IN, POSITION, CHECK_OUT, WITHDRAW, ENTRY_EXPIRY, CACHE_AGE_OUT. -/

namespace Sys2Proof.Machine

/-! ### Exits (R19 to R24) -/

/-- The exit procedure (R19): planner told, record formed and CLOSE counted, entry removed, cache, pass trigger. -/
def leaveTable (e : Entry) (code : OutcomeCode) (byCheckOut toCache : Bool) (s : State) : State :=
  let s1 := tellDeparture e s
  let s2 := countEvent .close code.code (some (.port e.approach))
    (outcomeArrives (outcomeRecord e code s1.now byCheckOut) s1)
  let s3 := removeEntry e.bus s2
  triggerPass (if toCache then cacheBus e.bus e.approach s3 else s3)

/-- Outcome code at CHECK_OUT (R20). -/
def checkOutCode (s : State) (e : Entry) : OutcomeCode :=
  match e.state with
  | .granted => .servedGranted
  | .spent =>
    match e.grantRan, e.closeTime with
    | some true, some t =>
      if elapsed s.now t ≤ (s.config.phase e.phase).yellow then .servedGranted else .missed
    | _, _ => .missed
  | .covered => .servedCovered
  | .denied => .servedDenied
  | .new => .servedUnaided
  | .far => .servedUnaided
  | .watch => .servedUnaided
  | .waiting => .servedUnaided
  | .commanded => .servedUnaided

/-- One entry leaves at a change to STANDBY (R24): record, CLOSE and removal, with no cache entry and no trigger; a
member of the active grant leaves its member list and no revise is made. -/
def abandonEntry (s : State) (e : Entry) : State :=
  let s1 := s.onGrant fun g => { g with members := g.members.filter fun b => b != e.bus }
  removeEntry e.bus (countEvent .close OutcomeCode.abandoned.code (some (.port e.approach))
    (outcomeArrives (outcomeRecord e .abandoned s1.now false) s1))

/-- Every entry leaves, oldest first (R24). -/
def abandonAll (s : State) : State := s.table.foldl abandonEntry s

/-! ### Updates (R10 to R13) -/

/-- A speed sample enters the ring as the newest; the ring keeps the newest 8 (R13). -/
def pushSample (ring : List Nat) (v : Nat) : List Nat := (ring ++ [v]).drop (ring.length + 1 - 8)

/-- The motion fields an accepted CHECK_IN or POSITION writes (R13), with its sequence (R12). -/
def Entry.move (e : Entry) (t : Telegram) (now : PartTime) : Entry :=
  { e with fromCabinet := t.source == .cabinet, seq := t.seq, tLast := now,
           distance := correctedDistance t.distance t.speed t.age, atStop := t.atStop, doorOpen := t.doorOpen,
           dwell := t.dwell, lateness := t.lateness, load := t.load,
           ring := if t.atStop then e.ring else pushSample e.ring t.speed }

/-- An accepted CHECK_IN or POSITION updates the entry, which is evaluated, placed and signalled (R13, R10). -/
def updateKnown (t : Telegram) (e : Entry) (s : State) : State :=
  let e1 := (s.updateEvaluation (e.move t s.now)).placeAfterUpdate
  triggerPass (updateEntry e.bus (fun _ => e1) s)

/-- The sequence difference d of R12. -/
def sequenceDifference (seq last : Nat) : Nat := (seq + 16 - last % 16) % 16

/-- A telegram for a known bus (R11, R12). -/
def takeKnown (t : Telegram) (e : Entry) (s : State) : State :=
  if t.approach ≠ e.approach then countDiscard .crossApproach t.source s
  else
    let d := sequenceDifference t.seq e.seq
    if d = 0 then countDiscard .duplicate t.source s
    else if 8 ≤ d then countDiscard .outOfOrder t.source s
    else match t.kind with
      | .checkIn => updateKnown t e s
      | .position => updateKnown t e s
      | .checkOut => leaveTable e (checkOutCode s e) true true s
      | .withdraw => leaveTable e .withdrawn false false s

/-! ### Admission (R14 to R17) -/

/-- Class of a route at admission: the route map's class, or the default class for an unknown or unmapped route (R8). -/
def State.classOf (s : State) (route : Nat) : Nat :=
  if route = 0 then s.config.general.defaultClass
  else match s.config.routeMap.find? fun r => r.route == route with
    | some r => r.cls
    | none => s.config.general.defaultClass

/-- Phase of a movement on an approach (R8). -/
def MovementLine.get (l : MovementLine) : Movement → Nat
  | .through => l.through
  | .left => l.left
  | .right => l.right

/-- The estimate group before the first evaluation: previous eligibility NEUTRAL, coasted-ever clear (R8, R38). -/
def Estimate.first : Estimate :=
  { evalTime := 0, speed := 0, distNow := 0, eta := 0, beyond := false, halfWidth := 0, winStart := 0, winEnd := 0,
    eligibility := .neutral, score := 0, coasting := false, coastedEver := false }

/-- The entry a telegram creates, with the "At admission" values of R8. -/
def State.newEntry (s : State) (t : Telegram) : Entry :=
  { bus := t.bus, route := t.route, cls := s.classOf t.route, approach := t.approach, movement := t.movement,
    phase := (s.config.movementMap.get t.approach).get t.movement, fromCabinet := t.source == .cabinet, seq := t.seq,
    admission := s.admissions + 1, admitTime := s.now, admittedByPosition := t.kind == .position,
    ring := if t.atStop then [] else [t.speed], distance := correctedDistance t.distance t.speed t.age,
    tLast := s.now, atStop := t.atStop, doorOpen := t.doorOpen, dwell := t.dwell, lateness := t.lateness,
    latenessAtAdmission := t.lateness, load := t.load, est := .first, state := .new, reason := none, attempts := 0,
    action := none, requested := none, applied := none, role := none, commandTime := none, etaAtCommand := none,
    closeTime := none, grantRan := none, indication := .none, shadow := false, classified := false }

/-- Admission when there is room (R16). -/
def admitBus (t : Telegram) (s : State) : State :=
  let e := (s.updateEvaluation (s.newEntry t)).placeAfterUpdate
  let s1 := countEvent .admission (if t.kind = .position then 1 else 0) (some t.source)
    { s with table := s.table ++ [e], admissions := s.admissions + 1 }
  triggerPass s1

/-- Victim evaluation of FAR and WATCH entries (R17, R26). -/
def State.victimEvaluation (s : State) (e : Entry) : Entry :=
  match e.state with
  | .far => s.keepEvaluation e
  | .watch => s.keepEvaluation e
  | _ => e

/-- An entry's value as a victim, if it may be one (R17). -/
def victimValue (e : Entry) : Option Nat :=
  match e.state with
  | .new => some 2551
  | .far => some e.est.eta
  | .watch => some e.est.eta
  | _ => none

/-- The victim with its value: the largest value, the oldest admission among equals (R17). -/
def chooseVictim : List Entry → Option (Entry × Nat)
  | [] => none
  | e :: es =>
    match victimValue e, chooseVictim es with
    | none, r => r
    | some v, none => some (e, v)
    | some v, some (f, w) => if w ≤ v then some (e, v) else some (f, w)

/-- Admission at a full table (R17). -/
def admitFull (t : Telegram) (s : State) : State :=
  let s1 : State := { s with table := s.table.map s.victimEvaluation }
  match chooseVictim s1.table with
  | some (e, v) =>
    if s.trialEta t < v then
      admitBus t (countEvent .evict 0 (some (.port e.approach)) (leaveTable e .evicted false false s1))
    else countEvent .admitReject 0 (some t.source) s1
  | none => countEvent .admitReject 0 (some t.source) s1

/-- Admission, with room or without (R16, R17). -/
def admitAny (t : Telegram) (s : State) : State := if s.table.length < 32 then admitBus t s else admitFull t s

/-- Cache lookup and admission of a CHECK_IN or POSITION of an unknown bus (R15). -/
def lookUpAndAdmit (t : Telegram) (s : State) : State :=
  match s.findCached t.bus with
  | none => admitAny t (countEvent .cacheLookup 1 (some t.source) s)
  | some c =>
    if elapsed s.now c.time < 10 * s.config.general.quietTime then
      countDiscard .staleAfterCheckout t.source (countEvent .cacheLookup 0 (some t.source) s)
    else
      admitAny t { countEvent .cacheLookup 2 (some t.source) s with cache := s.cache.filter fun q => q.bus != t.bus }

/-- A telegram for an unknown bus (R14). -/
def takeUnknown (t : Telegram) (s : State) : State :=
  match t.kind with
  | .checkIn => lookUpAndAdmit t s
  | .position => lookUpAndAdmit t s
  | .checkOut => countEvent .orphanCheckout 0 (some t.source) (cacheBus t.bus t.approach s)
  | .withdraw => countDiscard .unknownBus t.source s

/-- The table applies a telegram (sections 1.5 and 1.6). -/
def applyTelegram (t : Telegram) (s : State) : State :=
  match s.findEntry t.bus with
  | some e => takeKnown t e s
  | none => takeUnknown t s

/-- The table takes the next telegram of the rotation when it is of the kind named (R5); otherwise the event does not
happen and nothing changes (DESIGN CHOICE, log entry 4). -/
def takeTelegram (k : TelegramKind) (s : State) : State :=
  match s.nextTelegram with
  | some t => if t.kind = k then applyTelegram t { s with intake := s.intake.serve } else s
  | none => s

/-! ### Due events of the table -/

/-- The expiry of an entry has fallen due (R22). -/
def State.expired (s : State) (e : Entry) : Bool :=
  reached s.now (after e.tLast (10 * (s.config.approaches.get e.approach).tExpire))

/-- The age of a cache entry has reached half the wrap (R18). -/
def State.agedOut (s : State) (c : CacheEntry) : Bool := 2147483648 ≤ elapsed s.now c.time

/-- ENTRY_EXPIRY (R22). -/
def expireEntry (bus : Nat) (s : State) : State :=
  match s.findEntry bus with
  | some e => if s.expired e then leaveTable e .expired false false s else s
  | none => s

/-- CACHE_AGE_OUT (R18). -/
def ageOutCache (bus : Nat) (s : State) : State :=
  { s with cache := s.cache.filter fun c => !(c.bus == bus && s.agedOut c) }

/-! ### Meanings -/

/-- CHECK_IN (R14). -/
def execCheckIn (s : State) : Host.Outcome State Fault Refusal := whenRunning s (takeTelegram .checkIn)

/-- POSITION (R13). -/
def execPosition (s : State) : Host.Outcome State Fault Refusal := whenRunning s (takeTelegram .position)

/-- CHECK_OUT (R20). -/
def execCheckOut (s : State) : Host.Outcome State Fault Refusal := whenRunning s (takeTelegram .checkOut)

/-- WITHDRAW (R21). -/
def execWithdraw (s : State) : Host.Outcome State Fault Refusal := whenRunning s (takeTelegram .withdraw)

/-- ENTRY_EXPIRY (R22). -/
def execEntryExpiry (bus : Nat) (s : State) : Host.Outcome State Fault Refusal := whenRunning s (expireEntry bus)

/-- CACHE_AGE_OUT (R18). -/
def execCacheAgeOut (bus : Nat) (s : State) : Host.Outcome State Fault Refusal := whenRunning s (ageOutCache bus)

end Sys2Proof.Machine
end

