-- ==== Sys2Proof/Machine/Modes.lean ====
section
/-! DEFINITION. Operating modes (sections 8.1 and 8.2): the judgement of SET_MODE, the consistency check, and the three
changes of mode; and the commands SET_MODE_STANDBY, SET_MODE_MONITOR and SET_MODE_RUN. -/

namespace Sys2Proof.Machine

/-- The mode a target code names (Table 10-1). -/
def modeOf (o : Octet) : Option Mode :=
  if o = 0 then some .standby else if o = 1 then some .monitor else if o = 2 then some .run else none

/-! ### Consistency check (R148) -/

/-- The shortest split of phase `i`: Y + RC + M (R148 item 3). -/
def Configuration.shortestSplit (c : Configuration) (i : Nat) : Nat :=
  (c.phase i).yellow + (c.phase i).redClear + (c.phase i).minGreen

/-- Items 3 and 4 of the check for one plan: every split of the phases 1 to n is long enough, and they sum to C. -/
def Configuration.planFits (c : Configuration) (p : Plan) : Bool :=
  let phases := (List.range c.phases.length).map fun i => i + 1
  phases.all (fun i => c.shortestSplit i ≤ p.split i) && (phases.map p.split).sum == p.cycle

/-- The consistency check (R148). -/
def Configuration.consistent (c : Configuration) : Bool :=
  !c.plans.isEmpty && noRepeats (c.plans.map fun p => p.id) && c.plans.all c.planFits

/-! ### Effects of a change (R108, R149, R150) -/

/-- A shadow grant is dropped at a change from MONITOR to RUN: each member present returns to WAITING with NEEDS_GREEN,
its planning fields kept, and the record is removed (R108). -/
def dropShadow (s : State) : State :=
  match s.planner.grant with
  | some g =>
    if g.shadow then
      State.onPlanner { s with table := s.table.map fun e =>
          if g.members.contains e.bus then e.place .waiting (some .needsGreen) else e } fun p => { p with grant := none }
    else s
  | none => s

/-- The command exchange is emptied at a change to STANDBY (R150 step 3, R108): the ledger releases a reservation held
for the slot, and slot, grant, lost tag and pending revise are discarded without a message. -/
def discardWork (s : State) : State :=
  (emptySlot s).onPlanner fun p => { p with ledger := p.ledger.release, grant := none, lost := none, revise := none }

/-- A due pass and the pass-due mark are dropped at a change to STANDBY (R150 step 4). -/
def dropPass (s : State) : State := s.onPlanner fun p => { p with passDue := false, passMark := false }

/-- The change to STANDBY, in the order of R150. -/
def enterStandby (s : State) : State := { dropPass (discardWork (abandonAll (flushQueues s))) with mode := .standby }

/-- A permitted change of mode to `target`, the present mode being another (R148 to R150). -/
def changeMode (target : Mode) (s : State) : State :=
  match target with
  | .standby => enterStandby s
  | .monitor => { s with mode := .monitor }
  | .run => { dropShadow s with mode := .run }

/-! ### Judgement (R146) -/

/-- The OK reply of SET_MODE: the mode in force and the work-discarded flag (R146). -/
def modeReply (m : Mode) (discarded : Bool) : Reply := .ok [octet m.code, flag discarded]

/-- The judgement of a SET_MODE whose codes are good, orders 2 to 5 of R146. -/
def judgeMode (target : Mode) (force : Bool) (s : State) : State × Reply :=
  if target = s.mode then (s, modeReply target false)
  else if s.mode = .standby ∧ s.config.consistent = false then (s, .bare .inconsistent)
  else if target = .standby ∧ force = false ∧ s.workInFlight = true then (s, .bare .grantActive)
  else (changeMode target s, modeReply target (target == .standby && s.workInFlight))

/-- SET_MODE of a body of the right length (R146). -/
def setModeOwner (body : List Octet) (s : State) : State × Reply :=
  match modeOf (bodyOctet body 0), readFlag (bodyOctet body 1) with
  | some target, some force => judgeMode target force s
  | _, _ => (s, .bare .badValue)

/-- A SET_MODE message that the row of a target takes: one that names this target, or one of a wrong length or with a
code that names no mode, which belongs to no row's target (DESIGN CHOICE, log entry 10). -/
def wantsMode (target : Mode) (m : AskedMessage) : Bool :=
  m.kind == 0x03 && (m.body.length != 2 || modeOf (bodyOctet m.body 0) == some target ||
    modeOf (bodyOctet m.body 0) == none)

/-- SET_MODE is taken from the head of the asked-message queue (R137, R146). -/
def setMode (target : Mode) (s : State) : State := takeAsked (wantsMode target) (withLength 2 setModeOwner) s

/-! ### Meanings -/

/-- SET_MODE_STANDBY (R150). -/
def execSetModeStandby (s : State) : Host.Outcome State Fault Refusal := whenRunning s (setMode .standby)

/-- SET_MODE_MONITOR (R149). -/
def execSetModeMonitor (s : State) : Host.Outcome State Fault Refusal := whenRunning s (setMode .monitor)

/-- SET_MODE_RUN (R148). -/
def execSetModeRun (s : State) : Host.Outcome State Fault Refusal := whenRunning s (setMode .run)

end Sys2Proof.Machine
end

