-- ==== Sys2Proof/Machine/Reports.lean ====
section
/-! DEFINITION. The statistics unit, the outcome buffer and the notice unit as the cabinet link reaches them (chapter
9); and the commands READ_OUTCOMES, PROGRAM_COUNTER, READ_COUNTERS, READ_SUMMARY, SET_NOTICE_MASK, CLEAR_NOTICES and
TABLE_OCCUPANCY. -/

namespace Sys2Proof.Machine

/-! ### Outcome buffer (R160, Table 10-9) -/

/-- An outcome record as its 27 octets (Table 10-9). -/
def OutcomeRecord.octets (r : OutcomeRecord) : List Octet :=
  octets2 r.bus ++ octets2 r.route ++
  [octet (Approach.index r.approach * 64 + r.cls * 16 + r.phase), octet r.code.code] ++
  octets4 r.admitTime.toNat ++ octets4 r.closeTime.toNat ++ signed2 r.latenessAtAdmission ++ signed2 r.latenessAtClose ++
  [octet r.score, octet (actionCode r.action * 16 + roleCode r.role)] ++ octets2 r.requested ++ octets2 r.applied ++
  [octet (r.attempts * 64 + (if r.coastedEver then 8 else 0) + (if r.shadow then 4 else 0) +
    (if r.admittedByPosition then 2 else 0) + (if r.arrivalError.isSome then 1 else 0))] ++
  signed2 (r.arrivalError.getD 0)

/-- READ_OUTCOMES (R160): the oldest min(n, count) records leave the buffer and are returned. -/
def readOutcomesOwner (body : List Octet) (s : State) : State × Reply :=
  let n := (bodyOctet body 0).toNat
  if n = 0 ∨ 8 < n then (s, .bare .badValue)
  else
    let given := s.outcomes.records.take n
    let rest := s.outcomes.records.drop n
    ({ s with outcomes := { s.outcomes with records := rest } },
     .ok (octet rest.length :: octets2 s.outcomes.lost ++ octet given.length ::
       given.flatMap OutcomeRecord.octets))

/-! ### Counters (R161 to R164) -/

/-- The programming of a counter: event code, sub-mask and source mask. -/
def Counter.programming (c : Counter) : List Octet :=
  octet (eventCode c.event) :: octets2 c.subMask.toNat ++ [octet c.sourceMask.toNat]

/-- The sub-mask as stored: positions beyond the event's sub-events are clear (R161); NONE has no sub-events
(DEDUCED, log entry 11). -/
def storedSubMask (ev : Option EventKind) (mask : Nat) : BitVec 16 :=
  match ev with
  | some e => BitVec.ofNat 16 (mask % 2 ^ subEventCount e)
  | none => 0

/-- PROGRAM_COUNTER (R161). -/
def programCounterOwner (body : List Octet) (s : State) : State × Reply :=
  let i := (bodyOctet body 0).toNat
  match eventOf (bodyOctet body 1).toNat with
  | some ev =>
    if i ≤ 7 then
      let c : Counter :=
        { value := 0, event := ev, subMask := storedSubMask ev (number [bodyOctet body 2, bodyOctet body 3]),
          sourceMask := BitVec.ofNat 5 (bodyOctet body 4).toNat }
      ({ s with stats := { s.stats with counters := s.stats.counters.set i c } }, .ok (octet i :: c.programming))
    else (s, .bare .badValue)
  | none => (s, .bare .badValue)

/-- READ_COUNTERS (R164): the reading, then the clearing when the flag is set. -/
def readCountersOwner (body : List Octet) (s : State) : State × Reply :=
  match readFlag (bodyOctet body 0) with
  | none => (s, .bare .badValue)
  | some clear =>
    (if clear then
        { s with stats := { s.stats with counters := s.stats.counters.map fun c => { c with value := 0 } } }
     else s,
     .ok (s.stats.counters.flatMap fun c => octets4 c.value ++ c.programming))

/-- READ_SUMMARY (R165). -/
def readSummaryOwner (_ : List Octet) (s : State) : State × Reply :=
  let t := s.stats.totals
  (s, .ok (octets4 t.sent ++ octets4 t.accepted ++ octets4 t.answeredPartly ++ octets4 t.refused ++ octets4 t.lost ++
    [octet t.percentage]))

/-- Entries a counter's TABLE_OCCUPANCY programming selects (R163). -/
def Counter.occupancy (table : List Entry) (c : Counter) : Nat :=
  if c.event = some .tableOccupancy then
    (table.filter fun e =>
      c.subMask.getLsbD e.state.code && c.sourceMask.getLsbD (Approach.index e.approach)).length
  else 0

/-- The feed of the present instant is owed: part time is a non-zero multiple of 10 tenths, and the feed has not been
made (R163, DESIGN CHOICE, log entry 8). -/
def State.feedOwed (s : State) : Bool := s.now != 0 && s.now.toNat % 10 == 0 && !s.occupancyFed

/-- TABLE_OCCUPANCY (R163). -/
def feedOccupancy (s : State) : State :=
  if s.feedOwed then { addToCounters (Counter.occupancy s.table) s with occupancyFed := true } else s

/-! ### Notices (R167) -/

/-- A mask from 23 settings in latch order, the octets being flags. -/
def maskOf (body : List Octet) : PerLatch Bool :=
  (List.range 23).foldl (fun m i =>
    match latchesInOrder[i]? with
    | some l => m.set l (bodyOctet body i == 1)
    | none => m) (.all false)

/-- The mask as 23 octets in latch order. -/
def maskOctets (m : PerLatch Bool) : List Octet := latchesInOrder.map fun l => flag (m.get l)

/-- SET_NOTICE_MASK (R167). -/
def setNoticeMaskOwner (body : List Octet) (s : State) : State × Reply :=
  if body.all fun o => (readFlag o).isSome then
    ({ s with notices := { s.notices with mask := maskOf body } }, .ok (maskOctets (maskOf body)))
  else (s, .bare .badValue)

/-- Clear the latch a number names. -/
def clearLatch (v : PerLatch (Option LatchInfo)) (o : Octet) : PerLatch (Option LatchInfo) :=
  match latchesInOrder[o.toNat]? with
  | some l => v.set l none
  | none => v

/-- The set latches as the 24-bit field of the CLEAR_NOTICES reply: bit i is latch i (Table 10-5). -/
def latchBits (v : PerLatch (Option LatchInfo)) : List Octet :=
  let n := (latchesInOrder.reverse).foldl (fun acc l => 2 * acc + (v.get l).isSome.toNat) 0
  [octet (n / 65536), octet (n / 256), octet n]

/-- CLEAR_NOTICES (R167): the count and list are judged, then every named latch is cleared. -/
def clearNoticesOwner (m : AskedMessage) (s : State) : State × Reply :=
  match m.body with
  | [] => (s, .bare .badLength)
  | c :: list =>
    if list.length ≠ c.toNat then (s, .bare .badLength)
    else if list.length = 0 ∨ 23 < list.length ∨ list.any (fun o => 23 ≤ o.toNat) then (s, .bare .badValue)
    else
      let v := list.foldl clearLatch s.notices.latches
      ({ s with notices := { s.notices with latches := v } }, .ok (latchBits v))

/-! ### Meanings -/

/-- READ_OUTCOMES (R160). -/
def execReadOutcomes (s : State) : Host.Outcome State Fault Refusal := whenRunning s (takeFixed 0x08 1 readOutcomesOwner)

/-- PROGRAM_COUNTER (R161). -/
def execProgramCounter (s : State) : Host.Outcome State Fault Refusal :=
  whenRunning s (takeFixed 0x09 5 programCounterOwner)

/-- READ_COUNTERS (R164). -/
def execReadCounters (s : State) : Host.Outcome State Fault Refusal := whenRunning s (takeFixed 0x0A 1 readCountersOwner)

/-- READ_SUMMARY (R165). -/
def execReadSummary (s : State) : Host.Outcome State Fault Refusal := whenRunning s (takeFixed 0x0B 0 readSummaryOwner)

/-- SET_NOTICE_MASK (R167). -/
def execSetNoticeMask (s : State) : Host.Outcome State Fault Refusal :=
  whenRunning s (takeFixed 0x0C 23 setNoticeMaskOwner)

/-- CLEAR_NOTICES (R167). -/
def execClearNotices (s : State) : Host.Outcome State Fault Refusal :=
  whenRunning s (takeAsked (fun m => m.kind == 0x0D) clearNoticesOwner)

/-- TABLE_OCCUPANCY (R163). -/
def execTableOccupancy (s : State) : Host.Outcome State Fault Refusal := whenRunning s feedOccupancy

end Sys2Proof.Machine
end

