-- ==== Sys2Proof/Machine/Reading.lean ====
section
/-! DEFINITION. Reading and acting on the part (sections 7.5 and 7.6, R127): the layouts of Tables 10-7 and 10-8, and
the commands READ_STATUS, LIST_REQUESTS, READ_REQUEST, CANCEL_REQUEST, LINK_CONTROL and INJECT_TELEGRAM. -/

namespace Sys2Proof.Machine

/-! ### READ_STATUS (R140, Table 10-7) -/

/-- Part group. -/
def State.partGroup (s : State) : List Octet :=
  octet s.mode.code :: octets4 s.now.toNat ++ octet s.rate.toNat :: octets2 s.link.crcErrors ++
    octets2 s.link.overruns ++ octets2 s.link.noticesDropped

/-- Signal model group: all but the state 0 in NO_STATUS; e is limited to 65535. -/
def State.modelGroup (s : State) : List Octet :=
  octet s.model.state.code ::
    match s.model.anchor with
    | some a => [octet a.plan, octet a.phase, octet a.interval.code] ++ octets2 (min 65535 (a.elapsedAt s.now)) ++
        [a.pedCalls, flag a.inhibit]
    | none => List.replicate 7 0

/-- Command slot group: 0 throughout when the slot is empty. -/
def State.slotGroup (s : State) : List Octet :=
  match s.planner.slot with
  | some c => [1, octet c.tag, octet c.action.code, octet c.phase] ++ octets2 c.amount ++
      [octet c.grantId, octet (roleCode (some c.role))] ++ octets2 (c.bus.getD 0) ++ [flag c.due.isSome]
  | none => List.replicate 11 0

/-- Active grant group: 0 throughout when no grant is active; the five member places are filled in list order. -/
def State.grantGroup (s : State) : List Octet :=
  match s.planner.grant with
  | some g =>
    let members := (g.members.take 5).flatMap octets2
    [1, octet g.id, octet (actionCode (some g.action)), octet g.phase] ++ octets2 g.requested ++ octets2 g.applied ++
      octets2 g.total ++ [octet g.state.code, flag g.shadow, octet g.members.length] ++ members ++
      List.replicate (10 - members.length) 0
  | none => List.replicate 23 0

/-- Lost tag and revise group. -/
def State.lostGroup (s : State) : List Octet :=
  (match s.planner.lost with
   | some m => [1, octet m.tag]
   | none => [0, 0]) ++
  (match s.planner.revise with
   | some r => [1, octet r.grantId] ++ octets2 r.total
   | none => [0, 0, 0, 0])

/-- Allowance and cycle ledger groups (R82, R84, R87). -/
def State.allowanceGroup (s : State) : List Octet :=
  let l := s.planner.ledger
  allApproaches.map (fun x => octet (s.planner.tokens.get x)) ++ octets2 l.timeLimit ++ octet l.grantLimit ::
    octets2 l.committed ++ octet l.leads :: octets2 l.remaining

/-- Table and outcome buffer groups. -/
def State.tableGroup (s : State) : List Octet :=
  [octet s.table.length, octet s.cache.length] ++
    allSources.map (fun q => octet (s.intake.queues.get q).length) ++
    octet s.outcomes.records.length :: octets2 s.outcomes.lost

/-- One latch as reported: set, detail, time; a clear latch is 0 throughout. -/
def latchGroup (v : Option LatchInfo) : List Octet :=
  match v with
  | some i => 1 :: octet i.detail :: octets4 i.time.toNat
  | none => List.replicate 6 0

/-- The flags octet of a port's status (Table 10-7, Table 6-4). -/
def Port.flagsOctet (p : Port) : Octet :=
  octet ((if p.farAlarm then 32 else 0) + (if p.senderFault then 16 else 0) + (if p.echo then 8 else 0) +
    (if p.force then 4 else 0) + (if p.markerInsertion then 2 else 0) + (if p.crcInsertion = .none then 0 else 1))

/-- One port's status (Table 6-4). -/
def State.portGroup (s : State) (x : Approach) : List Octet :=
  let p := s.ports.get x
  [flag (s.config.approaches.get x).enabled, octet p.framer.code, octet p.store.length, octet p.lastSlip.code,
   p.flagsOctet]

/-- The data of a READ_STATUS reply (Table 10-7). -/
def State.statusData (s : State) : List Octet :=
  s.partGroup ++ s.modelGroup ++ s.slotGroup ++ s.grantGroup ++ s.lostGroup ++ s.allowanceGroup ++ s.tableGroup ++
    latchesInOrder.flatMap (fun l => latchGroup (s.notices.latches.get l)) ++ allApproaches.flatMap s.portGroup

/-- READ_STATUS (R140). -/
def readStatusOwner (_ : List Octet) (s : State) : State × Reply := (s, .ok s.statusData)

/-! ### LIST_REQUESTS (R141) -/

/-- The summary of an entry, 14 octets (Table 10-5). -/
def Entry.summary (e : Entry) : List Octet :=
  octets2 e.bus ++ octets2 e.admission.toNat ++
    [octet (Approach.index e.approach), octet e.phase, octet e.state.code, octet (waitReasonCode e.reason),
     octet e.est.eligibility.code] ++ octets2 e.est.eta ++
    [octet e.est.score, flag e.est.coasting, octet e.indication.code]

/-- LIST_REQUESTS (R141). -/
def listRequestsOwner (body : List Octet) (s : State) : State × Reply :=
  let start := (bodyOctet body 0).toNat
  let most := (bodyOctet body 1).toNat
  if 31 < start ∨ most = 0 ∨ 16 < most then (s, .bare .badValue)
  else
    let part := (s.table.drop start).take most
    (s, .ok (octet s.table.length :: octet start :: octet part.length :: part.flatMap Entry.summary))

/-! ### READ_REQUEST (R142, Table 10-8) -/

/-- Eight sample places, oldest first, the unused ones 0. -/
def samplePlaces (ring : List Nat) : List Octet := (ring ++ List.replicate (8 - ring.length) 0).map octet

/-- Place and identity group. -/
def Entry.identityGroup (e : Entry) (position : Nat) : List Octet :=
  octet position :: octets2 e.bus ++ octets2 e.route ++
    [octet e.cls, octet (Approach.index e.approach), octet e.movement.code, octet e.phase]

/-- History and motion groups. -/
def Entry.motionGroup (e : Entry) : List Octet :=
  flag e.fromCabinet :: octet e.seq :: octets2 e.admission.toNat ++ octets4 e.admitTime.toNat ++
    flag e.admittedByPosition :: octet e.ring.length :: samplePlaces e.ring ++ octets2 e.distance ++
    octets4 e.tLast.toNat ++
    [octet ((if e.atStop then 2 else 0) + (if e.doorOpen then 1 else 0)), octet e.dwell] ++ signed2 e.lateness ++
    signed2 e.latenessAtAdmission ++ [octet e.load]

/-- Estimate group. -/
def Estimate.octets (t : Estimate) : List Octet :=
  octets4 t.evalTime.toNat ++ octet t.speed :: octets2 t.distNow ++ octets2 t.eta ++ octets2 t.halfWidth ++
    octets2 t.winStart ++ octets2 t.winEnd ++
    [octet t.eligibility.code, octet t.score,
     octet ((if t.beyond then 4 else 0) + (if t.coasting then 2 else 0) + (if t.coastedEver then 1 else 0))]

/-- The presence octet of the planning group (Table 10-8). -/
def Entry.presence (e : Entry) : Octet :=
  octet ((if e.action.isSome then 16 else 0) + (if e.applied.isSome then 8 else 0) + (if e.role.isSome then 4 else 0) +
    (if e.commandTime.isSome then 2 else 0) + (if e.closeTime.isSome then 1 else 0))

/-- Planning group; absent optional fields are 0. -/
def Entry.planningGroup (e : Entry) : List Octet :=
  [octet e.state.code, octet (waitReasonCode e.reason), octet e.attempts, e.presence, octet (actionCode e.action)] ++
    octets2 (e.requested.getD 0) ++ octets2 (e.applied.getD 0) ++ octet (roleCode e.role) ::
    octets4 (e.commandTime.getD 0).toNat ++ octets2 (e.etaAtCommand.getD 0) ++ octets4 (e.closeTime.getD 0).toNat ++
    [flag (e.grantRan.getD false), octet e.indication.code, flag e.shadow]

/-- The entry form of a READ_REQUEST reply (Table 10-8). -/
def Entry.form (e : Entry) (position : Nat) : List Octet :=
  e.identityGroup position ++ e.motionGroup ++ e.est.octets ++ e.planningGroup

/-- The place of a bus in admission order, counted from 1 (R141). -/
def State.position (s : State) (bus : Nat) : Nat := s.table.findIdx (fun e => e.bus == bus) + 1

/-- The cache form of a READ_REQUEST reply: bus id, approach and age limited to 65535 (R142). -/
def CacheEntry.form (c : CacheEntry) (now : PartTime) : List Octet :=
  octets2 c.bus ++ octet (Approach.index c.approach) :: octets2 (min 65535 (elapsed now c.time))

/-- The bus id a body names, unless it is 0 or 65535 (R142, R143). -/
def namedBus (body : List Octet) : Option Nat :=
  let bus := number [bodyOctet body 0, bodyOctet body 1]
  if bus = 0 ∨ bus = 65535 then none else some bus

/-- READ_REQUEST (R142). -/
def readRequestOwner (body : List Octet) (s : State) : State × Reply :=
  match namedBus body with
  | none => (s, .bare .badValue)
  | some bus =>
    match s.findEntry bus with
    | some e => (s, .ok (0 :: e.form (s.position bus)))
    | none =>
      match s.findCached bus with
      | some c => (s, .ok (1 :: c.form s.now))
      | none => (s, .bare .notFound)

/-! ### CANCEL_REQUEST (R23, R143) -/

/-- CANCEL_REQUEST: a held bus leaves as CANCELLED, from any state, and enters the cache. -/
def cancelRequestOwner (body : List Octet) (s : State) : State × Reply :=
  match namedBus body with
  | none => (s, .bare .badValue)
  | some bus =>
    match s.findEntry bus with
    | some e => (leaveTable e .cancelled false true s, .ok (octets2 bus ++ [octet e.state.code]))
    | none => (s, .bare .notFound)

/-! ### LINK_CONTROL (R127) -/

/-- A force request (Table 10-1). -/
inductive ForceRequest where | keep | set | clear
deriving DecidableEq, Repr

/-- The force request a code names. -/
def forceRequestOf (o : Octet) : Option ForceRequest :=
  if o = 0 then some .keep else if o = 1 then some .set else if o = 2 then some .clear else none

/-- The force flag after a request. -/
def ForceRequest.apply (r : ForceRequest) (old : Bool) : Bool :=
  match r with
  | .keep => old
  | .set => true
  | .clear => false

/-- A CRC-error insertion asked for; one already pending stays as it is (R128). -/
def CrcInsertion.ask (wanted : Bool) (c : CrcInsertion) : CrcInsertion :=
  match wanted, c with
  | true, .none => .waiting
  | _, c => c

/-- LINK_CONTROL (R127). -/
def linkControlOwner (body : List Octet) (s : State) : State × Reply :=
  match approachOf (bodyOctet body 0), forceRequestOf (bodyOctet body 1), readFlag (bodyOctet body 2),
      readFlag (bodyOctet body 3) with
  | some x, some r, some crc, some mk =>
    if (s.ports.get x).framer = .disabled ∧ (crc || mk) = true then (s, .bare .badValue)
    else
      (s.onPort x fun p => { p with force := r.apply p.force, crcInsertion := p.crcInsertion.ask crc,
                                    markerInsertion := p.markerInsertion || mk }, .bare .ok)
  | _, _, _, _ => (s, .bare .badValue)

/-! ### INJECT_TELEGRAM (R144) -/

/-- INJECT_TELEGRAM: the slot is handed to the intake as a cabinet-source telegram, and its handling is the reply. -/
def injectTelegramOwner (body : List Octet) (s : State) : State × Reply :=
  match approachOf (bodyOctet body 0) with
  | some x =>
    let r := takeSlot .cabinet x body.tail s
    (r.1, .ok [octet r.2.code])
  | none => (s, .bare .badValue)

/-! ### Meanings -/

/-- READ_STATUS (R140). -/
def execReadStatus (s : State) : Host.Outcome State Fault Refusal := whenRunning s (takeFixed 0x04 0 readStatusOwner)

/-- LIST_REQUESTS (R141). -/
def execListRequests (s : State) : Host.Outcome State Fault Refusal := whenRunning s (takeFixed 0x05 2 listRequestsOwner)

/-- READ_REQUEST (R142). -/
def execReadRequest (s : State) : Host.Outcome State Fault Refusal := whenRunning s (takeFixed 0x06 2 readRequestOwner)

/-- CANCEL_REQUEST (R143). -/
def execCancelRequest (s : State) : Host.Outcome State Fault Refusal :=
  whenRunning s (takeFixed 0x07 2 cancelRequestOwner)

/-- LINK_CONTROL (R127). -/
def execLinkControl (s : State) : Host.Outcome State Fault Refusal := whenRunning s (takeFixed 0x0E 4 linkControlOwner)

/-- INJECT_TELEGRAM (R144). -/
def execInjectTelegram (s : State) : Host.Outcome State Fault Refusal :=
  whenRunning s (takeFixed 0x0F 16 injectTelegramOwner)

end Sys2Proof.Machine
end

