-- ==== Sys2Proof/Machine/Resets.lean ====
section
/-! DEFINITION. The outbound queue's transmissions (R138, R89) and the resets: RSTn and power-on reset (R171), RESTART
and FACTORY with their two steps (R145); and the commands OUTBOUND_FRAME_SENT, RESTART, FACTORY, RESTART_TAKES_EFFECT,
FACTORY_TAKES_EFFECT, POWER_ON_RESET and RSTN_LOW. -/

namespace Sys2Proof.Machine

/-! ### What a reset leaves -/

/-- The detail of the RESTARTED notice (Table 10-1). -/
def Selector.detail : Selector → Nat
  | .restart => 1
  | .factory => 2

/-- Every block at the value a reset gives it, with the configuration, mask and counters the reset leaves, before
RESTARTED is latched: STANDBY (R146), part time 0, no entry, no telegram and no record (R25, R6, R159), NO_STATUS (R63),
the planner of Table 4-1, totals 0 (R165), every latch clear (R168), the link port of R139, the ports of Table 6-3. The
line rate (R132), the waiting commands and the count of free choices stay. -/
def State.cleared (s : State) (c : Configuration) (mask : PerLatch Bool) (counters : List Counter) : State :=
  { pending := s.pending, held := false, mode := .standby, now := 0, rate := s.rate, config := c,
    intake := .atReset, table := [], admissions := 0, cache := [], model := .atReset,
    planner := .atReset { a := c.approaches.a.kMax, b := c.approaches.b.kMax, c := c.approaches.c.kMax,
                          d := c.approaches.d.kMax } c.general.bCycle c.general.gCycle,
    outcomes := .atReset, stats := { counters := counters, totals := .zero }, notices := .clear mask,
    link := .atReset,
    ports := { a := .atReset c.approaches.a.enabled, b := .atReset c.approaches.b.enabled,
               c := .atReset c.approaches.c.enabled, d := .atReset c.approaches.d.enabled },
    occupancyFed := false, choices := s.choices }

/-- The programming of the counters after RESTART: kept, with value 0 (R162). -/
def State.countersKept (s : State) : List Counter := s.stats.counters.map fun c => { c with value := 0 }

/-- RESTART takes effect (R145): the configuration (R156), the notice mask (R168) and the counter programming (R162) are
kept. -/
def takeRestart (s : State) : State :=
  latchNotice .restarted 1 (s.cleared s.config s.notices.mask s.countersKept)

/-- FACTORY takes effect (R145): the factory configuration, mask and counters. -/
def takeFactory (s : State) : State :=
  latchNotice .restarted 2 (s.cleared .factory maskFactory (List.replicate 8 Counter.blank))

/-- The restart a selector names takes effect. -/
def takeReset (r : Selector) (s : State) : State :=
  match r with
  | .restart => takeRestart s
  | .factory => takeFactory s

/-- Power-on reset at the rising edge of RSTn (R171): the straps are sampled (R132), and every block takes its power-on
state. -/
def powerOn (straps : BitVec 2) (s : State) : State :=
  latchNotice .restarted 0
    (State.cleared { s with rate := straps } .factory maskFactory (List.replicate 8 Counter.blank))

/-! ### RESTART and FACTORY (R145) -/

/-- The selector a code names (Table 10-1). -/
def selectorOf (o : Octet) : Option Selector :=
  if o = 0 then some .restart else if o = 1 then some .factory else none

/-- A RESTART message that the row of a selector takes: one that names it, or one of a wrong length or with a code that
names no selector, which belongs to neither row (DESIGN CHOICE, log entry 10). -/
def wantsSelector (r : Selector) (m : AskedMessage) : Bool :=
  m.kind == 0x10 && (m.body.length != 1 || selectorOf (bodyOctet m.body 0) == some r ||
    selectorOf (bodyOctet m.body 0) == none)

/-- The judgement of a RESTART message (R145): a good one makes the restart pending and empties the asked-message queue. -/
def restartOwner (body : List Octet) (s : State) : State × Reply :=
  match selectorOf (bodyOctet body 0) with
  | some r => (s.onLink fun k => { k with restart := some r, asked := [] }, .bare .ok)
  | none => (s, .bare .badValue)

/-- The REPLY of a RESTART message; that of a good one is the final one (R145). -/
def restartReply (m : AskedMessage) (r : Reply) : OutMessage :=
  { replyMessage m r with final := r.code == .ok }

/-- RESTART or FACTORY is taken from the head of the asked-message queue (R137, R145). -/
def askRestart (r : Selector) (s : State) : State :=
  match s.nextAsked with
  | some m =>
    if wantsSelector r m then
      let done := withLength 1 restartOwner m (s.onLink fun k => { k with asked := k.asked.tail })
      queueMessage (restartReply m done.2) done.1
    else s
  | none => s

/-- The last octet of the final REPLY of a restart with this selector leaves the line (R145); otherwise the event does
not happen (DESIGN CHOICE, log entry 4). -/
def finalReplySent (r : Selector) (s : State) : State :=
  match s.link.outbound.head? with
  | some m => if m.final = true ∧ s.link.restart = some r then takeReset r s else s
  | none => s

/-! ### Outbound queue (R138) -/

/-- The last octet of the head message leaves the line (R138). The final REPLY of a restart brings the restart into
effect (R145); a PRIORITY_COMMAND leaves a report for the command exchange, with the answer due time reckoned from this
instant (R89; DEDUCED, log entry 20); any other frame frees its place. The restart made here is also a command of its own
(DEDUCED, log entry 24). -/
def frameSent (s : State) : State :=
  match s.link.outbound with
  | [] => s
  | m :: rest =>
    let s1 := s.onLink fun k => { k with outbound := rest }
    match m.kind with
    | .reply =>
      if m.final then
        match s.link.restart with
        | some r => takeReset r s
        | none => s1
      else s1
    | .priorityCommand => s1.onLink fun k =>
        { k with reports := k.reports ++
            [{ tag := m.tag.toNat, due := answerDue s.now s.config.general.tAns }] }
    | .notice => s1

/-! ### Meanings -/

/-- OUTBOUND_FRAME_SENT (R138). -/
def execOutboundFrameSent (s : State) : Host.Outcome State Fault Refusal := whenRunning s frameSent

/-- RESTART (R145). -/
def execRestart (s : State) : Host.Outcome State Fault Refusal := whenRunning s (askRestart .restart)

/-- FACTORY (R145). -/
def execFactory (s : State) : Host.Outcome State Fault Refusal := whenRunning s (askRestart .factory)

/-- RESTART_TAKES_EFFECT (R145). -/
def execRestartTakesEffect (s : State) : Host.Outcome State Fault Refusal := whenRunning s (finalReplySent .restart)

/-- FACTORY_TAKES_EFFECT (R145). -/
def execFactoryTakesEffect (s : State) : Host.Outcome State Fault Refusal := whenRunning s (finalReplySent .factory)

/-- POWER_ON_RESET (R171), from any state (DESIGN CHOICE, log entry 21). -/
def execPowerOnReset (straps : BitVec 2) (s : State) : Host.Outcome State Fault Refusal := .next (powerOn straps s)

/-- RSTN_LOW (R171): the outputs are held and the inputs are not read until RSTn rises. -/
def execRstnLow (s : State) : Host.Outcome State Fault Refusal := .next { s with held := true }

end Sys2Proof.Machine
end

