-- ==== Sys2Proof/Machine/Timing.lean ====
section
/-! DEFINITION. What the part does when no command waits: the events that are due at the present instant become its
commands, in an order the spec leaves open where several are due (R5 and the like, DESIGN CHOICE, log entry 3); when none is due, part
time advances by one tenth (DESIGN CHOICE, log entry 1). -/

namespace Sys2Proof.Machine

/-! ### Events due at the present instant -/

/-- The row that takes a frame handed over (R135). -/
def frameRow (f : List Octet) : Instr :=
  if framePasses f then
    if frameKind f = 0x20 then .phaseStatus else if frameKind f = 0x21 then .commandAnswer else .askedMessageArrival
  else .cabinetCrc

/-- The row that takes a SET_MODE message (R146, DESIGN CHOICE, log entry 10). -/
def setModeRow (m : AskedMessage) : Instr :=
  match modeOf (bodyOctet m.body 0) with
  | some .monitor => if m.body.length = 2 then .setModeMonitor else .setModeStandby
  | some .run => if m.body.length = 2 then .setModeRun else .setModeStandby
  | some .standby => .setModeStandby
  | none => .setModeStandby

/-- The row that takes a RESTART message (R145, DESIGN CHOICE, log entry 10). -/
def restartRow (m : AskedMessage) : Instr := if wantsSelector .restart m then .restart else .factory

/-- The row that takes an asked message (R137, Table 7-3). -/
def askedRow (m : AskedMessage) : Instr :=
  match m.kind.toNat with
  | 1 => .configure
  | 2 => .readConfig
  | 3 => setModeRow m
  | 4 => .readStatus
  | 5 => .listRequests
  | 6 => .readRequest
  | 7 => .cancelRequest
  | 8 => .readOutcomes
  | 9 => .programCounter
  | 10 => .readCounters
  | 11 => .readSummary
  | 12 => .setNoticeMask
  | 13 => .clearNotices
  | 14 => .linkControl
  | 15 => .injectTelegram
  | 16 => restartRow m
  | _ => .unknownKind

/-- The row that takes a telegram (R5). -/
def telegramRow (t : Telegram) : Instr :=
  match t.kind with
  | .checkIn => .checkIn
  | .position => .position
  | .checkOut => .checkOut
  | .withdraw => .withdraw

/-- A command when a condition holds. -/
def dueIf (p : Bool) (i : Instr) : List Instr := if p then [i] else []

/-- What the cabinet link has ready: the oldest frame handed over, the oldest report, the head asked message. -/
def linkDue (s : State) : List Instr :=
  (s.link.received.take 1).map frameRow ++ dueIf (!s.link.reports.isEmpty) .commandTransmitted ++
    s.nextAsked.toList.map askedRow

/-- What the request table may be given: the next telegram, a due pass, expiries, the occupancy feed (R5, R66, R22,
R163); and cache entries that are too old (R18). -/
def tableDue (s : State) : List Instr :=
  s.nextTelegram.toList.map telegramRow ++ dueIf (s.planner.passDue && s.mode != .standby) .planningPass ++
    (s.table.filter s.expired).map (fun e => .entryExpiry e.bus) ++
    (s.cache.filter s.agedOut).map (fun c => .cacheAgeOut c.bus) ++ dueIf s.feedOwed .tableOccupancy

/-- The timers that are due: review (R67), answer due time (R94), forget time (R95), arm limit (R100), stale (R51). -/
def timersDue (s : State) : List Instr :=
  dueIf (s.isDue s.planner.review) .reviewTimer ++
    dueIf (match s.planner.slot with | some c => s.isDue c.due | none => false) .answerTimeout ++
    dueIf (match s.planner.lost with | some m => reached s.now m.forget | none => false) .lostTagForget ++
    dueIf (match s.planner.grant with | some g => g.state == .armed && s.isDue g.armLimit | none => false) .armLimit ++
    dueIf s.staleDue .staleTimer

/-- What a framer can do with the bits it already holds (R112 to R114). -/
def portDue (s : State) (x : Approach) : List Instr :=
  let p := s.ports.get x
  match p.framer with
  | .disabled => []
  | .hunt => dueIf (searchMarker p.bits).1 (.candidateMarker x [])
  | .confirm => dueIf (if p.passed < 3 then 264 * (p.passed + 1) + 16 ≤ p.bits.length else 264 * 4 ≤ p.bits.length)
      (.confirmTest x [])
  | .aligned => dueIf (264 ≤ p.bits.length) (.frameSlot x [])

/-- Every event that is due at the present instant; none while RSTn is low. -/
def dueNow (s : State) : List Instr :=
  if s.held then [] else linkDue s ++ tableDue s ++ timersDue s ++ allApproaches.flatMap (portDue s)

/-! ### Their order -/

/-- Put a command into a list at the place a number names. -/
def insertAt (n : Nat) (i : Instr) (l : List Instr) : List Instr := l.take n ++ i :: l.drop n

/-- Bring commands into an order that free choices give: each is put into the ones after it at an unconstrained place
(DESIGN CHOICE, log entry 3). Answers the order and the number of the next free choice. -/
def arrange (k : Nat) : List Instr → List Instr × Nat
  | [] => ([], k)
  | [i] => ([i], k)
  | i :: rest =>
    let r := arrange k rest
    (insertAt (Config.pick r.2 % (r.1.length + 1)) i r.1, r.2 + 1)

/-! ### The step with no command waiting -/

/-- Part time advances by one tenth (spec/00, "Part time"). -/
def tick (s : State) : State := { s with now := s.now + 1, occupancyFed := false }

/-- With no command waiting: the due events become the commands that wait, and with none due part time advances; while
RSTn is low nothing happens. -/
def idle (s : State) : State :=
  if s.held then s
  else
    match dueNow s with
    | [] => tick s
    | due =>
      let r := arrange s.choices due
      { s with pending := r.1, choices := r.2 }

end Sys2Proof.Machine
end

