-- ==== Sys2Proof/Machine/Dispatch.lean ====
section
/-! DEFINITION. The meaning of each command: one arm per constructor of Instr, one direct call each. -/

namespace Sys2Proof.Machine

def exec (i : Instr) (s : State) : Host.Outcome State Fault Refusal :=
  match i with
  | .powerOnReset straps => Sys2Proof.Machine.execPowerOnReset straps s
  | .framingFault => Sys2Proof.Machine.execFramingFault s
  | .frameGapTimeout => Sys2Proof.Machine.execFrameGapTimeout s
  | .cabinetCrc => Sys2Proof.Machine.execCabinetCrc s
  | .askedMessageArrival => Sys2Proof.Machine.execAskedMessageArrival s
  | .unknownKind => Sys2Proof.Machine.execUnknownKind s
  | .phaseStatus => Sys2Proof.Machine.execPhaseStatus s
  | .commandAnswer => Sys2Proof.Machine.execCommandAnswer s
  | .configure => Sys2Proof.Machine.execConfigure s
  | .readConfig => Sys2Proof.Machine.execReadConfig s
  | .setModeStandby => Sys2Proof.Machine.execSetModeStandby s
  | .setModeMonitor => Sys2Proof.Machine.execSetModeMonitor s
  | .setModeRun => Sys2Proof.Machine.execSetModeRun s
  | .readStatus => Sys2Proof.Machine.execReadStatus s
  | .listRequests => Sys2Proof.Machine.execListRequests s
  | .readRequest => Sys2Proof.Machine.execReadRequest s
  | .cancelRequest => Sys2Proof.Machine.execCancelRequest s
  | .readOutcomes => Sys2Proof.Machine.execReadOutcomes s
  | .programCounter => Sys2Proof.Machine.execProgramCounter s
  | .readCounters => Sys2Proof.Machine.execReadCounters s
  | .readSummary => Sys2Proof.Machine.execReadSummary s
  | .setNoticeMask => Sys2Proof.Machine.execSetNoticeMask s
  | .clearNotices => Sys2Proof.Machine.execClearNotices s
  | .linkControl => Sys2Proof.Machine.execLinkControl s
  | .injectTelegram => Sys2Proof.Machine.execInjectTelegram s
  | .restart => Sys2Proof.Machine.execRestart s
  | .factory => Sys2Proof.Machine.execFactory s
  | .restartTakesEffect => Sys2Proof.Machine.execRestartTakesEffect s
  | .factoryTakesEffect => Sys2Proof.Machine.execFactoryTakesEffect s
  | .outboundFrameSent => Sys2Proof.Machine.execOutboundFrameSent s
  | .commandTransmitted => Sys2Proof.Machine.execCommandTransmitted s
  | .checkIn => Sys2Proof.Machine.execCheckIn s
  | .position => Sys2Proof.Machine.execPosition s
  | .checkOut => Sys2Proof.Machine.execCheckOut s
  | .withdraw => Sys2Proof.Machine.execWithdraw s
  | .entryExpiry bus => Sys2Proof.Machine.execEntryExpiry bus s
  | .cacheAgeOut bus => Sys2Proof.Machine.execCacheAgeOut bus s
  | .planningPass => Sys2Proof.Machine.execPlanningPass s
  | .reviewTimer => Sys2Proof.Machine.execReviewTimer s
  | .answerTimeout => Sys2Proof.Machine.execAnswerTimeout s
  | .lostTagForget => Sys2Proof.Machine.execLostTagForget s
  | .armLimit => Sys2Proof.Machine.execArmLimit s
  | .staleTimer => Sys2Proof.Machine.execStaleTimer s
  | .tableOccupancy => Sys2Proof.Machine.execTableOccupancy s
  | .candidateMarker x bits => Sys2Proof.Machine.execCandidateMarker x bits s
  | .confirmTest x bits => Sys2Proof.Machine.execConfirmTest x bits s
  | .frameSlot x bits => Sys2Proof.Machine.execFrameSlot x bits s
  | .localFrameRead x => Sys2Proof.Machine.execLocalFrameRead x s
  | .centringTimeout x => Sys2Proof.Machine.execCentringTimeout x s
  | .consecutiveRepeatLimit x => Sys2Proof.Machine.execConsecutiveRepeatLimit x s
  | .returnFrame x => Sys2Proof.Machine.execReturnFrame x s
  | .rstnLow => Sys2Proof.Machine.execRstnLow s
  | .octetReceived o => Sys2Proof.Machine.execOctetReceived o s

end Sys2Proof.Machine
end

