-- ==== Sys2Proof/Safety.lean ====
section
/-! DEFINITION. What the spec says of the machine as a whole at every moment, as properties of one state that every
step keeps: the sizes of its queues and buffers, the agreement of an entry's state, reason and indication, the agreement
of model and review timer, of configuration and ports, and what a run of steps that never stops is. Then what statements
are made of: the rules of the estimator, the projection, a pass, an exit, a slot and a CONFIGURE in the spec's own
formulas, beside the functions of Machine/ and independent of them. -/

namespace Sys2Proof.Machine

/-! ### Request table and cache (R7, R18, R78, R79) -/

/-- An entry's wait reason is present exactly in WAITING (R78), its indication is the one R79 gives, and its sample ring
holds at most 8 samples (R13). -/
abbrev Entry.Sound (e : Entry) : Prop :=
  (e.reason.isSome = true ↔ e.state = .waiting) ∧ e.indication = indicationOf e.state e.est.eligibility ∧
    e.ring.length ≤ 8

/-- The table holds at most 32 entries of distinct buses (R7), the cache at most 16 distinct bus ids, and no bus is in
both (R18, R142). -/
abbrev State.TableSound (s : State) : Prop :=
  s.table.length ≤ 32 ∧ (s.table.map Entry.bus).Nodup ∧ s.cache.length ≤ 16 ∧ (s.cache.map CacheEntry.bus).Nodup ∧
    (∀ c ∈ s.cache, ∀ e ∈ s.table, c.bus ≠ e.bus)

/-- Every entry of the table is sound. -/
abbrev State.EntriesSound (s : State) : Prop := ∀ e ∈ s.table, e.Sound

/-! ### Intake and STANDBY (R4, R6, R24, R108) -/

/-- No intake queue holds more than 8 telegrams (R4). -/
abbrev State.QueuesSound (s : State) : Prop := ∀ q ∈ allSources, (s.intake.queues.get q).length ≤ 8

/-- In STANDBY the queues and the table are empty (R6, R24), and no command, grant, lost tag or pending revise is held
(R108). -/
abbrev State.StandbyEmpty (s : State) : Prop :=
  s.mode = .standby →
    (∀ q ∈ allSources, s.intake.queues.get q = []) ∧ s.table = [] ∧ s.planner.slot = none ∧ s.planner.grant = none ∧
      s.planner.lost = none ∧ s.planner.revise = none

/-! ### Reports (R159, R161, R165, R139) -/

/-- At most 64 records (R159), eight counters (R161), and every count and fixed total within its limit (R139, R159,
R161, R165). -/
abbrev State.ReportsSound (s : State) : Prop :=
  s.outcomes.records.length ≤ 64 ∧ s.outcomes.lost ≤ 65535 ∧ s.stats.counters.length = 8 ∧
    (∀ c ∈ s.stats.counters, c.value ≤ 4294967295) ∧ s.link.crcErrors ≤ 65535 ∧ s.link.overruns ≤ 65535 ∧
    s.link.noticesDropped ≤ 65535 ∧ s.stats.totals.sent ≤ 4294967295 ∧ s.stats.totals.accepted ≤ 4294967295 ∧
    s.stats.totals.answeredPartly ≤ 4294967295 ∧ s.stats.totals.refused ≤ 4294967295 ∧
    s.stats.totals.lost ≤ 4294967295

/-! ### Cabinet link (R136, R138) -/

/-- Messages of one kind in a queue. -/
def countKind (k : OutKind) (l : List OutMessage) : Nat := (l.filter fun m => m.kind == k).length

/-- Behind the message in transmission, a PRIORITY_COMMAND is the command that stands in the slot, and there is at most
one (R88, R89, R138). -/
abbrev State.CommandQueued (s : State) : Prop :=
  countKind .priorityCommand s.link.outbound.tail ≤ 1 ∧
    ∀ m ∈ s.link.outbound.tail, m.kind = .priorityCommand → ∃ c, s.planner.slot = some c ∧ m.tag = octet c.tag

/-- At most 4 asked messages are unanswered (R136), at most 10 notices are queued, and commands stand as R138 counts
them. -/
abbrev State.LinkSound (s : State) : Prop :=
  s.unanswered ≤ 4 ∧ countKind .notice s.link.outbound ≤ 10 ∧ s.CommandQueued

/-! ### Signal model and review timer (R48, R51, R67, R46) -/

/-- An anchor is held exactly outside NO_STATUS (R48, R63), the review timer runs exactly in TRACKING (R67), and in
TRACKING the anchor's plan is in the plan table (R50). -/
abbrev State.ModelSound (s : State) : Prop :=
  (s.model.anchor = none ↔ s.model.state = .noStatus) ∧
    (s.planner.review.isSome = true ↔ s.model.state = .tracking) ∧
    (s.model.state = .tracking → s.trackedPlan.isSome = true)

/-! ### Planner (R66, R98, R80) -/

/-- No pass is running between steps, and none is due or marked in STANDBY (R66, R147). -/
abbrev State.PassSound (s : State) : Prop :=
  s.planner.passRunning = false ∧ s.planner.passMark = false ∧ (s.mode = .standby → s.planner.passDue = false)

/-- The member list of the active grant and the GRANTED entries of the table are the same buses (R98), each once and at
most five; a COMMANDED entry is the one the command in the slot was chosen for (R80, R88); a REVISE names no bus (R88),
a lead command stands in the slot only with no grant active, and a follower command only while the grant it names has
room (R77). -/
abbrev State.GrantSound (s : State) : Prop :=
  (∀ g, s.planner.grant = some g → g.members.Nodup ∧ g.members.length ≤ 5 ∧
      ∀ b ∈ g.members, ∃ e ∈ s.table, e.bus = b ∧ e.state = .granted) ∧
    (∀ e ∈ s.table, e.state = .granted → ∃ g, s.planner.grant = some g ∧ e.bus ∈ g.members) ∧
    (∀ e ∈ s.table, e.state = .commanded → ∃ c, s.planner.slot = some c ∧ c.bus = some e.bus) ∧
    (∀ c, s.planner.slot = some c → c.action = .revise → c.bus = none) ∧
    (∀ c, s.planner.slot = some c → c.action ≠ .revise → c.role = .lead → s.planner.grant = none) ∧
    (∀ c g, s.planner.slot = some c → c.action ≠ .revise → c.role = .follower → s.planner.grant = some g →
      g.id = c.grantId → g.members.length < 5)

/-! ### Approach ports (R116, R114, R122, R123, R129, R130) -/

/-- One port: at most 4 frames in the store (R116), at most 16 judged slots (R114) and checked quarters (R122), a return
position of 0 to 15 and a record of four payloads of 30 octets (R123). -/
abbrev Port.Sound (p : Port) : Prop :=
  p.store.length ≤ 4 ∧ p.judged.length ≤ 16 ∧ p.history.length ≤ 16 ∧ p.returnPos ≤ 15 ∧ p.sent.length = 4 ∧
    ∀ o ∈ p.sent, o.length = 30

/-- Every port is sound, and is DISABLED exactly when its approach is not enabled (R129 to R131). -/
abbrev State.PortsSound (s : State) : Prop :=
  ∀ x ∈ allApproaches, (s.ports.get x).Sound ∧
    ((s.ports.get x).framer = .disabled ↔ (s.config.approaches.get x).enabled = false)

/-! ### Allowance (R82, R84, R85) -/

/-- No approach holds more tokens than its Kmax (R82); the committed time and the leads stay within the ledger's limits
(R84, R85, R96, R97). -/
abbrev State.AllowanceSound (s : State) : Prop :=
  (∀ x ∈ allApproaches, s.planner.tokens.get x ≤ (s.config.approaches.get x).kMax) ∧
    s.planner.ledger.committed ≤ s.planner.ledger.timeLimit ∧ s.planner.ledger.leads ≤ s.planner.ledger.grantLimit

/-! ### Ring of phases (R44, R55, R57) -/

/-- A phase of the intersection. -/
abbrev Configuration.hasPhase (c : Configuration) (i : Nat) : Prop := 1 ≤ i ∧ i ≤ c.phases.length

/-- What the projection rests on: 2 to 8 phases with yellows of 20 or more (R44, Table 3-1), a horizon of at most 2550
(Table 8-4), and an anchor, a grant, a lead or follower command and a lost tag that name phases of the intersection
(R47, R80). A list of windows therefore holds at most 128 (R55). -/
abbrev State.RingSound (s : State) : Prop :=
  s.config.general.horizon ≤ 2550 ∧ 2 ≤ s.config.phases.length ∧ s.config.phases.length ≤ 8 ∧
    (∀ r ∈ s.config.phases, 20 ≤ r.yellow) ∧ (∀ a, s.model.anchor = some a → s.config.hasPhase a.phase) ∧
    (∀ g, s.planner.grant = some g → s.config.hasPhase g.phase) ∧
    (∀ c, s.planner.slot = some c → c.action ≠ .revise → s.config.hasPhase c.phase) ∧
    (∀ m, s.planner.lost = some m → s.config.hasPhase m.phase)

/-! ### What statements are made of -/

/-- The port can take `m` next: the part is out of reset, no restart is pending, and `m` heads the asked-message queue
(R137, R145). -/
abbrev State.takes (s : State) (m : AskedMessage) (rest : List AskedMessage) : Prop :=
  s.held = false ∧ s.link.restart = none ∧ s.link.asked = m :: rest

/-- The state with `m` taken and its REPLY queued, carrying its tag, its kind, a reply code and data (R137). -/
def State.answered (s : State) (m : AskedMessage) (rest : List AskedMessage) (code : Nat) (data : List Octet) : State :=
  { s with link := { s.link with asked := rest,
                                 outbound := s.link.outbound ++
                                   [{ kind := .reply, tag := m.tag, body := m.kind :: octet code :: data, final := false }] } }

/-- A frame that passes its check and is of one kind heads the frames handed over (R135). -/
abbrev State.hears (s : State) (kind : Octet) (f : List Octet) (rest : List (List Octet)) : Prop :=
  s.held = false ∧ s.link.received = f :: rest ∧ framePasses f = true ∧ frameKind f = kind

/-- The state with the oldest frame handed over taken. -/
def State.heard (s : State) (rest : List (List Octet)) : State := { s with link := { s.link with received := rest } }

/-- The table can take `t` next: the part is out of reset and `t` is the next telegram of the rotation (R5). -/
abbrev State.serves (s : State) (t : Telegram) : Prop := s.held = false ∧ s.nextTelegram = some t

/-- The counters after one event (R162). -/
def State.counted (s : State) (ev : EventKind) (sub : Nat) (src : Option Source) : Statistics :=
  { s.stats with counters := s.stats.counters.map fun c => c.add (if c.selects ev sub src then 1 else 0) }

/-- `t` is `base` but for what latching does (R166, R138): latches that were clear may be set, and NOTICE messages may
have joined the outbound queue or been dropped and tallied. A set latch and the mask stay. -/
abbrev State.sameButNotices (t base : State) : Prop :=
  ∃ latches out dropped,
    t = { base with notices := { base.notices with latches := latches },
                    link := { base.link with outbound := base.link.outbound ++ out, noticesDropped := dropped } } ∧
      (∀ m ∈ out, m.kind = .notice) ∧
      ∀ l ∈ latchesInOrder, (base.notices.latches.get l).isSome = true → latches.get l = base.notices.latches.get l

/-- `t` is `base` but for what latching does and for the values of the counters (R162). -/
abbrev State.sameButReports (t base : State) : Prop :=
  t.sameButNotices { base with stats := { base.stats with counters := t.stats.counters } }

/-- The counters after several events, each with its sub-event and source (R162). -/
def State.countedAll (s : State) (events : List (EventKind × Nat × Option Source)) : Statistics :=
  events.foldl (fun st e => State.counted { s with stats := st } e.1 e.2.1 e.2.2) s.stats

/-- `t` is `base` but for what counting may do beside it: where a counter stands at its limit, COUNTER_SATURATED may
have been latched with its number, and its NOTICE offered (R162, R166). -/
abbrev State.sameButSaturation (t base : State) : Prop :=
  t = base ∨
    ∃ i c, base.stats.counters[i]? = some c ∧ c.value = 4294967295 ∧ t = latchNotice .counterSaturated i base

/-- A queue `out` that is `old` with NOTICE messages and exactly one other message, `m`, behind it (R138). -/
abbrev joinedBy (out old : List OutMessage) (m : OutMessage) : Prop :=
  ∃ before behind, out = old ++ before ++ m :: behind ∧ ∀ q ∈ before ++ behind, q.kind = .notice

/-- Every latch of `t` but COUNTER_SATURATED and those of a list is as in `s`. -/
abbrev State.latchesStay (t s : State) (but : List Latch) : Prop :=
  ∀ l ∈ latchesInOrder, l ≠ .counterSaturated → l ∉ but → t.notices.latches.get l = s.notices.latches.get l

/-- A latch that an event with a detail sets keeps its first detail and time (R166). -/
def setOnce (old : Option LatchInfo) (detail : Nat) (now : PartTime) : Option LatchInfo :=
  if old.isSome then old else some { detail := detail, time := now }

/-! ### Entries -/

/-- An entry in GRANTED: its state, indication, applied amount, role and shadow field (R91 step 5, R79). -/
def Entry.asGranted (e : Entry) (role : Role) (applied : Nat) (shadow : Bool) : Entry :=
  { e with state := .granted, reason := none, indication := .granted, applied := some applied, role := some role,
           shadow := shadow }

/-- An entry in SPENT: its state, indication, close time and grant-ran field (R101, R79). -/
def Entry.asSpent (e : Entry) (now : PartTime) (ran : Bool) : Entry :=
  { e with state := .spent, reason := none, indication := .none, closeTime := some now, grantRan := some ran }

/-- An entry in WAITING with a reason (R78, R79). -/
def Entry.asWaiting (e : Entry) (why : WaitReason) : Entry :=
  { e with state := .waiting, reason := some why, indication := .wait }

/-- `el` is the eligibility an update evaluation decides from the class, the previous eligibility and the lateness (R37,
Table 2-2 of R38). -/
abbrev ClassConfig.decides (c : ClassConfig) (previous : Eligibility) (lateness : Int) (el : Eligibility) : Prop :=
  (c.enabled = false → el = .neutral) ∧
  (c.enabled = true → c.unconditional = true → el = .eligible) ∧
  (c.enabled = true → c.unconditional = false →
    (previous = .eligible → lateness ≥ (c.lOn : Int) - c.lHys → el = .eligible) ∧
    (previous = .hold → lateness ≤ -(c.lEarly : Int) + c.lHys → el = .hold) ∧
    (¬(previous = .eligible ∧ lateness ≥ (c.lOn : Int) - c.lHys) →
      ¬(previous = .hold ∧ lateness ≤ -(c.lEarly : Int) + c.lHys) →
      (lateness ≥ (c.lOn : Int) → el = .eligible) ∧
      (lateness < (c.lOn : Int) → lateness ≤ -(c.lEarly : Int) → el = .hold) ∧
      (lateness < (c.lOn : Int) → lateness > -(c.lEarly : Int) → el = .neutral)))

/-- `q` is the evaluated entry `e` placed as R10 places it after an update or an admission, with the indication of
R79. -/
abbrev Entry.placedAs (e q : Entry) : Prop :=
  (e.state = .commanded ∨ e.state = .granted ∨ e.state = .spent ∨ e.state = .denied → q = e) ∧
  (e.state = .new → e.ring.length < 2 → e.atStop = false → q = e) ∧
  (e.state = .far ∨ e.state = .watch ∨ e.state = .covered ∨ e.state = .waiting ∨
      e.state = .new ∧ (2 ≤ e.ring.length ∨ e.atStop = true) →
    (e.est.beyond = true → q = { e with state := .far, reason := none, indication := .none }) ∧
    (e.est.beyond = false → e.est.eligibility ≠ .eligible ∨ e.phase = 0 →
      q = { e with state := .watch, reason := none,
                   indication := if e.est.eligibility = .hold then .hold else .none }) ∧
    (e.est.beyond = false → e.est.eligibility = .eligible → e.phase ≠ 0 →
      (e.state = .covered ∨ e.state = .waiting → q = e) ∧
      (e.state ≠ .covered → e.state ≠ .waiting → q = e.asWaiting .needsGreen)))

/-- `v` is the estimate of `e` at the present instant, with eligibility `el`: smoothed speed (R30), distance now (R31),
travel (R32), dwell remainder (R33), ETA (R34), half-width (R35), window (R36), score (R40), coasting (R41, R42). -/
abbrev State.estimates (s : State) (el : Eligibility) (e : Entry) (v : Estimate) : Prop :=
  let a := s.config.approaches.get e.approach
  let c := s.config.classes.get e.cls
  let g := s.config.general
  let age := (s.now - e.tLast).toNat
  let newest := e.ring.drop (e.ring.length - min a.depth e.ring.length)
  let pace := if e.atStop = true then a.vCruise else v.speed
  let travel := (v.distNow * 100 + (pace - 1)) / pace
  let dwell :=
    if e.atStop = true then
      if e.doorOpen = true then max a.dDep (a.dStop - (10 * e.dwell + age)) else a.dDep - age
    else 0
  let width := a.m0 + (v.distNow * a.m1 + 99) / 100
  v.evalTime = s.now ∧ v.eligibility = el ∧
    v.speed = (if newest = [] then a.vCruise else max a.vFloor (min a.vCap (newest.sum / newest.length))) ∧
    v.distNow = (if e.atStop = true then e.distance else e.distance - v.speed * age / 100) ∧
    v.eta = min (travel + dwell) 2550 ∧ (v.beyond = true ↔ g.horizon < travel + dwell) ∧
    (v.coasting = true ↔
      10 * a.tStale < age ∨ e.fromCabinet = false ∧ (s.ports.get e.approach).framer ≠ .aligned) ∧
    v.halfWidth = min 300 (if v.coasting = true then width + a.cGrow * (age - 10 * a.tStale) / 10 else width) ∧
    v.winStart = v.eta - v.halfWidth ∧ v.winEnd = v.eta + v.halfWidth ∧
    v.score = min 255 (c.weight + g.wLate * (min 300 e.lateness.toNat / 10) + g.wLoad * e.load) ∧
    v.coastedEver = (e.est.coastedEver || v.coasting)

/-- `q` is `e` after the evaluation and the placement of a planning pass (R26, R27); an entry in NEW is not
evaluated. -/
abbrev State.evaluates (s : State) (e q : Entry) : Prop :=
  (e.state = .new → q = e) ∧
  (e.state ≠ .new → ∃ v, s.estimates e.est.eligibility e v ∧ Entry.placedAs { e with est := v } q)

/-! ### The signal ahead (R44 to R61) -/

/-- The green of phase `i` that starts at `start`, as long as the plan's planned green (R45, R57). -/
def Configuration.greenFrom (c : Configuration) (p : Plan) (i start : Nat) : Window :=
  { phase := i, start := start, stop := start + (p.split i - (c.phase i).yellow - (c.phase i).redClear),
    current := false }

/-- The green windows ahead, counted from 0, with an extension `x` in force on the anchored phase and no advance: the
first by Table 3-4, each other after the yellow and the red clearance of the phase before it (R44, R49, R56, R57). -/
def Configuration.ringAhead (c : Configuration) (p : Plan) (a : Anchor) (now : PartTime) (x : Nat) : Nat → Window
  | 0 =>
    let e := a.elapsed + (now - a.arrival).toNat
    let r := c.phase a.phase
    let next := if a.phase < c.phases.length then a.phase + 1 else 1
    match a.interval with
    | .green => { phase := a.phase, start := 0, stop := p.split a.phase - r.yellow - r.redClear + x - e, current := true }
    | .yellow => c.greenFrom p next (r.yellow - e + r.redClear)
    | .redClear => c.greenFrom p next (r.redClear - e)
  | i + 1 =>
    let w := c.ringAhead p a now x i
    c.greenFrom p (if w.phase < c.phases.length then w.phase + 1 else 1)
      (w.stop + (c.phase w.phase).yellow + (c.phase w.phase).redClear)

/-- What an early green can take from a window: what it holds above its floor, when its phase is truncatable (R58). -/
def Configuration.gives (c : Configuration) (a : Anchor) (now : PartTime) (w : Window) : Nat :=
  let r := c.phase w.phase
  let least := if a.pedCalls.getLsbD (w.phase - 1) then max r.minGreen r.pedMin else r.minGreen
  if r.truncatable = true then
    (w.stop - w.start) - (if w.current = true then least - (a.elapsed + (now - a.arrival).toNat) else least)
  else 0

/-- The green windows ahead under an adjustment, counted from 0. An advance of `x` to phase `q` is taken from the
windows of other phases before the first green of `q` that is not the current one: the windows from number `k` on give
`x`, or all they can when that is less, so that the latest give first (R59, R60). -/
def Configuration.adjusted (c : Configuration) (p : Plan) (a : Anchor) (now : PartTime) (adj : Adjustment) (i : Nat) :
    Window :=
  match adj with
  | .none => c.ringAhead p a now 0 i
  | .extend q total => c.ringAhead p a now (if q = a.phase then total else 0) i
  | .advance q x =>
    let u := c.ringAhead p a now 0
    let target := ((List.range (c.phases.length + 1)).find? fun k => (u k).phase == q && !(u k).current).getD 0
    let given := fun k =>
      min x ((((List.range target).drop k).filter fun m => (u m).phase != q).map fun m => c.gives a now (u m)).sum
    { u i with start := (u i).start - (given 0 - given i), stop := (u i).stop - (given 0 - given (i + 1)) }

/-- The projection: the windows ahead whose start is not beyond H, at most 128 (R55). -/
def Configuration.ahead (c : Configuration) (p : Plan) (a : Anchor) (now : PartTime) (adj : Adjustment) : List Window :=
  ((List.range 128).map (c.adjusted p a now adj)).filter fun w => w.start ≤ c.general.horizon

/-- The adjustment the active grant puts into the projection: its extension when RUNNING, its advance when ARMED,
nothing when its shadow flag is set (R59 to R61). -/
def State.inForce (s : State) : Adjustment :=
  match s.planner.grant with
  | none => .none
  | some g =>
    if g.shadow = true then .none
    else if g.state = .running then .extend g.phase g.total
    else if g.action = .advance then .advance g.phase g.applied
    else .none

/-- The projection of a pass at the present instant (R55, R69). -/
def State.ahead (s : State) (a : Anchor) (p : Plan) : List Window := s.config.ahead p a s.now s.inForce

/-! ### What a pass finds (R69 to R81) -/

/-- The states a pass classifies (R69). -/
def Entry.asks (e : Entry) : Bool := e.state == .covered || e.state == .waiting

/-- The coverage test: the first green of the entry's phase that ends after `a` starts by `a` and lasts to `b + Q`
(R70). -/
def Entry.servedIn (e : Entry) (ws : List Window) (q : Nat) : Bool :=
  match ws.find? fun w => w.phase == e.phase && e.est.winStart < w.stop with
  | some w => w.start ≤ e.est.winStart && e.est.winEnd + q ≤ w.stop
  | none => false

/-- The entries a pass finds COVERED, among the evaluated ones (R70). -/
def State.covered (s : State) (a : Anchor) (p : Plan) (l : List Entry) : List Entry :=
  l.filter fun e => e.asks && e.servedIn (s.ahead a p) s.config.general.clearance

/-- An adjustment would take its green from a COVERED entry of equal or higher score (R74, R75). -/
def State.uncovers (s : State) (a : Anchor) (p : Plan) (l : List Entry) (adj : Adjustment) (e : Entry) : Bool :=
  (s.covered a p l).any fun f =>
    e.est.score ≤ f.est.score && !f.servedIn (s.config.ahead p a s.now adj) s.config.general.clearance

/-- Tests 4 to 6 of a lead that is feasible (R76). -/
def State.judgesLead (s : State) (a : Anchor) (p : Plan) (l : List Entry) (e : Entry) (act : Action) (n : Nat)
    (adj : Adjustment) : Finding :=
  if s.planner.ledger.leads ≥ s.planner.ledger.grantLimit then .waits .budget
  else if s.planner.tokens.get e.approach < 1 then .waits .noToken
  else if s.uncovers a p l adj e then .waits .guarded
  else .candidate act n

/-- What a pass finds for an entry that is not covered: the reason it waits for, or the action and the amount it is a
candidate for (R70 to R73, R76, R77). -/
def State.judges (s : State) (a : Anchor) (p : Plan) (l : List Entry) (e : Entry) : Finding :=
  let early := e.est.winStart
  let late := e.est.winEnd + s.config.general.clearance
  let r := s.config.phase e.phase
  let rest := s.planner.ledger.timeLimit - s.planner.ledger.committed
  let greens := (s.ahead a p).filter fun w => w.phase == e.phase
  match greens.find? fun w => early < w.stop with
  | none => .waits .needsGreen
  | some w =>
    if w.current = false ∧ ((greens.find? fun v => !v.current) ≠ some w ∨ w.start ≤ early) then .waits .needsGreen
    else if e.est.coasting = true then .waits .coasting
    else match s.planner.grant with
    | some g =>
      let green := match greens.find? fun v => v.current with | some v => v.stop | none => 0
      let stop := if g.shadow = true then green + g.total else green
      let open_ := g.state = .running ∧ g.phase = e.phase ∧
        (s.mode = .run ∧ g.shadow = false ∨ s.mode = .monitor ∧ g.shadow = true)
      if ¬open_ ∨ stop ≤ early ∨ late ≤ stop ∨ 5 ≤ g.members.length then .waits .grantBusy
      else if g.total + (late - stop) > r.maxExtend then .waits .limit
      else if late - stop > rest then .waits .budget
      else if s.uncovers a p l (.extend e.phase (g.total + (late - stop))) e then .waits .guarded
      else .candidate .extend (late - stop)
    | none =>
      if w.current = true then
        if late - w.stop > r.maxExtend then .waits .limit
        else if late - w.stop > rest then .waits .budget
        else s.judgesLead a p l e .extend (late - w.stop) (.extend e.phase (late - w.stop))
      else
        let before := ((s.ahead a p).takeWhile fun v => v != w).filter fun v => v.phase != e.phase
        let most := min (min (w.start - early) (before.map (s.config.gives a s.now)).sum) r.maxAdvance
        if most < s.config.general.aMin then .waits .limit
        else if min most rest < s.config.general.aMin then .waits .budget
        else s.judgesLead a p l e .advance (min most rest) (.advance e.phase (min most rest))

/-- An evaluated entry after the classification of a pass, a candidate waiting at GRANT_BUSY (R70, R76 to R79). -/
def State.settles (s : State) (a : Anchor) (p : Plan) (l : List Entry) (e : Entry) : Entry :=
  if e.asks = false then e
  else if e.servedIn (s.ahead a p) s.config.general.clearance = true then
    { e with state := .covered, reason := none, indication := .covered, classified := true }
  else
    { e.asWaiting (match s.judges a p l e with | .waits why => why | .candidate _ _ => .grantBusy) with classified := true }

/-- An evaluated entry is a candidate for an action and an amount (R76, R77). -/
abbrev State.offers (s : State) (a : Anchor) (p : Plan) (l : List Entry) (e : Entry) (act : Action) (n : Nat) : Prop :=
  e ∈ l ∧ e.asks = true ∧ e.servedIn (s.ahead a p) s.config.general.clearance = false ∧
    s.judges a p l e = .candidate act n

/-- The events of a classification: COVERED_BYPASS of an entry covered at its first classification (R70), and
TOKEN_EMPTY of one newly at NO_TOKEN (R76). -/
def State.passEvents (s : State) (a : Anchor) (p : Plan) (l : List Entry) : List (EventKind × Nat × Option Source) :=
  ((s.covered a p l).filter fun e => !e.classified).map (fun e => (.coveredBypass, 0, some (.port e.approach))) ++
    (l.filter fun e =>
      e.asks && !e.servedIn (s.ahead a p) s.config.general.clearance && s.judges a p l e == .waits .noToken &&
        !(e.state == .waiting && e.reason == some .noToken)).map fun e => (.tokenEmpty, 0, some (.port e.approach))

/-- The chosen entry in COMMANDED, with its command fields (R80). -/
def Entry.asCommanded (e : Entry) (act : Action) (n : Nat) (now : PartTime) : Entry :=
  { e with state := .commanded, reason := none, indication := .wait, action := some act, requested := some n,
           applied := none, commandTime := some now, etaAtCommand := some e.est.eta, classified := true }

/-! ### Departures and the outcome buffer -/

/-- `r` is the outcome record of an entry that leaves, but for its arrival error (R157, Table 9-1). -/
abbrev OutcomeRecord.isOf (r : OutcomeRecord) (e : Entry) (code : OutcomeCode) (now : PartTime) : Prop :=
  r.bus = e.bus ∧ r.route = e.route ∧ r.approach = e.approach ∧ r.cls = e.cls ∧ r.phase = e.phase ∧ r.code = code ∧
    r.admitTime = e.admitTime ∧ r.closeTime = now ∧ r.latenessAtAdmission = e.latenessAtAdmission ∧
    r.latenessAtClose = e.lateness ∧ r.score = e.est.score ∧ r.action = e.action ∧ r.requested = e.requested.getD 0 ∧
    r.applied = e.applied.getD 0 ∧ r.role = e.role ∧ r.attempts = e.attempts ∧ r.coastedEver = e.est.coastedEver ∧
    r.shadow = e.shadow ∧ r.admittedByPosition = e.admittedByPosition

/-- The cache after bus `b` of approach `x` has entered it: its old entry is replaced, or a free place taken, or, of 16
entries, the one of greatest age, the first written among equals (R18). -/
abbrev State.caches (s : State) (b : Nat) (x : Approach) (cache : List CacheEntry) : Prop :=
  let fresh : CacheEntry := { bus := b, approach := x, time := s.now }
  ((∃ c ∈ s.cache, c.bus = b) ∨ s.cache.length < 16 → cache = (s.cache.filter fun c => c.bus != b) ++ [fresh]) ∧
  ∀ front old back, s.cache = front ++ old :: back → 16 ≤ s.cache.length → (s.cache.map CacheEntry.bus).Nodup →
    (∀ c ∈ s.cache, c.bus ≠ b) → (∀ c ∈ front, (s.now - c.time).toNat < (s.now - old.time).toNat) →
    (∀ c ∈ back, (s.now - c.time).toNat ≤ (s.now - old.time).toNat) → cache = front ++ back ++ [fresh]

/-- The latch TOKENS_EXHAUSTED of an approach after a token has been taken: set when the taking brings 1 to 0 (R82,
R166). -/
abbrev State.tookToken (t s : State) (x : Approach) : Prop :=
  t.notices.latches.tokensExhausted.get x =
    if s.planner.tokens.get x = 1 then setOnce (s.notices.latches.tokensExhausted.get x) 0 s.now
    else s.notices.latches.tokensExhausted.get x

/-- The window end of a member carried forward to now, with the clearance, less the time to the planned end of the
green: its need, floored at 0 (R103). -/
def Entry.needNow (e : Entry) (now : PartTime) (clearance rest : Nat) : Nat :=
  e.est.winEnd - (now - e.est.evalTime).toNat + clearance - rest

/-- `n` is the greatest need over the members, floored at 0 (R103). -/
abbrev neededBy (members : List Entry) (now : PartTime) (clearance rest n : Nat) : Prop :=
  (∀ e ∈ members, e.needNow now clearance rest ≤ n) ∧ (n = 0 ∨ ∃ e ∈ members, e.needNow now clearance rest = n)

/-- The pending revise after `r` is to be made pending (R104): it replaces one of the same grant id, and, as a revoke,
one of another grant id that is none; otherwise the one that is pending is kept. -/
def reviseAfter (old : Option Revise) (r : Revise) : Option Revise :=
  match old with
  | none => some r
  | some o => if o.grantId = r.grantId ∨ r.revoke = true ∧ o.revoke = false then some r else some o

/-- The pending revise after the grant it may name has closed, or its total has risen (R101, R92). -/
def dropNamed (old : Option Revise) (grantId : Nat) : Option Revise :=
  old.bind fun r => if r.grantId = grantId then none else some r

/-- What the trim test of a grant with members leaves: the table, the active grant and the pending revise (R103, R104).
A RUNNING grant that carries more than its members need, by more than the threshold, is revised to what they need; a
shadow grant takes the revise at once (R107). -/
abbrev State.trims (s : State) (g : Grant) (table : List Entry) (grant : Option Grant) (revise : Option Revise) : Prop :=
  (g.state = .armed ∨ s.trackedPlan = none → table = s.table ∧ grant = some g ∧ revise = s.planner.revise) ∧
  ∀ a p n, g.state = .running → s.trackedPlan = some (a, p) →
    neededBy (s.table.filter fun q => g.members.contains q.bus) s.now s.config.general.clearance
      (s.config.plannedGreen p g.phase - a.elapsedAt s.now) n →
    (g.total ≤ n + s.config.general.reviseThreshold →
      table = s.table ∧ grant = some g ∧ revise = s.planner.revise) ∧
    (n + s.config.general.reviseThreshold < g.total → g.shadow = false →
      table = s.table ∧ grant = some g ∧
      revise = reviseAfter s.planner.revise
        { grantId := g.id, phase := g.phase, total := n, approach := g.approach, revoke := false }) ∧
    (n + s.config.general.reviseThreshold < g.total → g.shadow = true → 0 < n →
      table = s.table ∧ grant = some { g with total := n } ∧ revise = s.planner.revise) ∧
    (n + s.config.general.reviseThreshold < g.total → g.shadow = true → n = 0 →
      table = s.table.map (fun q => if g.members.contains q.bus then q.asSpent s.now true else q) ∧ grant = none ∧
      revise = dropNamed s.planner.revise g.id)

/-- Whether the emptied grant is given back (R102): it is ARMED, or it runs with an extension and its green has not
passed its planned end, or the model cannot tell. -/
abbrev State.givesBack (s : State) (g : Grant) : Prop :=
  g.state = .armed ∨
    g.state = .running ∧ 0 < g.total ∧
      ∀ a p, s.trackedPlan = some (a, p) → a.elapsedAt s.now < s.config.plannedGreen p g.phase

/-- What the departure of `e` leaves: the table, the active grant and the pending revise (R19 step 1, R102, R107). A
GRANTED entry leaves its member list; an emptied list may have the grant given back, by a revise to 0 or, for a shadow
grant, by its close; with members left the trim test is made. -/
abbrev State.departs (s : State) (e : Entry) (table : List Entry) (grant : Option Grant) (revise : Option Revise) : Prop :=
  let left := s.table.filter fun q => q.bus != e.bus
  (e.state ≠ .granted ∨ s.planner.grant = none →
    table = left ∧ grant = s.planner.grant ∧ revise = s.planner.revise) ∧
  ∀ g g' : Grant, e.state = .granted → s.planner.grant = some g →
    g' = { g with members := g.members.filter fun b => b != e.bus } →
    (g'.members ≠ [] → State.trims { s with table := left } g' table grant revise) ∧
    (g'.members = [] →
      (¬s.givesBack g → table = left ∧ grant = some g' ∧ revise = s.planner.revise) ∧
      (s.givesBack g → g.shadow = false →
        table = left ∧ grant = some g' ∧
        revise = reviseAfter s.planner.revise
          { grantId := g.id, phase := g.phase, total := 0, approach := g.approach, revoke := false }) ∧
      (s.givesBack g → g.shadow = true →
        table = left ∧ grant = none ∧ revise = dropNamed s.planner.revise g.id))

/-- What the arrival of `r` at the outcome buffer of `s` leaves: the buffer, the lost count, and the latches
OUTCOMES_WAITING and OUTCOME_OVERRUN (R159, R166). -/
abbrev State.tookRecord (u s : State) (r : OutcomeRecord) : Prop :=
  let count := s.outcomes.records.length
  (count < 64 →
    u.outcomes = { records := s.outcomes.records ++ [r], lost := s.outcomes.lost } ∧
    u.notices.latches.outcomeOverrun = s.notices.latches.outcomeOverrun ∧
    u.notices.latches.outcomesWaiting =
      if count < s.config.general.outcomeThreshold ∧ s.config.general.outcomeThreshold ≤ count + 1 then
        setOnce s.notices.latches.outcomesWaiting (count + 1) s.now
      else s.notices.latches.outcomesWaiting) ∧
  (64 ≤ count →
    u.outcomes.lost = min 65535 (s.outcomes.lost + 1) ∧
    (s.config.general.outcomeMode = .wrap → u.outcomes.records = s.outcomes.records.tail ++ [r]) ∧
    (s.config.general.outcomeMode = .stop → u.outcomes.records = s.outcomes.records) ∧
    u.notices.latches.outcomesWaiting = s.notices.latches.outcomesWaiting ∧
    u.notices.latches.outcomeOverrun = setOnce s.notices.latches.outcomeOverrun u.outcomes.records.length s.now)

/-! ### Slots -/

/-- The slots of some frames' payloads that are not empty (R2, R120, R121). -/
def slotsUsed (payloads : List (List Octet)) : Nat :=
  ((payloads.flatMap payloadSlots).filter fun os => !slotEmpty os).length

/-- As many discards of one source for one reason (R120, R121). -/
def discards (n : Nat) (why : Discard) (x : Approach) : List (EventKind × Nat × Option Source) :=
  List.replicate n (.telegramDiscard, why.index, some (.port x))

/-- What a slot of a good quarter leaves at the intake: an empty one is passed over (R2); another is discarded as WEAK
below the strength threshold of its approach, as MALFORMED, as NOT_RUNNING in STANDBY or as INTAKE_FULL at 8 telegrams,
in this order (R3), or joins the queue of its port (R4), each counted. -/
abbrev State.slotTaken (s t : State) (x : Approach) (os : List Octet) : Prop :=
  let discarded := fun why : Nat =>
    t.sameButSaturation { s with stats := s.counted .telegramDiscard why (some (.port x)) }
  let kind := (os[0]?).getD 0
  let strength := ((os[13]?).getD 0).toNat
  let queue := s.intake.queues.ports.get x
  (kind = 0 → t = s) ∧
  (kind ≠ 0 → strength < (s.config.approaches.get x).strength → discarded 0) ∧
  (kind ≠ 0 → (s.config.approaches.get x).strength ≤ strength →
    (readSlot (.port x) x os = .malformed → discarded 1) ∧
    ∀ tg, readSlot (.port x) x os = .telegram tg →
      (s.mode = .standby → discarded 2) ∧
      (s.mode ≠ .standby → 8 ≤ queue.length → discarded 3) ∧
      (s.mode ≠ .standby → queue.length < 8 →
        t.sameButSaturation { s with
          intake := { s.intake with queues := { s.intake.queues with
            ports := s.intake.queues.ports.set x (queue ++ [tg]) } },
          stats := s.counted .telegramIn tg.kind.index (some (.port x)) }))

/-- The slots of a list reach the intake one after another. -/
def State.slotsTaken (s t : State) (x : Approach) : List (List Octet) → Prop
  | [] => t = s
  | os :: rest => ∃ m, s.slotTaken m x os ∧ m.slotsTaken t x rest

/-! ### Exits from ALIGNED -/

/-- A port that has left ALIGNED for HUNT, with the bits its search starts from (R112, R115). -/
def Port.hunts (p : Port) (bits : Bits) : Port :=
  { p with framer := .hunt, bits := bits, passed := 0, store := [], centring := false, centringIdle := 0, quarter := none,
           farAlarm := false, senderFault := false, echo := false }

/-- `t` is `s` after the port of `x` has left ALIGNED and become `p`: LINK_STATE latched as not aligned, LINK_REFRAME
counted, and the telegrams of the quarter that was held discarded as SLIP_LOSS (R115, R120), after other events. -/
abbrev State.leftAligned (t s : State) (x : Approach) (p : Port) (first : List (EventKind × Nat × Option Source)) :
    Prop :=
  let held := match (s.ports.get x).quarter with | some q => q.payloads | none => []
  t.notices.latches.linkState.get x = setOnce (s.notices.latches.linkState.get x) 0 s.now ∧
    t.latchesStay s [.linkState x] ∧
    t.sameButNotices { s with
      ports := s.ports.set x p,
      stats := s.countedAll (first ++ (.linkReframe, 0, some (.port x)) :: discards (slotsUsed held) .slipLoss x) }

/-! ### Structural errors of a CONFIGURE (R152) -/

/-- The structural errors of one item by itself, its data laid out as Table 10-6 says. -/
abbrev Item.faulty (it : Item) : Prop :=
  let o := fun k => (bodyOctet it.data k).toNat
  let m := o 0
  let routes := (List.range m).map fun i => o (3 * i + 1) * 256 + o (3 * i + 2)
  let phases := (List.range m).map fun i => o (12 * i + 1)
  (it.name = .general ∧ 1 < o 17) ∨
  (it.name = .approach ∧ (3 < it.place.toNat ∨ 1 < o 0 ∨ o 1 ≠ 2 ∧ o 1 ≠ 4 ∧ o 1 ≠ 8)) ∨
  (it.name = .cls ∧ (3 < it.place.toNat ∨ 1 < o 0 ∨ 1 < o 1)) ∨
  (it.name = .routeMap ∧ (64 < m ∨ (∃ n ∈ routes, n = 0 ∨ 999 < n) ∨ ¬routes.Nodup)) ∨
  (it.name = .phaseTable ∧
    (m < 2 ∨ 8 < m ∨ (∃ n ∈ phases, n = 0 ∨ m < n) ∨ ¬phases.Nodup ∨ ∃ i ∈ List.range m, 1 < o (12 * i + 12))) ∨
  (it.name = .planTable ∧ (4 < m ∨ ∃ i ∈ List.range m, 15 < o (19 * i + 1))) ∨
  (it.name = .movementMap ∧ ∃ n ∈ it.data, 8 < n.toNat)

/-- The structural errors of a message of `count` items: a section of no name, a count outside 1 to 7, one section and
instance twice, an item with an error of its own, and a movement map that names a phase above the phase count, both as
they will stand, when either is written. -/
abbrev Items.faulty (c : Configuration) (count : Nat) (r : Items) : Prop :=
  let table := r.items.find? fun it => it.name == .phaseTable
  let map := r.items.find? fun it => it.name == .movementMap
  let phases := match table with | some it => (bodyOctet it.data 0).toNat | none => c.phases.length
  let named := match map with
    | some it => it.data.map fun (o : Octet) => o.toNat
    | none => allApproaches.flatMap fun x =>
        [(c.movementMap.get x).through, (c.movementMap.get x).left, (c.movementMap.get x).right]
  r.unknown = true ∨ count = 0 ∨ 7 < count ∨
  ¬(r.items.map fun it => (it.name.code, if it.name = .approach ∨ it.name = .cls then it.place else 0)).Nodup ∨
  (∃ it ∈ r.items, it.faulty) ∨
  (table.isSome = true ∨ map.isSome = true) ∧ ∃ n ∈ named, phases < n

/-! ### Layouts of replies (Tables 6-4, 10-5, 10-7 to 10-9) -/

/-- Fields one after another, each with its width in octets, high octet first. -/
def laidOut (fields : List (Nat × Nat)) : List Octet :=
  fields.flatMap fun f => (List.range f.1).map fun i => BitVec.ofNat 8 (f.2 / 256 ^ (f.1 - 1 - i))

/-- A flag with the weight of its bit (R169). -/
def bitOf (b : Bool) (weight : Nat) : Nat := if b = true then weight else 0

/-- A signed field as the number its two octets hold (R169). -/
def twosComplement (i : Int) : Nat := (i % 65536).toNat

/-- The fields of a READ_STATUS reply, in order (Table 10-7, Table 6-4). -/
def State.statusFields (s : State) : List (Nat × Nat) :=
  let l := s.planner.ledger
  [(1, s.mode.code), (4, s.now.toNat), (1, s.rate.toNat), (2, s.link.crcErrors), (2, s.link.overruns),
    (2, s.link.noticesDropped)] ++
  (1, s.model.state.code) ::
  (match s.model.anchor with
    | some a => [(1, a.plan), (1, a.phase), (1, a.interval.code),
        (2, min 65535 (a.elapsed + (s.now - a.arrival).toNat)), (1, a.pedCalls.toNat), (1, bitOf a.inhibit 1)]
    | none => [(1, 0), (1, 0), (1, 0), (2, 0), (1, 0), (1, 0)]) ++
  (match s.planner.slot with
    | some c => [(1, 1), (1, c.tag), (1, c.action.code), (1, c.phase), (2, c.amount), (1, c.grantId),
        (1, roleCode (some c.role)), (2, c.bus.getD 0), (1, bitOf c.due.isSome 1)]
    | none => [(1, 0), (1, 0), (1, 0), (1, 0), (2, 0), (1, 0), (1, 0), (2, 0), (1, 0)]) ++
  (match s.planner.grant with
    | some g => [(1, 1), (1, g.id), (1, actionCode (some g.action)), (1, g.phase), (2, g.requested), (2, g.applied),
        (2, g.total), (1, g.state.code), (1, bitOf g.shadow 1), (1, g.members.length)] ++
        (List.range 5).map fun i => (2, (g.members[i]?).getD 0)
    | none => [(1, 0), (1, 0), (1, 0), (1, 0), (2, 0), (2, 0), (2, 0), (1, 0), (1, 0), (1, 0)] ++
        List.replicate 5 (2, 0)) ++
  (match s.planner.lost with | some m => [(1, 1), (1, m.tag)] | none => [(1, 0), (1, 0)]) ++
  (match s.planner.revise with
    | some r => [(1, 1), (1, r.grantId), (2, r.total)]
    | none => [(1, 0), (1, 0), (2, 0)]) ++
  allApproaches.map (fun x => (1, s.planner.tokens.get x)) ++
  [(2, l.timeLimit), (1, l.grantLimit), (2, l.committed), (1, l.leads), (2, l.timeLimit - l.committed),
    (1, s.table.length), (1, s.cache.length)] ++
  allSources.map (fun q => (1, (s.intake.queues.get q).length)) ++
  [(1, s.outcomes.records.length), (2, s.outcomes.lost)] ++
  latchesInOrder.flatMap (fun k => match s.notices.latches.get k with
    | some i => [(1, 1), (1, i.detail), (4, i.time.toNat)]
    | none => [(1, 0), (1, 0), (4, 0)]) ++
  allApproaches.flatMap fun x =>
    let p := s.ports.get x
    [(1, bitOf (s.config.approaches.get x).enabled 1), (1, p.framer.code), (1, p.store.length), (1, p.lastSlip.code),
      (1, bitOf p.farAlarm 32 + bitOf p.senderFault 16 + bitOf p.echo 8 + bitOf p.force 4 +
        bitOf p.markerInsertion 2 + bitOf (p.crcInsertion != .none) 1)]

/-- The fields of a LIST_REQUESTS summary, in order (Table 10-5). -/
def Entry.summaryFields (e : Entry) : List (Nat × Nat) :=
  [(2, e.bus), (2, e.admission.toNat), (1, Approach.index e.approach), (1, e.phase), (1, e.state.code),
    (1, waitReasonCode e.reason), (1, e.est.eligibility.code), (2, e.est.eta), (1, e.est.score),
    (1, bitOf e.est.coasting 1), (1, e.indication.code)]

/-- The fields of the entry form of a READ_REQUEST reply, in order (Table 10-8). -/
def Entry.formFields (e : Entry) (position : Nat) : List (Nat × Nat) :=
  [(1, position), (2, e.bus), (2, e.route), (1, e.cls), (1, Approach.index e.approach), (1, e.movement.code),
    (1, e.phase), (1, bitOf e.fromCabinet 1), (1, e.seq), (2, e.admission.toNat), (4, e.admitTime.toNat),
    (1, bitOf e.admittedByPosition 1), (1, e.ring.length)] ++
  (e.ring ++ List.replicate (8 - e.ring.length) 0).map (fun v => (1, v)) ++
  [(2, e.distance), (4, e.tLast.toNat), (1, bitOf e.atStop 2 + bitOf e.doorOpen 1), (1, e.dwell),
    (2, twosComplement e.lateness), (2, twosComplement e.latenessAtAdmission), (1, e.load),
    (4, e.est.evalTime.toNat), (1, e.est.speed), (2, e.est.distNow), (2, e.est.eta), (2, e.est.halfWidth),
    (2, e.est.winStart), (2, e.est.winEnd), (1, e.est.eligibility.code), (1, e.est.score),
    (1, bitOf e.est.beyond 4 + bitOf e.est.coasting 2 + bitOf e.est.coastedEver 1), (1, e.state.code),
    (1, waitReasonCode e.reason), (1, e.attempts),
    (1, bitOf e.action.isSome 16 + bitOf e.applied.isSome 8 + bitOf e.role.isSome 4 + bitOf e.commandTime.isSome 2 +
      bitOf e.closeTime.isSome 1),
    (1, actionCode e.action), (2, e.requested.getD 0), (2, e.applied.getD 0), (1, roleCode e.role),
    (4, (e.commandTime.getD 0).toNat), (2, e.etaAtCommand.getD 0), (4, (e.closeTime.getD 0).toNat),
    (1, bitOf (e.grantRan.getD false) 1), (1, e.indication.code), (1, bitOf e.shadow 1)]

/-- The fields of an outcome record, in order (Table 10-9). -/
def OutcomeRecord.fields (r : OutcomeRecord) : List (Nat × Nat) :=
  [(2, r.bus), (2, r.route), (1, Approach.index r.approach * 64 + r.cls * 16 + r.phase), (1, r.code.code),
    (4, r.admitTime.toNat), (4, r.closeTime.toNat), (2, twosComplement r.latenessAtAdmission),
    (2, twosComplement r.latenessAtClose), (1, r.score), (1, actionCode r.action * 16 + roleCode r.role),
    (2, r.requested), (2, r.applied),
    (1, r.attempts * 64 + bitOf r.coastedEver 8 + bitOf r.shadow 4 + bitOf r.admittedByPosition 2 +
      bitOf r.arrivalError.isSome 1), (2, twosComplement (r.arrivalError.getD 0))]

/-! ### Runs -/

/-- A step that goes on: it answers a next state. -/
def State.goesOn (s : State) : Prop := ∃ t, step s = .next t

end Sys2Proof.Machine
end

