-- ==== Sys2Proof/Certificates/Slice0/Obligations.lean ====
section
/-! DEFINITION. The statements for the provers. Each docstring says what the statement says of the machine and names
the rules of spec/ it rests on; OBLIGATIONS.json gives their kinds. -/

section

open Sys2Proof Sys2Proof.Machine

/-! ### The machine -/

/-- A step with a command at the front of the queue runs that command on the state with the queue's rest. -/
def Obligations.StepRunsFrontCommand : Prop :=
  ∀ (c : Instr) (rest : List Instr) (s : State),
    step { s with pending := c :: rest } = exec c { s with pending := rest }

/-- Every command, in every state, answers a next state and leaves the queue of waiting commands alone; every step
answers a next state. That a command whose event cannot occur in the state has no effect is the model's choice (log
entry 4). -/
def Obligations.EveryCommandAnswers : Prop :=
  (∀ (c : Instr) (s : State), ∃ t, exec c s = .next t ∧ t.pending = s.pending) ∧ ∀ s : State, s.goesOn

/-- With no command waiting: while RSTn is low nothing happens; otherwise the events that are due become the waiting
commands in some order, and with none due part time advances by one tenth. The model's choice (log entries 1 and 3). -/
def Obligations.IdleStepTicksOrRaises : Prop :=
  ∀ s : State, s.pending = [] →
    (s.held = true → step s = .next s) ∧
    (s.held = false → dueNow s = [] → step s = .next { s with now := s.now + 1, occupancyFed := false }) ∧
    (s.held = false → dueNow s ≠ [] →
      ∃ l n, l.Perm (dueNow s) ∧ step s = .next { s with pending := l, choices := n })

/-- Power-on reset takes every block to its reset state, with the rate the straps give (R171, R132). That it is taken
from any state and keeps the waiting commands is the model's choice (log entries 1 and 21), and so are the reset
values the spec does not give: port fields, counter masks, the cut of a return frame (log entries 29, 31, 33). -/
def Obligations.PowerOnResetsEveryBlock : Prop :=
  ∀ (straps : BitVec 2) (s : State),
    exec (.powerOnReset straps) s =
      .next { State.reset with pending := s.pending, rate := straps, choices := s.choices }

/-- While RSTn is low ATTN is released and CL_TXD and every approach's outputs stand at one, and no command but
POWER_ON_RESET and RSTN_LOW has an effect (R171; log entry 7). -/
def Obligations.RstnLowHoldsThePart : Prop :=
  ∀ s : State,
    exec .rstnLow s = .next { s with held := true } ∧
    ∀ t, exec .rstnLow s = .next t → t.attn = false ∧ t.lineIdle = true ∧ (∀ x, t.approachIdle x = true) ∧
      ∀ c, (∀ straps, c ≠ .powerOnReset straps) → exec c t = .next t

/-- What the part holds after power-on reset (R146, R25, R63, R64, R159, R162, R165, R168, R139, R156), and that it is
sound there in every sense of Safety.lean. -/
def Obligations.ResetIsSound : Prop :=
  (State.reset.mode = .standby ∧ State.reset.now = 0 ∧ State.reset.table = [] ∧ State.reset.admissions = 0 ∧
    State.reset.cache = [] ∧ State.reset.model = { state := .noStatus, anchor := none } ∧
    State.reset.planner.tokens = ⟨3, 3, 3, 3⟩ ∧ State.reset.planner.refills = ⟨0, 0, 0, 0⟩ ∧
    State.reset.planner.ledger =
      { timeLimit := 300, grantLimit := 2, committed := 0, leads := 0, reservation := none } ∧
    State.reset.outcomes = { records := [], lost := 0 } ∧ State.reset.config.plans = [] ∧
    State.reset.config.routeMap = [] ∧ State.reset.config.phases.length = 4 ∧
    State.reset.stats.counters.map (fun c => (c.value, c.event)) = List.replicate 8 (0, none) ∧
    State.reset.link.outbound =
      [{ kind := .notice, tag := 0, body := [0, 255, 0, 0, 0, 0, 0], final := false }] ∧
    State.reset.attn = true ∧ State.reset.link.asked = [] ∧ State.reset.link.framer = .idle) ∧
  State.reset.TableSound ∧ State.reset.EntriesSound ∧ State.reset.QueuesSound ∧ State.reset.StandbyEmpty ∧
    State.reset.ReportsSound ∧ State.reset.LinkSound ∧ State.reset.ModelSound ∧ State.reset.PassSound ∧
    State.reset.GrantSound ∧ State.reset.PortsSound ∧ State.reset.AllowanceSound ∧ State.reset.RingSound

/-! ### The cabinet line -/

/-- An octet taken from the line, in each state of the receive framer (R134); a framing fault (R132) and the gap timeout
(R134) leave it idle. -/
def Obligations.ReceiveFramerTakesOctets : Prop :=
  ∀ (o : Octet) (s : State), s.held = false →
    (s.link.framer = .idle →
      exec (.octetReceived o) s =
        .next { s with link := { s.link with framer := if o = 0xA5 then .receiving [] else .idle } }) ∧
    (s.link.framer = .receiving [] →
      exec (.octetReceived o) s =
        .next { s with link := { s.link with
          framer := if 2 ≤ o.toNat ∧ o.toNat ≤ 250 then .receiving [o] else .idle } }) ∧
    (∀ len got, s.link.framer = .receiving (len :: got) → got.length + 1 = len.toNat + 2 →
      exec (.octetReceived o) s =
        .next { s with link := { s.link with
          framer := .idle, received := s.link.received ++ [len :: (got ++ [o])] } }) ∧
    (∀ len got, s.link.framer = .receiving (len :: got) → got.length + 1 ≠ len.toNat + 2 →
      exec (.octetReceived o) s =
        .next { s with link := { s.link with framer := .receiving (len :: (got ++ [o])) } }) ∧
    exec .framingFault s = .next { s with link := { s.link with framer := .idle } } ∧
    exec .frameGapTimeout s = .next { s with link := { s.link with framer := .idle } }

/-- Any message framed as the part frames its own (Table 7-2) is collected by an idle framer, octet by octet, handed
over whole, and passes the check of R135 (R133, R134). -/
def Obligations.FramedMessageIsCollected : Prop :=
  ∀ (m : OutMessage) (s : State), m.body.length ≤ 248 → s.held = false → s.link.framer = .idle →
    Host.Core.run Sys2Proof.core (m.body.length + 6)
        ({ s with pending := (frameOctets m).map Instr.octetReceived ++ s.pending } : State) =
      .next ({ s with link := { s.link with received := s.link.received ++ [(frameOctets m).tail] } } : State) ∧
    framePasses (frameOctets m).tail = true ∧ frameKind (frameOctets m).tail = m.kind.code ∧
    frameTag (frameOctets m).tail = m.tag ∧ frameBody (frameOctets m).tail = m.body

/-- A frame that fails its check is discarded and tallied, and nothing else happens (R135, R139). -/
def Obligations.BadFrameIsTallied : Prop :=
  ∀ (f : List Octet) (rest : List (List Octet)) (s : State),
    s.held = false → s.link.received = f :: rest →
    octets2 (crc16 (f.take (f.length - 2))).toNat ≠ f.drop (f.length - 2) →
    exec .cabinetCrc s =
      .next { s with link := { s.link with received := rest, crcErrors := min 65535 (s.link.crcErrors + 1) } }

/-- An asked message that passes its check is discarded while a restart is pending (R145), joins the queue while fewer
than 4 are unanswered, and is otherwise an overrun, tallied and latched (R136): a clear latch takes the present instant,
and its NOTICE joins when its mask is open and fewer than 10 messages are queued, and is dropped and tallied at 10
(R166, R138). -/
def Obligations.AskedMessageQueuedOrOverrun : Prop :=
  ∀ (f : List Octet) (rest : List (List Octet)) (s : State),
    s.held = false → s.link.received = f :: rest → framePasses f = true → frameKind f ≠ 0x20 → frameKind f ≠ 0x21 →
    (s.link.restart.isSome = true → exec .askedMessageArrival s = .next (s.heard rest)) ∧
    (s.link.restart = none → s.unanswered < 4 →
      exec .askedMessageArrival s =
        .next { s with link := { s.link with
          received := rest,
          asked := s.link.asked ++ [{ kind := frameKind f, tag := frameTag f, body := frameBody f }] } }) ∧
    (s.link.restart = none → 4 ≤ s.unanswered →
      (s.notices.latches.hostOverrun.isSome = true →
        exec .askedMessageArrival s =
          .next { s with link := { s.link with received := rest, overruns := min 65535 (s.link.overruns + 1) } }) ∧
      (s.notices.latches.hostOverrun = none →
        exec .askedMessageArrival s =
          .next { s with
            notices := { s.notices with latches := { s.notices.latches with
              hostOverrun := some { detail := 0, time := s.now } } },
            link := { s.link with
              received := rest, overruns := min 65535 (s.link.overruns + 1),
              outbound :=
                if s.notices.mask.hostOverrun = true ∧ s.link.outbound.length < 10 then
                  s.link.outbound ++ [{ kind := .notice, tag := 0, body := 9 :: 255 :: 0 :: octets4 s.now.toNat,
                                        final := false }]
                else s.link.outbound,
              noticesDropped :=
                if s.notices.mask.hostOverrun = true ∧ 10 ≤ s.link.outbound.length then
                  min 65535 (s.link.noticesDropped + 1)
                else s.link.noticesDropped } }))

/-- An asked message of no asked kind receives UNKNOWN_KIND, and one of a fixed-length kind with another length
BAD_LENGTH; nothing else is done (R137, R170). That each row of SET_MODE and of RESTART judges a wrong length is the
model's choice (log entry 10). -/
def Obligations.UnknownKindAndBadLength : Prop :=
  ∀ (m : AskedMessage) (rest : List AskedMessage) (s : State), s.takes m rest →
    ((m.kind.toNat = 0 ∨ 16 < m.kind.toNat) → exec .unknownKind s = .next (s.answered m rest 2 [])) ∧
    (∀ c k n,
      (c, k, n) ∈ ([(.readConfig, 2, 2), (.setModeStandby, 3, 2), (.setModeMonitor, 3, 2), (.setModeRun, 3, 2),
        (.readStatus, 4, 0), (.listRequests, 5, 2), (.readRequest, 6, 2), (.cancelRequest, 7, 2), (.readOutcomes, 8, 1),
        (.programCounter, 9, 5), (.readCounters, 10, 1), (.readSummary, 11, 0), (.setNoticeMask, 12, 23),
        (.linkControl, 14, 4), (.injectTelegram, 15, 16), (.restart, 16, 1), (.factory, 16, 1)] :
          List (Instr × Nat × Nat)) →
      m.kind.toNat = k → m.body.length ≠ n → exec c s = .next (s.answered m rest 3 []))

/-- The last octet of the head message leaves the line: its place is freed, and a PRIORITY_COMMAND leaves a report with
the answer due time, T_ans in tenths rounded up from now (R138, R89). The final REPLY of a restart is another
statement. -/
def Obligations.OutboundFrameSentFreesPlace : Prop :=
  ∀ (m : OutMessage) (rest : List OutMessage) (s : State),
    s.held = false → s.link.outbound = m :: rest → m.final = false →
    exec .outboundFrameSent s =
      .next { s with link := { s.link with
        outbound := rest,
        reports := if m.kind = .priorityCommand then
            s.link.reports ++ [{ tag := m.tag.toNat,
                                 due := s.now + BitVec.ofNat 32 ((s.config.general.tAns + 99) / 100) }]
          else s.link.reports } }

/-- The report of a command's transmission sets the answer due time of the command in the slot, and changes nothing for
one that no longer stands there (R89). -/
def Obligations.TransmissionSetsAnswerDue : Prop :=
  ∀ (r : TransmitReport) (rest : List TransmitReport) (s : State), s.held = false → s.link.reports = r :: rest →
    (∀ c, s.planner.slot = some c → c.tag = r.tag → c.due = none →
      exec .commandTransmitted s =
        .next { s with link := { s.link with reports := rest },
                       planner := { s.planner with slot := some { c with due := some r.due } } }) ∧
    ((∀ c, s.planner.slot = some c → c.tag ≠ r.tag) →
      exec .commandTransmitted s = .next { s with link := { s.link with reports := rest } })

/-! ### Signal model -/

/-- Told messages that cannot be used are discarded without a reply. A PHASE_STATUS of a wrong length, or naming no
phase of the intersection or no interval, is counted as BAD_STATUS (R47, R162). A COMMAND_ANSWER of a wrong length,
or whose verdict or reason has no name, is counted by no event; a well-formed one whose tag is neither that of the
slot nor the lost tag counts ANSWER with LATE, of no source (R90). Nothing else changes, no pass is triggered, and
no latch but COUNTER_SATURATED is set, and that only by the counting. -/
def Obligations.UnusableToldMessagesDiscarded : Prop :=
  ∀ (f : List Octet) (rest : List (List Octet)) (s : State),
    (s.hears 0x20 f rest →
      ((frameBody f).length ≠ 7 ∨ (bodyOctet (frameBody f) 1).toNat = 0 ∨
        s.config.phases.length < (bodyOctet (frameBody f) 1).toNat ∨ 2 < (bodyOctet (frameBody f) 2).toNat) →
      ∃ t, exec .phaseStatus s = .next t ∧
        t.sameButSaturation { s.heard rest with stats := s.counted .badStatus 0 none }) ∧
    (s.hears 0x21 f rest →
      ((frameBody f).length ≠ 5 ∨ 2 < (bodyOctet (frameBody f) 1).toNat ∨ 1 < (bodyOctet (frameBody f) 4).toNat →
        exec .commandAnswer s = .next (s.heard rest)) ∧
      ((frameBody f).length = 5 → (bodyOctet (frameBody f) 1).toNat ≤ 2 → (bodyOctet (frameBody f) 4).toNat ≤ 1 →
        (∀ c, s.planner.slot = some c → c.tag ≠ (bodyOctet (frameBody f) 0).toNat) →
        (∀ m, s.planner.lost = some m → m.tag ≠ (bodyOctet (frameBody f) 0).toNat) →
        ∃ t, exec .commandAnswer s = .next t ∧
          t.sameButSaturation { s.heard rest with stats := s.counted .answer 4 none }))

/-- A valid PHASE_STATUS replaces the anchor whole (R48), sets the model state from its own content (R50), starts the
review timer on entering TRACKING and stops it on leaving (R67), latches SIGNAL_MODEL on a change only (R52), and is a
pass trigger (R54). -/
def Obligations.ValidStatusAnchors : Prop :=
  ∀ (f : List Octet) (rest : List (List Octet)) (plan phase interval hi lo flags mask : Octet) (i : Interval)
    (m : ModelState) (s : State), s.hears 0x20 f rest → frameBody f = [plan, phase, interval, hi, lo, flags, mask] →
    1 ≤ phase.toNat → phase.toNat ≤ s.config.phases.length → interval.toNat = i.code →
    m = (if flags.getLsbD 1 then .inhibited
         else if s.config.plans.any (fun p => p.id == plan.toNat) then .tracking else .unknownPlan) →
    ∃ t, exec .phaseStatus s = .next t ∧
      t.sameButNotices { s.heard rest with
        table := t.table, planner := t.planner,
        model :=
          { state := m,
            anchor := some { plan := plan.toNat, phase := phase.toNat, interval := i,
                             elapsed := hi.toNat * 256 + lo.toNat, arrival := s.now,
                             pedCalls := mask &&& BitVec.ofNat 8 (2 ^ s.config.phases.length - 1),
                             inhibit := flags.getLsbD 1 } } } ∧
      t.notices.latches.signalModel =
        (if s.model.state = m ∨ s.notices.latches.signalModel.isSome then s.notices.latches.signalModel
         else some { detail := m.code, time := s.now }) ∧
      t.planner.review =
        (if s.model.state = m then s.planner.review
         else if m = .tracking then some (s.now + 10)
         else if s.model.state = .tracking then none else s.planner.review) ∧
      (s.mode ≠ .standby → s.planner.passRunning = false → t.planner.passDue = true) ∧
      t.planner.slot = s.planner.slot ∧ t.planner.lost = s.planner.lost ∧
      t.planner.tagCounter = s.planner.tagCounter ∧ t.table.map Entry.bus = s.table.map Entry.bus

/-- A valid status with the cycle-start flag, the model having been outside NO_STATUS, refills tokens (R83) and renews
the ledger (R84); a valid status without the flag, or in NO_STATUS, leaves tokens, refill counters and ledger (R53). -/
def Obligations.CycleStartRefillsAndRenews : Prop :=
  ∀ (f : List Octet) (rest : List (List Octet)) (plan phase interval hi lo flags mask : Octet) (i : Interval)
    (s : State), s.hears 0x20 f rest → frameBody f = [plan, phase, interval, hi, lo, flags, mask] →
    1 ≤ phase.toNat → phase.toNat ≤ s.config.phases.length → interval.toNat = i.code →
    ∃ t, exec .phaseStatus s = .next t ∧
      (flags.getLsbD 0 = true ∧ s.model.state ≠ .noStatus →
        t.planner.ledger = { timeLimit := s.config.general.bCycle, grantLimit := s.config.general.gCycle,
                             committed := 0, leads := 0, reservation := none } ∧
        ∀ x,
          (s.planner.refills.get x + 1 < (s.config.approaches.get x).refill →
            t.planner.refills.get x = s.planner.refills.get x + 1 ∧
            t.planner.tokens.get x = s.planner.tokens.get x) ∧
          ((s.config.approaches.get x).refill ≤ s.planner.refills.get x + 1 →
            t.planner.refills.get x = 0 ∧
            t.planner.tokens.get x =
              if s.planner.tokens.get x < (s.config.approaches.get x).kMax then s.planner.tokens.get x + 1
              else s.planner.tokens.get x)) ∧
      (flags.getLsbD 0 = false ∨ s.model.state = .noStatus →
        t.planner.ledger = s.planner.ledger ∧ t.planner.tokens = s.planner.tokens ∧
        t.planner.refills = s.planner.refills)

/-- A valid status decides the life of the active grant: a RUNNING grant closes, its members going to SPENT, when its
phase is not shown in GREEN (R99, R101); an ARMED one closes unused when the status takes the model out of TRACKING, and
otherwise becomes RUNNING at its green once it has been seen out of green (R100). -/
def Obligations.StatusDecidesGrant : Prop :=
  ∀ (f : List Octet) (rest : List (List Octet)) (plan phase interval hi lo flags mask : Octet) (i : Interval)
    (g : Grant) (s : State), s.hears 0x20 f rest → frameBody f = [plan, phase, interval, hi, lo, flags, mask] →
    1 ≤ phase.toNat → phase.toNat ≤ s.config.phases.length → interval.toNat = i.code →
    s.planner.grant = some g →
    ∃ t, exec .phaseStatus s = .next t ∧
      (g.state = .running → phase.toNat = g.phase ∧ i = .green →
        t.planner.grant = some g ∧ t.table = s.table) ∧
      (g.state = .running → ¬(phase.toNat = g.phase ∧ i = .green) →
        t.planner.grant = none ∧
        t.planner.revise = (s.planner.revise.bind fun r => if r.grantId = g.id then none else some r) ∧
        t.table = s.table.map fun e =>
          if e.bus ∈ g.members then
            { e with state := .spent, reason := none, indication := .none, closeTime := some s.now,
                     grantRan := some true }
          else e) ∧
      (g.state = .armed → s.model.state = .tracking → t.model.state ≠ .tracking →
        t.planner.grant = none ∧
        t.table = s.table.map fun e =>
          if e.bus ∈ g.members then
            { e with state := .spent, reason := none, indication := .none, closeTime := some s.now,
                     grantRan := some false }
          else e) ∧
      (g.state = .armed → t.model.state = .tracking →
        t.table = s.table ∧
        t.planner.grant = some
          (if phase.toNat = g.phase ∧ i = .green then
             if g.outSeen = some true then { g with state := .running, armLimit := none, outSeen := none } else g
           else { g with outSeen := some true }))

/-- The stale timer takes a model that follows the controller to STALE at the anchor's arrival plus T_sig, keeping the
anchor, latching SIGNAL_MODEL, stopping the review timer and closing an ARMED grant (R51, R52, R67, R100). That the
command has no effect before that instant is the model's choice (log entry 4). -/
def Obligations.StaleTimerExpires : Prop :=
  ∀ (a : Anchor) (s : State), s.held = false → s.model.anchor = some a → s.model.state ≠ .noStatus →
    s.model.state ≠ .stale →
    ((s.now - (a.arrival + BitVec.ofNat 32 (10 * s.config.general.tSig))).toNat < 2147483648 →
      ∃ t, exec .staleTimer s = .next t ∧ t.model = { state := .stale, anchor := some a } ∧
        t.notices.latches.signalModel =
          (if s.notices.latches.signalModel.isSome then s.notices.latches.signalModel
           else some { detail := 4, time := s.now }) ∧
        t.sameButNotices { s with model := t.model, planner := t.planner, table := t.table } ∧
        (s.model.state ≠ .tracking → t.planner = s.planner ∧ t.table = s.table) ∧
        (s.model.state = .tracking → (∀ g, s.planner.grant = some g → g.state = .running) →
          t.planner = { s.planner with review := none } ∧ t.table = s.table) ∧
        (∀ g, s.model.state = .tracking → s.planner.grant = some g → g.state = .armed →
          t.planner = { s.planner with
            review := none, grant := none,
            revise := s.planner.revise.bind fun r => if r.grantId = g.id then none else some r } ∧
          t.table = s.table.map fun e =>
            if e.bus ∈ g.members then
              { e with state := .spent, reason := none, indication := .none, closeTime := some s.now,
                       grantRan := some false }
            else e)) ∧
    (2147483648 ≤ (s.now - (a.arrival + BitVec.ofNat 32 (10 * s.config.general.tSig))).toNat →
      exec .staleTimer s = .next s)

/-! ### Planner -/

/-- The review timer restarts for 1.0 s at its expiry and triggers a pass (R67); the lost tag is forgotten at its forget
time (R95). -/
def Obligations.ReviewAndForgetTimers : Prop :=
  ∀ (s : State), s.held = false →
    (∀ d, s.planner.review = some d → (s.now - d).toNat < 2147483648 → s.mode ≠ .standby →
      s.planner.passRunning = false →
      exec .reviewTimer s =
        .next { s with planner := { s.planner with review := some (s.now + 10), passDue := true } }) ∧
    (∀ m, s.planner.lost = some m → (s.now - m.forget).toNat < 2147483648 →
      exec .lostTagForget s = .next { s with planner := { s.planner with lost := none } })

/-- A pass outside TRACKING sets every COVERED or WAITING entry to WAITING with SUSPENDED and does nothing else; the
pass is no longer due (R68, R66). -/
def Obligations.SuspendedPassOnlySuspends : Prop :=
  ∀ (s : State), s.held = false → s.planner.passDue = true → s.planner.passMark = false → s.mode ≠ .standby →
    s.model.state ≠ .tracking →
    exec .planningPass s =
      .next { s with
        table := s.table.map fun e =>
          if e.state = .covered ∨ e.state = .waiting then
            { e with state := .waiting, reason := some .suspended, indication := .wait }
          else e,
        planner := { s.planner with passDue := false, passMark := false, passRunning := false } }

/-- In a TRACKING pass that finds the slot empty and a revise pending, the revise is sent as a REVISE with role LEAD and
is no longer pending; no entry becomes COMMANDED and the ledger is untouched. A pass that finds the slot occupied
sends nothing and keeps the revise (R81, R89, R104). The outbound queue gains that one command and NOTICEs of
counters at their limit; no latch but COUNTER_SATURATED is set. In a sound state (phases and horizon in range, no bus
twice) every entry is evaluated and placed as R26 and R27 say and then classified against the projection of R55 to R61:
COVERED as R70 says, else WAITING with the reason of R71 to R77, a candidate at GRANT_BUSY; the counters take the
COVERED_BYPASS and TOKEN_EMPTY events and COMMAND_SENT of the revise. The order of the events is log entry 34's. -/
def Obligations.ReviseOutranksCandidates : Prop :=
  ∀ (a : Anchor) (p : Plan) (s : State), s.held = false → s.planner.passDue = true → s.planner.passMark = false →
    s.mode ≠ .standby → s.trackedPlan = some (a, p) →
    (∀ r, s.planner.slot = none → s.planner.revise = some r →
      ∃ t, exec .planningPass s = .next t ∧
        t.planner = { s.planner with
          slot := some
            { tag := nextTag s.planner.tagCounter s.planner.lost, action := .revise, phase := r.phase,
              amount := r.total, grantId := r.grantId, role := .lead, bus := none, approach := r.approach,
              commandTime := none, etaAtCommand := none, due := none },
          revise := none, tagCounter := nextTag s.planner.tagCounter s.planner.lost, passDue := false,
          passMark := false, passRunning := false } ∧
        t = { s with
          planner := t.planner, table := t.table, stats := { s.stats with counters := t.stats.counters },
          notices := { s.notices with latches := t.notices.latches },
          link := { s.link with outbound := t.link.outbound, noticesDropped := t.link.noticesDropped } } ∧
        (∀ e ∈ t.table, e.state = .commanded → ∃ q ∈ s.table, q.bus = e.bus ∧ q.state = .commanded) ∧
        joinedBy t.link.outbound s.link.outbound
          { kind := .priorityCommand, tag := octet (nextTag s.planner.tagCounter s.planner.lost), final := false,
            body := [3, octet r.phase, octet (r.total / 256), octet r.total, octet r.grantId, 1] } ∧
        t.latchesStay s []) ∧
    (∀ c, s.planner.slot = some c →
      ∃ t, exec .planningPass s = .next t ∧
        t.planner = { s.planner with passDue := false, passMark := false, passRunning := false } ∧
        t.sameButReports { s with planner := t.planner, table := t.table }) ∧
    (s.RingSound → (s.table.map Entry.bus).Nodup → s.planner.slot.isSome = true ∨ s.planner.revise.isSome = true →
      ∃ (t : State) (now : Entry → Entry), exec .planningPass s = .next t ∧ (∀ e ∈ s.table, s.evaluates e (now e)) ∧
        let l := s.table.map now
        let sent : List (EventKind × Nat × Option Source) :=
          match s.planner.slot, s.planner.revise with
          | none, some r => [(.commandSent, 2, some (.port r.approach))]
          | _, _ => []
        t.table = l.map (s.settles a p l) ∧
        t.stats.counters = (s.countedAll (s.passEvents a p l ++ sent)).counters)

/-- A TRACKING pass with the slot empty and no revise pending does nothing beyond classification, or hands over one
command for an entry that becomes COMMANDED, within the phase's limit and the ledger's. In RUN with no grant it is a
lead: tag and grant id the next tag, the approach holding a token, an ADVANCE no shorter than A_min; amount
reserved, one lead charged, sent total raised (R72, R73, R76, R80, R85, R89). With a grant it is a follower: only
beside a RUNNING real grant of its phase with fewer than five members, the grant's total and the need within the
phase's limit; no lead charged (R77). The outbound queue gains that one PRIORITY_COMMAND and NOTICEs. In MONITOR
nothing is sent: the lead becomes a shadow grant at once, its token taken, with TOKENS_EXHAUSTED at the last (R82);
the follower joins a shadow grant, raising its total (R106). In a sound state (phases and horizon in range, no bus
twice) every entry is evaluated and placed (R26, R27) and then classified against the projection of R55 to R61:
COVERED as R70 says, else WAITING for the reason of R71 to R77, or a candidate for the action and amount of R72, R73
and R77, protection judged on the trial projection (R74, R75). With no candidate nothing is handed over; else the
candidate of highest score, smallest window end and oldest admission is (R80), the others wait at GRANT_BUSY, and
COVERED_BYPASS, TOKEN_EMPTY and COMMAND_SENT are counted, in log entry 34's order. -/
def Obligations.PassSendsAtMostOneLead : Prop :=
  ∀ (a : Anchor) (p : Plan) (s : State), s.held = false → s.planner.passDue = true → s.planner.passMark = false →
    s.mode ≠ .standby → s.trackedPlan = some (a, p) → s.planner.slot = none → s.planner.revise = none →
    ∃ t, exec .planningPass s = .next t ∧
      t = { s with
        planner := t.planner, table := t.table, stats := t.stats,
        notices := { s.notices with latches := t.notices.latches },
        link := { s.link with outbound := t.link.outbound, noticesDropped := t.link.noticesDropped } } ∧
      let ended := { s.planner with passDue := false, passMark := false, passRunning := false }
      let tag := nextTag s.planner.tagCounter s.planner.lost
      let nothing := t.planner = ended ∧ t.latchesStay s [] ∧
        t.sameButReports { s with planner := t.planner, table := t.table }
      let fits := fun n : Nat =>
        s.planner.ledger.committed + n ≤ max s.planner.ledger.timeLimit s.planner.ledger.committed
      let leads := fun (act : Action) (n : Nat) (e : Entry) =>
        s.planner.tokens.get e.approach ≠ 0 ∧ s.planner.ledger.leads < s.planner.ledger.grantLimit ∧ fits n ∧
          (act = .extend → n ≤ (s.config.phase e.phase).maxExtend) ∧
          (act = .advance → n ≤ (s.config.phase e.phase).maxAdvance ∧ s.config.general.aMin ≤ n)
      let follows := fun (g : Grant) (n : Nat) (e : Entry) =>
        g.state = .running ∧ g.phase = e.phase ∧ g.members.length < 5 ∧
          g.total + n ≤ (s.config.phase e.phase).maxExtend ∧ fits n
      let asked := fun (act : Action) (n : Nat) (e : Entry) =>
        e ∈ t.table ∧ e.action = some act ∧ e.requested = some n ∧ e.commandTime = some s.now ∧
          e.etaAtCommand = some e.est.eta
      let sent := fun (c : Slot) (act : Action) (e : Entry) =>
        t.planner.slot = some c ∧ c.tag = tag ∧ c.action = .adjust act ∧ c.bus = some e.bus ∧ c.approach = e.approach ∧
          c.phase = e.phase ∧ c.commandTime = some s.now ∧ c.etaAtCommand = some e.est.eta ∧ c.due = none ∧
          asked act c.amount e ∧ e.state = .commanded ∧ e.indication = .wait ∧ e.applied = none ∧ t.latchesStay s [] ∧
          joinedBy t.link.outbound s.link.outbound
            { kind := .priorityCommand, tag := octet tag, final := false,
              body := [octet (actionCode (some act)), octet c.phase, octet (c.amount / 256), octet c.amount,
                octet c.grantId, octet (roleCode (some c.role))] }
      (s.mode = .run → s.planner.grant = none →
        nothing ∨ ∃ c act e, sent c act e ∧ leads act c.amount e ∧ c.role = .lead ∧ c.grantId = tag ∧
          t.stats.totals = { s.stats.totals with sent := min 4294967295 (s.stats.totals.sent + 1) } ∧
          t.planner = { ended with
            slot := some c, tagCounter := tag,
            ledger := { s.planner.ledger with
              committed := s.planner.ledger.committed + c.amount, leads := s.planner.ledger.leads + 1,
              reservation := some { amount := c.amount, role := .lead } } }) ∧
      (∀ g, s.mode = .run → s.planner.grant = some g →
        nothing ∨ ∃ c e, sent c .extend e ∧ follows g c.amount e ∧ g.shadow = false ∧ c.role = .follower ∧
          c.grantId = g.id ∧ t.stats.totals = s.stats.totals ∧
          t.planner = { ended with
            slot := some c, tagCounter := tag,
            ledger := { s.planner.ledger with
              committed := s.planner.ledger.committed + c.amount,
              reservation := some { amount := c.amount, role := .follower } } }) ∧
      (s.mode = .monitor → s.planner.grant = none →
        nothing ∨ ∃ n act e, asked act n e ∧ leads act n e ∧ e.state = .granted ∧ e.indication = .granted ∧
          e.applied = some n ∧ e.role = some .lead ∧ e.shadow = true ∧
          t.latchesStay s [.tokensExhausted e.approach] ∧ t.tookToken s e.approach ∧
          t.sameButReports { s with planner := t.planner, table := t.table } ∧
          t.planner = { ended with
            tagCounter := tag, tokens := s.planner.tokens.set e.approach (s.planner.tokens.get e.approach - 1),
            ledger := { s.planner.ledger with
              committed := s.planner.ledger.committed + n, leads := s.planner.ledger.leads + 1, reservation := none },
            grant := some
              { id := tag, action := act, phase := e.phase, requested := n, applied := n,
                total := if act = .extend then n else 0, members := [e.bus],
                state := if act = .extend then .running else .armed, acceptTime := s.now, shadow := true,
                armLimit := if act = .extend then none else some (s.now + BitVec.ofNat 32 p.cycle),
                outSeen := if act = .extend then none else some (!s.anchorGreen e.phase),
                approach := e.approach } }) ∧
      (∀ g, s.mode = .monitor → s.planner.grant = some g → (g.shadow = true → s.anchorGreen g.phase = true) →
        nothing ∨ ∃ n e, asked .extend n e ∧ follows g n e ∧ g.shadow = true ∧ e.state = .granted ∧
          e.indication = .granted ∧ e.applied = some n ∧ e.role = some .follower ∧ e.shadow = true ∧
          t.latchesStay s [] ∧ t.sameButReports { s with planner := t.planner, table := t.table } ∧
          t.planner = { ended with
            tagCounter := tag, grant := some { g with total := g.total + n, members := g.members ++ [e.bus] },
            ledger := { s.planner.ledger with
              committed := s.planner.ledger.committed + n, reservation := none } }) ∧
      (s.RingSound → (s.table.map Entry.bus).Nodup →
        ∃ now : Entry → Entry, (∀ e ∈ s.table, s.evaluates e (now e)) ∧
          let l := s.table.map now
          ((∀ e act n, ¬s.offers a p l e act n) →
            nothing ∧ t.table = l.map (s.settles a p l) ∧
            t.stats.counters = (s.countedAll (s.passEvents a p l)).counters) ∧
          ∀ front e back act n, l = front ++ e :: back → s.offers a p l e act n →
            (∀ f ∈ front, ∀ act' n', s.offers a p l f act' n' →
              f.est.score < e.est.score ∨ f.est.score = e.est.score ∧ e.est.winEnd < f.est.winEnd) →
            (∀ f ∈ back, ∀ act' n', s.offers a p l f act' n' →
              f.est.score < e.est.score ∨ f.est.score = e.est.score ∧ e.est.winEnd ≤ f.est.winEnd) →
            let left := fun chosen : Entry => l.map fun q => if q.bus = e.bus then chosen else s.settles a p l q
            let asked := e.asCommanded act n s.now
            let kind := if s.planner.grant.isSome = true then 3 else if act = .extend then 0 else 1
            (s.mode = .run →
              (∃ c, t.planner.slot = some c ∧ c.bus = some e.bus ∧ c.action = .adjust act ∧ c.amount = n) ∧
              t.table = left asked ∧
              t.stats.counters =
                (s.countedAll (s.passEvents a p l ++ [(.commandSent, kind, some (.port e.approach))])).counters) ∧
            (s.mode = .monitor →
              (∀ g, s.planner.grant = some g → g.shadow = true → s.anchorGreen g.phase = true) →
              (∃ g, t.planner.grant = some g ∧ e.bus ∈ g.members) ∧
              t.table = left (asked.asGranted (if s.planner.grant.isSome = true then .follower else .lead) n true) ∧
              t.stats.counters = (s.countedAll (s.passEvents a p l)).counters))

/-! ### Command exchange -/

/-- An ACCEPT, or a PARTIAL of more than 0, to the lead extension in the slot, whose entry stands COMMANDED and whose
phase the anchor shows in GREEN: the slot empties, the reservation converts, a token is taken, the grant is created with
the entry as its one member, and the entry is GRANTED (R90, R91, R82, R86). The taking of the last token latches
TOKENS_EXHAUSTED, and no other latch but COUNTER_SATURATED is set (R82). That the message at the head of the outbound
queue is the one in transmission, which is not withdrawn, is read from the spec by inference (log entry 6). -/
def Obligations.LeadExtensionAccepted : Prop :=
  ∀ (f : List Octet) (rest : List (List Octet)) (tag v hi lo r : Octet) (c : Slot) (b : Nat) (e : Entry)
    (n : Nat) (s : State), s.hears 0x21 f rest → frameBody f = [tag, v, hi, lo, r] → r.toNat ≤ 1 →
    s.planner.slot = some c → c.tag = tag.toNat → c.action = .adjust .extend → c.role = .lead → c.bus = some b →
    s.findEntry b = some e → e.state = .commanded → s.anchorGreen c.phase = true →
    (v = 0 ∧ n = c.amount ∨ v = 1 ∧ 0 < hi.toNat * 256 + lo.toNat ∧ n = min (hi.toNat * 256 + lo.toNat) c.amount) →
    ∃ t, exec .commandAnswer s = .next t ∧
      t.sameButNotices { s.heard rest with
        planner := { s.planner with
          slot := none,
          grant := some
            { id := c.grantId, action := .extend, phase := c.phase, requested := c.amount, applied := n, total := n,
              members := [b], state := .running, acceptTime := s.now, shadow := false, armLimit := none,
              outSeen := none, approach := c.approach },
          ledger := match s.planner.ledger.reservation with
            | some q => { s.planner.ledger with
                committed := s.planner.ledger.committed - (q.amount - n), reservation := none }
            | none => s.planner.ledger,
          tokens := s.planner.tokens.set c.approach (s.planner.tokens.get c.approach - 1),
          passDue := t.planner.passDue, passMark := t.planner.passMark },
        stats :=
          { s.counted .answer v.toNat (some (.port c.approach)) with
            totals :=
              if v = 0 then { s.stats.totals with accepted := min 4294967295 (s.stats.totals.accepted + 1) }
              else { s.stats.totals with answeredPartly := min 4294967295 (s.stats.totals.answeredPartly + 1) } },
        table := s.table.map fun q =>
          if q.bus = b ∧ q.state = .commanded then
            { q with state := .granted, reason := none, indication := .granted, applied := some n, role := some .lead,
                     shadow := false }
          else q,
        link := { s.link with received := rest, outbound := removeUnsent c.tag s.link.outbound } } ∧
      (s.mode ≠ .standby → s.planner.passRunning = false → t.planner.passDue = true) ∧
      t.tookToken s c.approach ∧ t.latchesStay s [.tokensExhausted c.approach]

/-- A refusal of the lead or follower command in the slot: the slot empties, the reservation is released, and the
attempts of its entry, if that still stands COMMANDED, rise; it is DENIED when the reason is FIRM or the attempts
are used up, and WAITING otherwise. With the entry gone the table stays. No token is taken (R90, R93, R86). That the
head of the outbound queue is the message in transmission, and that only a COMMANDED entry of the bus is the command's,
so that a bus admitted anew stays as it is, are inferences of log entries 6 and 9. -/
def Obligations.CommandRefused : Prop :=
  ∀ (f : List Octet) (rest : List (List Octet)) (tag v hi lo r : Octet) (c : Slot) (act : Action) (b : Nat)
    (s : State), s.hears 0x21 f rest → frameBody f = [tag, v, hi, lo, r] → r.toNat ≤ 1 →
    s.planner.slot = some c → c.tag = tag.toNat → c.action = .adjust act → c.bus = some b →
    (v = 2 ∨ v = 1 ∧ hi.toNat * 256 + lo.toNat = 0) →
    ∃ t, exec .commandAnswer s = .next t ∧
      t.sameButNotices { s.heard rest with
        planner := { s.planner with
          slot := none,
          ledger := match s.planner.ledger.reservation with
            | some q => { s.planner.ledger with
                committed := s.planner.ledger.committed - q.amount,
                leads := if q.role = .lead then s.planner.ledger.leads - 1 else s.planner.ledger.leads,
                reservation := none }
            | none => s.planner.ledger,
          passDue := t.planner.passDue, passMark := t.planner.passMark },
        stats :=
          { s.counted .answer 2 (some (.port c.approach)) with
            totals :=
              if c.role = .lead then { s.stats.totals with refused := min 4294967295 (s.stats.totals.refused + 1) }
              else s.stats.totals },
        table := s.table.map fun q =>
          if q.bus = b ∧ q.state = .commanded then
            if (v = 2 ∧ r = 1) ∨ s.config.general.maxAttempts ≤ q.attempts + 1 then
              { q with attempts := q.attempts + 1, state := .denied, reason := none, indication := .denied }
            else
              { q with attempts := q.attempts + 1, state := .waiting, reason := some .needsGreen, indication := .wait }
          else q,
        link := { s.link with received := rest, outbound := removeUnsent c.tag s.link.outbound } } ∧
      (s.mode ≠ .standby → s.planner.passRunning = false → t.planner.passDue = true)

/-- The answer due time of a lead or follower command falls due: the slot empties, the reservation is released, the
entry is treated as refused for a TRANSIENT reason, the command becomes the lost tag, TIMEOUT is counted, a lead
adds to the lost total, and a pass is triggered (R94, R95). A REVISE leaves no lost tag (R105). That the head of the
outbound queue is the message in transmission, and that only a COMMANDED entry of the bus is the command's, are
inferences of log entries 6 and 9. -/
def Obligations.AnswerTimeoutLosesCommand : Prop :=
  ∀ (c : Slot) (d : PartTime) (s : State), s.held = false → s.planner.slot = some c → c.due = some d →
    (s.now - d).toNat < 2147483648 →
    ∃ t, exec .answerTimeout s = .next t ∧
      (∀ act, c.action = .adjust act →
        t.sameButNotices { s with
          planner := { s.planner with
            slot := none,
            lost := some
              { tag := c.tag, action := act, phase := c.phase, requested := c.amount, grantId := c.grantId,
                role := c.role, bus := c.bus.getD 0, approach := c.approach, commandTime := c.commandTime.getD 0,
                etaAtCommand := c.etaAtCommand.getD 0,
                forget := s.now + BitVec.ofNat 32 (10 * s.config.general.tLate) },
            ledger := s.planner.ledger.release, passDue := t.planner.passDue, passMark := t.planner.passMark },
          stats :=
            { s.counted .answer 3 (some (.port c.approach)) with
              totals :=
                if c.role = .lead then { s.stats.totals with lost := min 4294967295 (s.stats.totals.lost + 1) }
                else s.stats.totals },
          table := s.table.map fun q =>
            if q.bus = c.bus.getD 0 ∧ q.state = .commanded then
              if s.config.general.maxAttempts ≤ q.attempts + 1 then
                { q with attempts := q.attempts + 1, state := .denied, reason := none, indication := .denied }
              else
                { q with attempts := q.attempts + 1, state := .waiting, reason := some .needsGreen,
                         indication := .wait }
            else q,
          link := { s.link with outbound := removeUnsent c.tag s.link.outbound } }) ∧
      (c.action = .revise →
        t.sameButNotices { s with
          planner := { s.planner with
            slot := none, passDue := t.planner.passDue, passMark := t.planner.passMark },
          stats := s.counted .answer 3 (some (.port c.approach)),
          link := { s.link with outbound := removeUnsent c.tag s.link.outbound } }) ∧
      (s.mode ≠ .standby → s.planner.passRunning = false → t.planner.passDue = true)

/-- The arm limit of an ARMED grant falls due: the grant closes unused, its members go to SPENT without having run, a
pending revise that names it is discarded, and no pass is triggered (R100, R101). -/
def Obligations.ArmLimitClosesUnused : Prop :=
  ∀ (g : Grant) (d : PartTime) (s : State), s.held = false → s.planner.grant = some g → g.state = .armed →
    g.armLimit = some d → (s.now - d).toNat < 2147483648 →
    exec .armLimit s =
      .next { s with
        table := s.table.map fun e =>
          if e.bus ∈ g.members then
            { e with state := .spent, reason := none, indication := .none, closeTime := some s.now,
                     grantRan := some false }
          else e,
        planner := { s.planner with
          grant := none,
          revise := s.planner.revise.bind fun r => if r.grantId = g.id then none else some r } }

/-- The answers to a command beyond a plain lead extension or a refusal. A lead accepted in general: an ADVANCE is ARMED
with its arm limit one cycle on; with the entry gone the grant has no member and a revise to 0 is called for; an EXTEND
whose green is not shown, or an ADVANCE without a cycle length, closes at once (R91, R100, R101). A follower accepted:
the total rises, the entry if still COMMANDED joins, a pending revise of the grant is dropped and the trim test made;
with the grant closed the entry waits (R92, R103). A REVISE answered: the grant closes, or takes the new total (R105). A
late answer to the lost tag: counted LATE, the memory cleared; an acceptance that meets every condition is adopted, any
other revoked, with LATE_ACCEPT and a pass (R96, R97, R104). Each token taken, and only that, may latch
TOKENS_EXHAUSTED, at the last one (R82). Rests on log entries 6, 9, 14 and 19. -/
def Obligations.AcceptancesRevisesAndLateAnswers : Prop :=
  ∀ (f : List Octet) (rest : List (List Octet)) (tag v hi lo r : Octet) (s : State), s.hears 0x21 f rest →
    frameBody f = [tag, v, hi, lo, r] → v.toNat ≤ 2 → r.toNat ≤ 1 → (s.table.map Entry.bus).Nodup →
    let given := hi.toNat * 256 + lo.toNat
    let accepts := fun wanted n : Nat => v = 0 ∧ n = wanted ∨ v = 1 ∧ 0 < given ∧ n = min given wanted
    let passes := fun t : State => s.mode ≠ .standby → s.planner.passRunning = false → t.planner.passDue = true
    let marked : Planner → State → Planner := fun p t =>
      { p with passDue := t.planner.passDue, passMark := t.planner.passMark }
    let kept := match s.planner.slot with
      | some c => removeUnsent c.tag s.link.outbound
      | none => s.link.outbound
    let withdrawn : Link := { s.link with received := rest, outbound := kept }
    let stands := fun (b : Nat) (st : EntryState) => s.table.any fun e => e.bus == b && e.state == st
    let vain := fun (act : Action) (phase : Nat) =>
      act = .extend ∧ s.anchorGreen phase = false ∨ act = .advance ∧ s.cycleLength = none
    let created := fun (id : Nat) (act : Action) (phase wanted n : Nat) (x : Approach) (members : List Nat) =>
      ({ id := id, action := act, phase := phase, requested := wanted, applied := n,
         total := if act = .extend then n else 0, members := members,
         state := if act = .extend then .running else .armed, acceptTime := s.now, shadow := false,
         armLimit := if act = .extend then none else s.cycleLength.map fun k => s.now + BitVec.ofNat 32 k,
         outSeen := if act = .extend then none else some (!s.anchorGreen phase), approach := x } : Grant)
    (∀ c act b n, s.planner.slot = some c → c.tag = tag.toNat → c.action = .adjust act → c.bus = some b →
      accepts c.amount n →
      let counts := s.counted .answer v.toNat (some (.port c.approach))
      let joins := stands b .commanded
      (c.role = .lead →
        ∃ t, exec .commandAnswer s = .next t ∧ passes t ∧ t.latchesStay s [.tokensExhausted c.approach] ∧
          t.tookToken s c.approach ∧
          let planner : Planner := { marked s.planner t with
            slot := none, ledger := s.planner.ledger.convert n,
            tokens := s.planner.tokens.set c.approach (s.planner.tokens.get c.approach - 1) }
          let stats : Statistics := { counts with totals :=
            if v = 0 then { s.stats.totals with accepted := min 4294967295 (s.stats.totals.accepted + 1) }
            else { s.stats.totals with answeredPartly := min 4294967295 (s.stats.totals.answeredPartly + 1) } }
          (¬vain act c.phase →
            t.sameButNotices { s with
              link := withdrawn, stats := stats,
              planner := { planner with
                grant := some (created c.grantId act c.phase c.amount n c.approach (if joins then [b] else [])),
                revise := if joins then s.planner.revise else reviseAfter s.planner.revise
                  { grantId := c.grantId, phase := c.phase, total := 0, approach := c.approach, revoke := false } },
              table := s.table.map fun q : Entry =>
                if q.bus = b ∧ q.state = .commanded then q.asGranted .lead n false else q }) ∧
          (vain act c.phase →
            t.sameButNotices { s with
              link := withdrawn, stats := stats,
              planner := { planner with grant := none, revise := dropNamed s.planner.revise c.grantId },
              table := s.table.map fun q : Entry =>
                if q.bus = b ∧ q.state = .commanded then
                  (q.asGranted .lead n false).asSpent s.now (act == Action.extend)
                else q })) ∧
      (c.role = .follower →
        (∀ g, s.planner.grant = some g → g.id = c.grantId →
          ∃ t, exec .commandAnswer s = .next t ∧ passes t ∧ t.latchesStay s [] ∧
            let g' : Grant := { g with total := g.total + n, members := if joins then g.members ++ [b] else g.members }
            let raised : State := { s with
              link := withdrawn, stats := counts,
              planner := { s.planner with
                slot := none, ledger := s.planner.ledger.convert n, grant := some g',
                revise := dropNamed s.planner.revise g.id },
              table := s.table.map fun q : Entry =>
                if q.bus = b ∧ q.state = .commanded then q.asGranted .follower n false else q }
            raised.trims g' t.table t.planner.grant t.planner.revise ∧
            t.sameButNotices { raised with
              table := t.table,
              planner := { marked raised.planner t with
                grant := t.planner.grant, revise := t.planner.revise } }) ∧
        ((∀ g, s.planner.grant = some g → g.id ≠ c.grantId) →
          ∃ t, exec .commandAnswer s = .next t ∧ passes t ∧ t.latchesStay s [] ∧
            t.sameButNotices { s with
              link := withdrawn, stats := counts,
              planner := { marked s.planner t with slot := none, ledger := s.planner.ledger.convert n },
              table := s.table.map fun q : Entry =>
                if q.bus = b ∧ q.state = .commanded then { q.asWaiting .needsGreen with applied := some n }
                else q }))) ∧
    (∀ c, s.planner.slot = some c → c.tag = tag.toNat → c.action = .revise →
      ∃ t, exec .commandAnswer s = .next t ∧ passes t ∧ t.latchesStay s [] ∧
        let settled : State := { s with
          link := withdrawn, stats := s.counted .answer v.toNat (some (.port c.approach)),
          planner := { marked s.planner t with slot := none } }
        (v = 2 ∨ (∀ g, s.planner.grant = some g → g.id ≠ c.grantId) → t.sameButNotices settled) ∧
        ∀ g, v ≠ 2 → s.planner.grant = some g → g.id = c.grantId →
          (c.amount = 0 →
            t.sameButNotices { settled with
              planner := { settled.planner with grant := none, revise := dropNamed s.planner.revise g.id },
              table := s.table.map fun q : Entry =>
                if q.bus ∈ g.members then q.asSpent s.now (g.state == GrantState.running) else q }) ∧
          (c.amount ≠ 0 → g.state = .running →
            t.sameButNotices { settled with
              planner := { settled.planner with grant := some { g with total := c.amount } } }) ∧
          (c.amount ≠ 0 → g.state = .armed → t.sameButNotices settled)) ∧
    (∀ m, (∀ c, s.planner.slot = some c → c.tag ≠ tag.toNat) → s.planner.lost = some m → m.tag = tag.toNat →
      let heard : State := { s.heard rest with
        stats := s.counted .answer 4 (some (.port m.approach)), planner := { s.planner with lost := none } }
      (v = 2 ∨ v = 1 ∧ given = 0 → ∃ t, exec .commandAnswer s = .next t ∧ t.sameButSaturation heard) ∧
      ∀ n, accepts m.requested n →
        let ready := s.mode = .run ∧ s.planner.slot = none ∧
          n ≤ s.planner.ledger.timeLimit - s.planner.ledger.committed ∧ stands m.bus .waiting = true
        let leads := ready ∧ m.role = .lead ∧ s.planner.grant = none ∧
          s.planner.ledger.leads < s.planner.ledger.grantLimit
        let follows := fun g : Grant => ready ∧ m.role = .follower ∧ g.id = m.grantId ∧ g.state = .running ∧
          g.total + n ≤ (s.config.phase g.phase).maxExtend ∧ g.members.length < 5
        let adopts : Entry → Entry := fun e => { e.asGranted m.role n false with
          action := some m.action, requested := some m.requested, commandTime := some m.commandTime,
          etaAtCommand := some m.etaAtCommand }
        let latches := fun (t : State) (detail : Nat) =>
          t.notices.latches.lateAccept = setOnce s.notices.latches.lateAccept detail s.now ∧
            t.latchesStay s [.lateAccept, .tokensExhausted m.approach]
        let keeps := fun t : State =>
          t.notices.latches.tokensExhausted.get m.approach = s.notices.latches.tokensExhausted.get m.approach
        (leads →
          ∃ t, exec .commandAnswer s = .next t ∧ passes t ∧ latches t 0 ∧ t.tookToken s m.approach ∧
            let planner : Planner := { marked heard.planner t with
              tokens := s.planner.tokens.set m.approach (s.planner.tokens.get m.approach - 1),
              ledger := { s.planner.ledger with
                committed := s.planner.ledger.committed + n, leads := s.planner.ledger.leads + 1 } }
            (¬vain m.action m.phase →
              t.sameButNotices { heard with
                planner := { planner with
                  grant := some (created m.tag m.action m.phase m.requested n m.approach [m.bus]) },
                table := s.table.map fun q : Entry => if q.bus = m.bus then adopts q else q }) ∧
            (vain m.action m.phase →
              t.sameButNotices { heard with
                planner := { planner with revise := dropNamed s.planner.revise m.tag },
                table := s.table.map fun q : Entry =>
                  if q.bus = m.bus then (adopts q).asSpent s.now (m.action == Action.extend) else q })) ∧
        (∀ g, s.planner.grant = some g → follows g →
          ∃ t, exec .commandAnswer s = .next t ∧ passes t ∧ latches t 0 ∧ keeps t ∧
            let g' : Grant := { g with total := g.total + n, members := g.members ++ [m.bus] }
            let raised : State := { heard with
              planner := { heard.planner with
                grant := some g', revise := dropNamed s.planner.revise g.id,
                ledger := { s.planner.ledger with committed := s.planner.ledger.committed + n } },
              table := s.table.map fun q : Entry => if q.bus = m.bus then adopts q else q }
            raised.trims g' t.table t.planner.grant t.planner.revise ∧
            t.sameButNotices { raised with
              table := t.table,
              planner := { marked raised.planner t with
                grant := t.planner.grant, revise := t.planner.revise } }) ∧
        (¬leads → (∀ g, s.planner.grant = some g → ¬follows g) →
          ∃ t, exec .commandAnswer s = .next t ∧ passes t ∧ latches t 1 ∧ keeps t ∧
            t.sameButNotices { heard with
              planner := { marked heard.planner t with
                revise := reviseAfter s.planner.revise
                  { grantId := m.grantId, phase := m.phase, approach := m.approach, revoke := true,
                    total := match m.role, s.planner.grant with
                      | .follower, some g => if g.id = m.grantId then g.total else 0
                      | .follower, none => 0
                      | .lead, _ => 0 } } }))

/-! ### Request table -/

/-- A telegram for a known bus from another approach is discarded as CROSS_APPROACH before its sequence is looked at;
one that is not newer is discarded as DUPLICATE or OUT_OF_ORDER. The entry and the rest of the table stay (R11,
R12). -/
def Obligations.KnownBusTelegramDiscarded : Prop :=
  ∀ (t : Telegram) (e : Entry) (s : State), s.serves t → s.findEntry t.bus = some e →
    ∀ w : Discard,
      (t.approach ≠ e.approach ∧ w = .crossApproach ∨
       t.approach = e.approach ∧ (t.seq + 16 - e.seq % 16) % 16 = 0 ∧ w = .duplicate ∨
       t.approach = e.approach ∧ 8 ≤ (t.seq + 16 - e.seq % 16) % 16 ∧ w = .outOfOrder) →
      ∃ u, exec (telegramRow t) s = .next u ∧
        u.sameButNotices { s with
          intake := s.intake.serve, stats := s.counted .telegramDiscard w.index (some t.source) }

/-- A CHECK_IN or POSITION that is taken. Of a known bus: the entry is replaced, in place, by itself with the motion
fields of R13, the estimate of this instant with the eligibility of R37 and R38, and the place of R10; every other field
stays, and a pass is triggered. The estimate is what R30 to R36 and R40 to R42 give: smoothed speed, distance now,
travel and dwell remainder, ETA and beyond-horizon, coasting, half-width, window and score. Of an unknown bus, after a
miss, or a hit-expired that removes the cache entry (R15): an entry with the fields of R8 joins the tail with the next
admission number, evaluated and placed, NEW when at-stop is clear (R16). At a full table the re-evaluated NEW, FAR or
WATCH entry of the greatest value, the oldest among equals, leaves as EVICTED, not cached, when its value exceeds the
newcomer's; otherwise the newcomer is refused and no pass triggered (R17). -/
def Obligations.ReportUpdatesOrAdmits : Prop :=
  ∀ (t : Telegram) (s : State), s.serves t → (t.kind = .checkIn ∨ t.kind = .position) →
    let passes := fun u : State => s.planner.passRunning = false → u.planner.passDue = true
    let marked : State → Planner := fun u =>
      { s.planner with passDue := u.planner.passDue, passMark := u.planner.passMark }
    (∀ e, s.findEntry t.bus = some e → t.approach = e.approach → 1 ≤ (t.seq + 16 - e.seq % 16) % 16 →
      (t.seq + 16 - e.seq % 16) % 16 ≤ 7 →
      let moved : Entry := { e with
        fromCabinet := t.source == .cabinet, seq := t.seq, tLast := s.now,
        distance := t.distance - t.speed * t.age / 1000, atStop := t.atStop, doorOpen := t.doorOpen,
        dwell := t.dwell, lateness := t.lateness, load := t.load,
        ring := if t.atStop then e.ring else (e.ring ++ [t.speed]).drop (e.ring.length + 1 - 8) }
      ∃ u q el v, exec (telegramRow t) s = .next u ∧
        (s.config.classes.get e.cls).decides e.est.eligibility t.lateness el ∧ s.estimates el moved v ∧
        Entry.placedAs { moved with est := v } q ∧ passes u ∧
        u = { s with
          intake := s.intake.serve, table := s.table.map fun p => if p.bus = t.bus then q else p,
          planner := marked u }) ∧
    ∀ (k : Nat) (cache : List CacheEntry), s.findEntry t.bus = none →
      (s.findCached t.bus = none ∧ k = 1 ∧ cache = s.cache ∨
        (∃ c, s.findCached t.bus = some c ∧ 10 * s.config.general.quietTime ≤ (s.now - c.time).toNat) ∧ k = 2 ∧
          cache = s.cache.filter fun c => c.bus != t.bus) →
      let looked : EventKind × Nat × Option Source := (.cacheLookup, k, some t.source)
      let counted : EventKind × Nat × Option Source :=
        (.admission, if t.kind = .position then 1 else 0, some t.source)
      let admits := fun q : Entry =>
        ∃ el v, (s.config.classes.get q.cls).decides .neutral t.lateness el ∧ s.estimates el (s.newEntry t) v ∧
          Entry.placedAs { s.newEntry t with est := v } q ∧
          q.bus = t.bus ∧ q.route = t.route ∧ q.approach = t.approach ∧
          q.cls = (match s.config.routeMap.find? fun r => r.route == t.route with
            | some r => if t.route = 0 then s.config.general.defaultClass else r.cls
            | none => s.config.general.defaultClass) ∧
          q.movement = t.movement ∧ q.phase = (s.config.movementMap.get t.approach).get t.movement ∧
          q.fromCabinet = (t.source == .cabinet) ∧ q.seq = t.seq ∧ q.admission = s.admissions + 1 ∧
          q.admitTime = s.now ∧ q.admittedByPosition = (t.kind == .position) ∧
          q.ring = (if t.atStop then [] else [t.speed]) ∧ q.distance = t.distance - t.speed * t.age / 1000 ∧
          q.tLast = s.now ∧ q.atStop = t.atStop ∧ q.doorOpen = t.doorOpen ∧ q.dwell = t.dwell ∧
          q.lateness = t.lateness ∧ q.latenessAtAdmission = t.lateness ∧ q.load = t.load ∧ q.est.evalTime = s.now ∧
          q.est.distNow = t.distance - t.speed * t.age / 1000 ∧ q.est.winStart = q.est.eta - q.est.halfWidth ∧
          q.est.winEnd = q.est.eta + q.est.halfWidth ∧ q.est.eta ≤ 2550 ∧
          q.est.score = min 255 ((s.config.classes.get q.cls).weight +
            s.config.general.wLate * (min 300 t.lateness.toNat / 10) + s.config.general.wLoad * t.load) ∧
          q.attempts = 0 ∧ q.action = none ∧ q.requested = none ∧ q.applied = none ∧ q.role = none ∧
          q.commandTime = none ∧ q.etaAtCommand = none ∧ q.closeTime = none ∧ q.grantRan = none ∧ q.shadow = false ∧
          q.classified = false ∧
          (t.atStop = false → q.state = .new ∧ q.reason = none ∧ q.indication = .none) ∧
          (t.atStop = true → q.state = .far ∨ q.state = .watch ∨ q.state = .waiting)
      (s.table.length < 32 →
        ∃ u q, exec (telegramRow t) s = .next u ∧ admits q ∧ passes u ∧
          u.sameButSaturation { s with
            intake := s.intake.serve, cache := cache, table := s.table ++ [q], admissions := s.admissions + 1,
            stats := s.countedAll [looked, counted], planner := marked u }) ∧
      (32 ≤ s.table.length →
        let worth := fun e : Entry => if e.state = .new then 2551 else e.est.eta
        let may := fun e : Entry => e.state = .new ∨ e.state = .far ∨ e.state = .watch
        ∀ (now : Entry → Entry) (table front : List Entry) (victim : Entry) (back : List Entry) (trial : Estimate),
          (∀ e ∈ s.table, (e.state ≠ .far → e.state ≠ .watch → now e = e) ∧
            (e.state = .far ∨ e.state = .watch →
              ∃ v, s.estimates e.est.eligibility e v ∧ now e = { e with est := v })) →
          s.estimates .neutral (s.newEntry t) trial → table = s.table.map now → table = front ++ victim :: back →
          may victim → (∀ e ∈ front, may e → worth e < worth victim) → (∀ e ∈ back, may e → worth e ≤ worth victim) →
          (trial.eta < worth victim →
            ∃ u q r, exec (telegramRow t) s = .next u ∧ admits q ∧ passes u ∧ u.tookRecord s r ∧
              r.isOf victim .evicted s.now ∧ r.arrivalError = none ∧ u.latchesStay s [.outcomesWaiting, .outcomeOverrun] ∧
              u.sameButNotices { s with
                intake := s.intake.serve, cache := cache, outcomes := u.outcomes, admissions := s.admissions + 1,
                table := (table.filter fun e => e.bus != victim.bus) ++ [q],
                stats := s.countedAll
                  [looked, (.close, 7, some (.port victim.approach)), (.evict, 0, some (.port victim.approach)),
                    counted],
                planner := marked u }) ∧
          (worth victim ≤ trial.eta →
            ∃ u, exec (telegramRow t) s = .next u ∧
              u.sameButSaturation { s with
                intake := s.intake.serve, cache := cache, table := table,
                stats := s.countedAll [looked, (.admitReject, 0, some t.source)] }))

/-- An accepted CHECK_OUT or WITHDRAW of a known bus removes the entry, triggers a pass and hands over one record, whole
as Table 9-1 gives it: WITHDRAWN, or the code of the entry's state, counted as CLOSE with the entry's approach (R19 to
R21, R157). At a CHECK_OUT of an entry with a command time the arrival error is the time taken less the ETA at the
command, within 1270 (R158). The record joins a buffer with room, and at 64 records the oldest or
the new one is lost, with the latches of R159. CHECK_OUT places the bus in the
cache, over its old place, a free one, or the one of greatest age (R18); WITHDRAW does not. An entry
that was not GRANTED leaves every other entry and the grant as they were; a GRANTED one leaves its grant, which is
given back when emptied, and trimmed otherwise, by a pending revise or, for a shadow grant, at once (R102 to R104,
R107). -/
def Obligations.KnownBusLeaves : Prop :=
  ∀ (t : Telegram) (e : Entry) (s : State), s.serves t → s.findEntry t.bus = some e →
    (t.kind = .checkOut ∨ t.kind = .withdraw) → t.approach = e.approach →
    1 ≤ (t.seq + 16 - e.seq % 16) % 16 → (t.seq + 16 - e.seq % 16) % 16 ≤ 7 →
    ∃ u r, exec (telegramRow t) s = .next u ∧
      u.table.map Entry.bus = (s.table.map Entry.bus).filter (fun b => b != t.bus) ∧
      u.tookRecord s r ∧ s.departs e u.table u.planner.grant u.planner.revise ∧
      u.latchesStay s [.outcomesWaiting, .outcomeOverrun] ∧
      r.isOf e r.code s.now ∧ r.bus = t.bus ∧
      (t.kind = .withdraw → r.code = .withdrawn ∧ r.arrivalError = none ∧ u.cache = s.cache) ∧
      (t.kind = .checkOut →
        u.findCached t.bus = some { bus := t.bus, approach := e.approach, time := s.now } ∧
        s.caches t.bus e.approach u.cache ∧
        (e.commandTime = none → r.arrivalError = none) ∧
        (∀ c, e.commandTime = some c →
          r.arrivalError = some (max (-1270) (min 1270 (((s.now - c).toNat : Int) - (e.etaAtCommand.getD 0 : Nat))))) ∧
        r.code = (match e.state with
          | .granted => .servedGranted
          | .covered => .servedCovered
          | .denied => .servedDenied
          | .spent =>
            if e.grantRan = some true ∧
                (∃ c, e.closeTime = some c ∧ (s.now - c).toNat ≤ (s.config.phase e.phase).yellow) then .servedGranted
            else .missed
          | .new | .far | .watch | .waiting | .commanded => .servedUnaided)) ∧
      (e.state ≠ .granted →
        u.table = s.table.filter (fun q => q.bus != t.bus) ∧ u.planner.grant = s.planner.grant ∧
        u.planner.revise = s.planner.revise) ∧
      (s.planner.passRunning = false → u.planner.passDue = true) ∧
      let code := ([.servedGranted, .servedCovered, .servedUnaided, .servedDenied, .missed, .withdrawn] :
        List OutcomeCode).idxOf r.code
      u.sameButNotices { s with
        stats := s.counted .close code (some (.port e.approach)), intake := s.intake.serve, table := u.table, cache := u.cache, outcomes := u.outcomes,
        planner := { s.planner with
          grant := u.planner.grant, revise := u.planner.revise, passDue := u.planner.passDue,
          passMark := u.planner.passMark } }

/-- A telegram of an unknown bus that is not admitted: WITHDRAW is discarded, CHECK_OUT is an orphan that enters the
cache as R18 says, a CHECK_IN or POSITION within the quiet time of a cached bus is discarded as STALE_AFTER_CHECKOUT,
and one at a full table with no entry in NEW, FAR or WATCH is rejected. No entry, no record and no pass result (R14,
R15, R17, R18). -/
def Obligations.UnknownBusNotAdmitted : Prop :=
  ∀ (t : Telegram) (s : State), s.serves t → s.findEntry t.bus = none →
    (t.kind = .withdraw →
      ∃ u, exec (telegramRow t) s = .next u ∧
        u.sameButNotices { s with
          intake := s.intake.serve, stats := s.counted .telegramDiscard 8 (some t.source) }) ∧
    (t.kind = .checkOut →
      ∃ u, exec (telegramRow t) s = .next u ∧
        u.findCached t.bus = some { bus := t.bus, approach := t.approach, time := s.now } ∧
        s.caches t.bus t.approach u.cache ∧
        u.sameButNotices { s with
          intake := s.intake.serve, cache := u.cache, stats := s.counted .orphanCheckout 0 (some t.source) }) ∧
    (∀ c, (t.kind = .checkIn ∨ t.kind = .position) → s.findCached t.bus = some c →
      (s.now - c.time).toNat < 10 * s.config.general.quietTime →
      ∃ u, exec (telegramRow t) s = .next u ∧
        u.sameButNotices { s with
          intake := s.intake.serve,
          stats := State.counted { s with stats := s.counted .cacheLookup 0 (some t.source) } .telegramDiscard 7
            (some t.source) }) ∧
    ((t.kind = .checkIn ∨ t.kind = .position) → s.findCached t.bus = none → 32 ≤ s.table.length →
      (∀ e ∈ s.table, e.state ≠ .new ∧ e.state ≠ .far ∧ e.state ≠ .watch) →
      ∃ u, exec (telegramRow t) s = .next u ∧
        u.sameButNotices { s with
          intake := s.intake.serve,
          stats := State.counted { s with stats := s.counted .cacheLookup 1 (some t.source) } .admitReject 0
            (some t.source) })

/-- An entry whose expiry is due leaves as EXPIRED, not entering the cache, its record, whole as Table 9-1 gives
it and without an arrival error, going to the outcome buffer as R159 says, its departure judged as R102 to R107 say;
CLOSE is counted and a pass triggered (R22, R19, R157, R158); a cache entry whose age has reached half the wrap of part
time is removed (R18). -/
def Obligations.EntriesExpireAndCacheAges : Prop :=
  ∀ (b : Nat) (s : State), s.held = false →
    (∀ e, s.findEntry b = some e →
      (s.now - (e.tLast + BitVec.ofNat 32 (10 * (s.config.approaches.get e.approach).tExpire))).toNat < 2147483648 →
      ∃ u r, exec (.entryExpiry b) s = .next u ∧
        u.table.map Entry.bus = (s.table.map Entry.bus).filter (fun q => q != b) ∧
        u.tookRecord s r ∧ s.departs e u.table u.planner.grant u.planner.revise ∧
        u.latchesStay s [.outcomesWaiting, .outcomeOverrun] ∧ r.isOf e .expired s.now ∧ r.bus = b ∧
        r.arrivalError = none ∧ (s.mode ≠ .standby → s.planner.passRunning = false → u.planner.passDue = true) ∧
        (e.state ≠ .granted →
          u.table = s.table.filter (fun q => q.bus != b) ∧ u.planner.grant = s.planner.grant ∧
          u.planner.revise = s.planner.revise) ∧
        u.sameButNotices { s with
          stats := s.counted .close 6 (some (.port e.approach)), table := u.table, outcomes := u.outcomes,
          planner := { s.planner with
            grant := u.planner.grant, revise := u.planner.revise, passDue := u.planner.passDue,
            passMark := u.planner.passMark } }) ∧
    exec (.cacheAgeOut b) s =
      .next { s with cache := s.cache.filter fun c => !(c.bus == b && 2147483648 ≤ (s.now - c.time).toNat) }

/-! ### Asked messages -/

/-- The five messages that only read answer with their data and change nothing else: READ_CONFIG (R155), READ_STATUS
(R140), LIST_REQUESTS (R141), READ_REQUEST (R142), READ_SUMMARY (R165). The fields of the status, of a summary and of
an entry are those of Tables 10-7, 10-5 and 10-8 in their order and widths. -/
def Obligations.ReadingMessagesOnlyAnswer : Prop :=
  ∀ (m : AskedMessage) (rest : List AskedMessage) (s : State), s.takes m rest →
    (∀ sec place, m.kind = 2 → m.body = [sec, place] →
      (∀ n data, sectionOf sec = some n → sectionData s.config n place = some data →
        exec .readConfig s = .next (s.answered m rest 0 (sec :: replyPlace n place :: data))) ∧
      ((sectionOf sec).bind (fun n => sectionData s.config n place) = none →
        exec .readConfig s = .next (s.answered m rest 4 []))) ∧
    (m.kind = 4 → m.body = [] → exec .readStatus s = .next (s.answered m rest 0 (laidOut s.statusFields))) ∧
    (∀ start most, m.kind = 5 → m.body = [start, most] →
      (31 < start.toNat ∨ most.toNat = 0 ∨ 16 < most.toNat →
        exec .listRequests s = .next (s.answered m rest 4 [])) ∧
      (start.toNat ≤ 31 → 1 ≤ most.toNat → most.toNat ≤ 16 →
        exec .listRequests s = .next (s.answered m rest 0
          (octet s.table.length :: start :: octet ((s.table.drop start.toNat).take most.toNat).length ::
            ((s.table.drop start.toNat).take most.toNat).flatMap fun e =>
              laidOut e.summaryFields)))) ∧
    (∀ hi lo, m.kind = 6 → m.body = [hi, lo] →
      let b := hi.toNat * 256 + lo.toNat
      (b = 0 ∨ b = 65535 → exec .readRequest s = .next (s.answered m rest 4 [])) ∧
      (b ≠ 0 → b ≠ 65535 → ∀ e, s.findEntry b = some e →
        let place := (s.table.map Entry.bus).idxOf b + 1
        exec .readRequest s = .next (s.answered m rest 0 (0 :: laidOut (e.formFields place)))) ∧
      (b ≠ 0 → b ≠ 65535 → s.findEntry b = none → ∀ c, s.findCached b = some c →
        exec .readRequest s = .next (s.answered m rest 0 (1 :: laidOut
          [(2, c.bus), (1, Approach.index c.approach), (2, min 65535 (s.now - c.time).toNat)]))) ∧
      (b ≠ 0 → b ≠ 65535 → s.findEntry b = none → s.findCached b = none →
        exec .readRequest s = .next (s.answered m rest 7 []))) ∧
    (m.kind = 11 → m.body = [] →
      exec .readSummary s = .next (s.answered m rest 0
        (octets4 s.stats.totals.sent ++ octets4 s.stats.totals.accepted ++ octets4 s.stats.totals.answeredPartly ++
          octets4 s.stats.totals.refused ++ octets4 s.stats.totals.lost ++
          [octet (if s.stats.totals.sent = 0 then 0
            else min 100 (100 * (s.stats.totals.accepted + s.stats.totals.answeredPartly) / s.stats.totals.sent))])))

/-- CANCEL_REQUEST: an impossible bus id is refused, an unheld bus is not found, and a held one leaves as CANCELLED and
enters the cache as R18 says, the reply carrying its state at the exit (R23, R143); its record, whole as Table 9-1 gives
it and without an arrival error, its departure, CLOSE and the pass are as at any exit (R19, R157 to R159, R102 to
R107). -/
def Obligations.CancelRequestRemovesBus : Prop :=
  ∀ (m : AskedMessage) (rest : List AskedMessage) (hi lo : Octet) (b : Nat) (s : State), s.takes m rest → m.kind = 7 →
    m.body = [hi, lo] → b = hi.toNat * 256 + lo.toNat →
    (b = 0 ∨ b = 65535 → exec .cancelRequest s = .next (s.answered m rest 4 [])) ∧
    (b ≠ 0 → b ≠ 65535 → s.findEntry b = none → exec .cancelRequest s = .next (s.answered m rest 7 [])) ∧
    (∀ e, b ≠ 0 → b ≠ 65535 → s.findEntry b = some e →
      ∃ (u : State) (r : OutcomeRecord), exec .cancelRequest s = .next (u.answered m rest 0 [hi, lo, octet e.state.code]) ∧
        u.table.map Entry.bus = (s.table.map Entry.bus).filter (fun q => q != b) ∧
        u.findCached b = some { bus := b, approach := e.approach, time := s.now } ∧
        u.tookRecord s r ∧ s.departs e u.table u.planner.grant u.planner.revise ∧
        u.latchesStay s [.outcomesWaiting, .outcomeOverrun] ∧ r.isOf e .cancelled s.now ∧ r.bus = b ∧
        r.arrivalError = none ∧ s.caches b e.approach u.cache ∧
        (s.mode ≠ .standby → s.planner.passRunning = false → u.planner.passDue = true) ∧
        (e.state ≠ .granted →
          u.table = s.table.filter (fun q => q.bus != b) ∧ u.planner.grant = s.planner.grant ∧
          u.planner.revise = s.planner.revise) ∧
        u.sameButNotices { s with
          stats := s.counted .close 8 (some (.port e.approach)), table := u.table, cache := u.cache, outcomes := u.outcomes,
          planner := { s.planner with
            grant := u.planner.grant, revise := u.planner.revise, passDue := u.planner.passDue,
            passMark := u.planner.passMark } })

/-- READ_OUTCOMES removes the oldest min(n, count) records and returns them, with the count that remains and the lost
count; n of 0 or above 8 is refused and removes nothing (R160). The fields of a record are those of Table 10-9 in their
order and widths. -/
def Obligations.ReadOutcomesRemovesOldest : Prop :=
  ∀ (m : AskedMessage) (rest : List AskedMessage) (n : Octet) (s : State), s.takes m rest → m.kind = 8 →
    m.body = [n] →
    (n.toNat = 0 ∨ 8 < n.toNat → exec .readOutcomes s = .next (s.answered m rest 4 [])) ∧
    (1 ≤ n.toNat → n.toNat ≤ 8 →
      exec .readOutcomes s =
        .next (State.answered { s with outcomes := { s.outcomes with
            records := s.outcomes.records.drop n.toNat } } m rest 0
          (octet (s.outcomes.records.length - n.toNat) :: octets2 s.outcomes.lost ++
            octet (min n.toNat s.outcomes.records.length) ::
            (s.outcomes.records.take n.toNat).flatMap fun r => laidOut r.fields)))

/-- PROGRAM_COUNTER gives the counter its programming and value 0, the sub-mask clear beyond the event's sub-events; a
counter above 7 or a code that names no event is refused and changes nothing (R161). -/
def Obligations.ProgramCounterStoresProgramming : Prop :=
  ∀ (m : AskedMessage) (rest : List AskedMessage) (i ev hi lo src : Octet) (s : State), s.takes m rest → m.kind = 9 →
    m.body = [i, ev, hi, lo, src] → s.stats.counters.length = 8 →
    (7 < i.toNat ∨ 17 < ev.toNat → exec .programCounter s = .next (s.answered m rest 4 [])) ∧
    (i.toNat ≤ 7 → ev.toNat ≤ 17 →
      ∃ c : Counter, c.value = 0 ∧ eventCode c.event = ev.toNat ∧ c.sourceMask = src.truncate 5 ∧
        (∀ e, c.event = some e → ∀ j, c.subMask.getLsbD j = (decide (j < subEventCount e) && (hi ++ lo).getLsbD j)) ∧
        exec .programCounter s =
          .next (State.answered { s with stats := { s.stats with counters := s.stats.counters.set i.toNat c } } m rest 0
            (octet i.toNat :: c.programming)))

/-- READ_COUNTERS returns value and programming of the eight counters; with the clear flag every value is 0 afterwards
and the programming is kept; a flag other than set or clear is refused. Nothing else is cleared (R164). -/
def Obligations.ReadCountersReadsAndClears : Prop :=
  ∀ (m : AskedMessage) (rest : List AskedMessage) (clear : Octet) (s : State), s.takes m rest → m.kind = 10 →
    m.body = [clear] →
    (1 < clear.toNat → exec .readCounters s = .next (s.answered m rest 4 [])) ∧
    (clear = 0 →
      exec .readCounters s = .next (s.answered m rest 0
        (s.stats.counters.flatMap fun c => octets4 c.value ++ octet (eventCode c.event) ::
          octets2 c.subMask.toNat ++ [octet c.sourceMask.toNat]))) ∧
    (clear = 1 →
      exec .readCounters s =
        .next (State.answered { s with stats := { s.stats with
            counters := s.stats.counters.map fun c => { c with value := 0 } } } m rest 0
          (s.stats.counters.flatMap fun c => octets4 c.value ++ octet (eventCode c.event) ::
            octets2 c.subMask.toNat ++ [octet c.sourceMask.toNat])))

/-- SET_NOTICE_MASK replaces the whole mask with the settings it carries, in latch order, and is refused when one is
neither open nor closed; CLEAR_NOTICES clears exactly the latches it names, and is refused, clearing nothing, when
its count or a latch number is out of range, and with BAD_LENGTH when the count and the list disagree (R170).
Latches, mask and everything else stay otherwise (R167). -/
def Obligations.NoticeMaskAndClearing : Prop :=
  ∀ (m : AskedMessage) (rest : List AskedMessage) (s : State), s.takes m rest →
    (m.kind = 12 → m.body.length = 23 → (∃ o ∈ m.body, 1 < o.toNat) →
      exec .setNoticeMask s = .next (s.answered m rest 4 [])) ∧
    (m.kind = 12 → m.body.length = 23 → (∀ o ∈ m.body, o.toNat ≤ 1) →
      ∃ v : PerLatch Bool, (latchesInOrder.map fun l => flag (v.get l)) = m.body ∧
        exec .setNoticeMask s =
          .next (State.answered { s with notices := { s.notices with mask := v } } m rest 0 m.body)) ∧
    (m.kind = 13 → (m.body = [] ∨ ∃ c list, m.body = c :: list ∧ list.length ≠ c.toNat) →
      exec .clearNotices s = .next (s.answered m rest 3 [])) ∧
    (∀ c list, m.kind = 13 → m.body = c :: list → list.length = c.toNat →
      (list = [] ∨ 23 < list.length ∨ (∃ o ∈ list, 23 ≤ o.toNat) →
        exec .clearNotices s = .next (s.answered m rest 4 [])) ∧
      (list ≠ [] → list.length ≤ 23 → (∀ o ∈ list, o.toNat < 23) →
        ∃ v : PerLatch (Option LatchInfo),
          (∀ j l, latchesInOrder[j]? = some l →
            v.get l = if list.any (fun o => o.toNat == j) then none else s.notices.latches.get l) ∧
          exec .clearNotices s =
            .next (State.answered { s with notices := { s.notices with latches := v } } m rest 0 (latchBits v))))

/-- LINK_CONTROL: a code outside its set, or an insertion at a DISABLED port, is refused and changes nothing; otherwise
the force flag follows the request and each insertion asked for is pending (R127, R128). -/
def Obligations.LinkControlActsOnPort : Prop :=
  ∀ (m : AskedMessage) (rest : List AskedMessage) (a r c k : Octet) (s : State), s.takes m rest → m.kind = 14 →
    m.body = [a, r, c, k] →
    (3 < a.toNat ∨ 2 < r.toNat ∨ 1 < c.toNat ∨ 1 < k.toNat → exec .linkControl s = .next (s.answered m rest 4 [])) ∧
    (∀ x, Approach.index x = a.toNat → r.toNat ≤ 2 → c.toNat ≤ 1 → k.toNat ≤ 1 →
      ((s.ports.get x).framer = .disabled → c = 1 ∨ k = 1 → exec .linkControl s = .next (s.answered m rest 4 [])) ∧
      ((s.ports.get x).framer ≠ .disabled ∨ c = 0 ∧ k = 0 →
        exec .linkControl s =
          .next (State.answered { s with ports := s.ports.set x { s.ports.get x with
              force := if r = 1 then true else if r = 2 then false else (s.ports.get x).force,
              crcInsertion := if c = 1 ∧ (s.ports.get x).crcInsertion = .none then .waiting
                else (s.ports.get x).crcInsertion,
              markerInsertion := (s.ports.get x).markerInsertion || k == 1 } } m rest 0 [])))

/-- INJECT_TELEGRAM: an approach outside A to D is refused; otherwise the slot is handled as a cabinet-source telegram
of that approach, and the reply is its handling: QUEUED and counted, EMPTY, MALFORMED, NOT_RUNNING in STANDBY, or
INTAKE_FULL (R144, R2, R3, R4). Any slot is read as Table 10-3 lays it out, with the clamps and substitutions of R1.
That a CHECK_OUT or WITHDRAW with the fourth movement code is kept with the movement THROUGH, which nothing reads,
is the model's form. -/
def Obligations.InjectTelegramReportsHandling : Prop :=
  ∀ (m : AskedMessage) (rest : List AskedMessage) (a : Octet) (os : List Octet) (s : State), s.takes m rest →
    m.kind = 15 → m.body = a :: os → os.length = 15 →
    (3 < a.toNat → exec .injectTelegram s = .next (s.answered m rest 4 [])) ∧
    (∀ x, Approach.index x = a.toNat →
      (readSlot .cabinet x os = .empty → exec .injectTelegram s = .next (s.answered m rest 0 [1])) ∧
      (readSlot .cabinet x os = .malformed →
        ∃ u : State, exec .injectTelegram s = .next (u.answered m rest 0 [2]) ∧
          u.sameButNotices { s with stats := s.counted .telegramDiscard 1 (some .cabinet) }) ∧
      (∀ t, readSlot .cabinet x os = .telegram t →
        (s.mode = .standby →
          ∃ u : State, exec .injectTelegram s = .next (u.answered m rest 0 [3]) ∧
            u.sameButNotices { s with stats := s.counted .telegramDiscard 2 (some .cabinet) }) ∧
        (s.mode ≠ .standby → 8 ≤ s.intake.queues.cabinet.length →
          ∃ u : State, exec .injectTelegram s = .next (u.answered m rest 0 [4]) ∧
            u.sameButNotices { s with stats := s.counted .telegramDiscard 3 (some .cabinet) }) ∧
        (s.mode ≠ .standby → s.intake.queues.cabinet.length < 8 →
          ∃ u : State, exec .injectTelegram s = .next (u.answered m rest 0 [0]) ∧ t.source = .cabinet ∧
            t.approach = x ∧
            u.sameButNotices { s with
              intake := { s.intake with queues := { s.intake.queues with
                cabinet := s.intake.queues.cabinet ++ [t] } },
              stats := s.counted .telegramIn t.kind.index (some .cabinet) }))) ∧
    (∀ src x k b1 b0 q r1 r0 d1 d0 speed dwell l1 l0 load strength age,
      os = [k, b1, b0, q, r1, r0, d1, d0, speed, dwell, l1, l0, load, strength, age] →
      let bus := b1.toNat * 256 + b0.toNat
      let route := r1.toNat * 256 + r0.toNat
      let bad := 4 < k.toNat ∨ bus = 0 ∨ bus = 65535 ∨ k.toNat ≤ 2 ∧ q.getLsbD 3 = true ∧ q.getLsbD 2 = true
      (k = 0 → readSlot src x os = .empty) ∧ (k ≠ 0 → bad → readSlot src x os = .malformed) ∧
      (k ≠ 0 → ¬bad →
        ∃ t, readSlot src x os = .telegram t ∧ t.source = src ∧ t.approach = x ∧
          t.kind = (if k = 1 then TelegramKind.checkIn else if k = 2 then .position
            else if k = 3 then .checkOut else .withdraw) ∧
          t.bus = bus ∧ t.seq = q.toNat / 16 ∧
          (k.toNat ≤ 2 →
            t.movement = (if q.getLsbD 3 = true then .right else if q.getLsbD 2 = true then .left else .through)) ∧
          t.atStop = q.getLsbD 1 ∧ t.doorOpen = q.getLsbD 0 ∧
          t.route = (if 1 ≤ route ∧ route ≤ 999 then route else 0) ∧
          t.distance = (d1.toNat * 256 + d0.toNat) % 1024 ∧ t.speed = min 250 speed.toNat ∧ t.dwell = dwell.toNat ∧
          t.lateness = max (-600) (min 600 (l1 ++ l0).toInt) ∧ t.load = load.toNat % 4 ∧ t.age = age.toNat))

/-! ### Configuration and modes -/

/-- CONFIGURE of one section with values in range stores them as written, and of GENERAL also limits any others to their
ranges; READ_CONFIG's data gives the same octets back (R151, R153 to R155, R169, R170). APPROACH has its effects at
once: tokens above a lowered Kmax fall to it (R83); a cleared enabled setting disables the port, with the exit of
R115 when it was ALIGNED (R129), and a set one takes a DISABLED port to HUNT with a fresh return stream (R130; log
entry 33); an unchanged one leaves the port alone. CLASS, ROUTE_MAP and MOVEMENT_MAP change the configuration alone.
PHASE_TABLE and PLAN_TABLE, in STANDBY, discard the anchor: NO_STATUS, its latch on a change, and the review timer
stopped (R46, R52, R67). -/
def Obligations.ConfigureGeneralStoresValues : Prop :=
  ∀ (m : AskedMessage) (rest : List AskedMessage) (s : State), s.takes m rest → m.kind = 1 →
    (∀ g : General, clampFields generalRanges g.fields = g.fields →
      m.body = 1 :: 1 :: 0 :: writeFields generalWidths g.fields →
      exec .configure s = .next (State.answered { s with config := { s.config with general := g } } m rest 0 []) ∧
      sectionData { s.config with general := g } .general 0 = some (writeFields generalWidths g.fields)) ∧
    (∀ data : List Octet, data.length = 19 → (bodyOctet data 17).toNat ≤ 1 → m.body = 1 :: 1 :: 0 :: data →
      ∃ list : List Octet, exec .configure s =
        .next (State.answered { s with config := { s.config with
            general := .ofFields (clampFields generalRanges (readFields generalWidths data)) } } m rest
          (if clampFields generalRanges (readFields generalWidths data) = readFields generalWidths data then 0 else 1)
          list)) ∧
    (∀ (x : Approach) (a : ApproachConfig) (p : Port), clampApproach a.fields = a.fields →
      a.depth = 2 ∨ a.depth = 4 ∨ a.depth = 8 → s.ports.get x = p →
      m.body = 1 :: 2 :: octet (Approach.index x) :: writeFields approachWidths a.fields →
      let written : State := { s with
        config := { s.config with approaches := s.config.approaches.set x a },
        planner := { s.planner with
          tokens := s.planner.tokens.set x (min (s.planner.tokens.get x) a.kMax) } }
      let off : Port := { p with
        framer := .disabled, bits := [], passed := 0, store := [], repeats := 0, farAlarm := false,
        senderFault := false, markerInsertion := false, crcInsertion := .none }
      (a.enabled = true ∧ p.framer ≠ .disabled ∨ a.enabled = false ∧ p.framer = .disabled →
        exec .configure s = .next (written.answered m rest 0 [])) ∧
      (a.enabled = true → p.framer = .disabled →
        exec .configure s =
          .next (State.answered { written with ports := s.ports.set x { p with
            framer := .hunt, bits := [], passed := 0, store := [], repeats := 0, returnPos := 0,
            sent := List.replicate 4 (List.replicate 30 0), echo := false, sending := none } } m rest 0 [])) ∧
      (a.enabled = false → p.framer = .hunt ∨ p.framer = .confirm →
        exec .configure s = .next (State.answered { written with ports := s.ports.set x off } m rest 0 [])) ∧
      (a.enabled = false → p.framer = .aligned →
        ∃ u : State, exec .configure s = .next (u.answered m rest 0 []) ∧
          u.notices.latches.linkState.get x = setOnce (s.notices.latches.linkState.get x) 0 s.now ∧
          u.latchesStay s [.linkState x] ∧
          u.sameButNotices { written with
            ports := s.ports.set x { off with
              centring := false, centringIdle := 0, quarter := none, echo := false },
            stats := s.countedAll ((.linkReframe, 0, some (.port x)) ::
              discards (slotsUsed (match p.quarter with | some q => q.payloads | none => [])) .slipLoss x) })) ∧
    (∀ (n : Nat) (c : ClassConfig), n ≤ 3 → clampFields classRanges c.fields = c.fields →
      m.body = 1 :: 3 :: octet n :: writeFields classWidths c.fields →
      exec .configure s = .next (State.answered { s with config := { s.config with
        classes := s.config.classes.set n c } } m rest 0 [])) ∧
    ∀ (place : Octet),
      (∀ l : List RouteEntry, l.length ≤ 64 → (∀ e ∈ l, 1 ≤ e.route ∧ e.route ≤ 999 ∧ e.cls ≤ 3) →
        (l.map RouteEntry.route).Nodup →
        m.body = 1 :: 4 :: place :: octet l.length :: l.flatMap (fun e => writeFields routeWidths [e.route, e.cls]) →
        exec .configure s =
          .next (State.answered { s with config := { s.config with routeMap := l } } m rest 0 [])) ∧
      (∀ map : PerApproach MovementLine, s.mode = .standby →
        (∀ x, (map.get x).through ≤ 8 ∧ (map.get x).left ≤ 8 ∧ (map.get x).right ≤ 8) →
        (∀ n ∈ mapPhases map, n ≤ s.config.phases.length) →
        m.body = 1 :: 7 :: place :: allApproaches.flatMap (fun x => (map.get x).octets) →
        exec .configure s =
          .next (State.answered { s with config := { s.config with movementMap := map } } m rest 0 [])) ∧
      ∀ config : Configuration, s.mode = .standby → s.planner.grant = none →
        (∃ l : List PhaseRecord, config = { s.config with phases := l } ∧ 2 ≤ l.length ∧ l.length ≤ 8 ∧
            (∀ r ∈ l, clampFields phaseRanges (r.fields 1) = r.fields 1) ∧
            (∀ n ∈ mapPhases s.config.movementMap, n ≤ l.length) ∧
            m.body = 1 :: 5 :: place :: octet l.length :: phaseOctets 1 l) ∨
          (∃ l : List Plan, config = { s.config with plans := l } ∧ l.length ≤ 4 ∧
            (∀ p ∈ l, p.splits.length = 8 ∧ clampFields planRanges p.fields = p.fields) ∧
            m.body = 1 :: 6 :: place :: octet l.length :: l.flatMap (fun p => writeFields planWidths p.fields)) →
        ∃ u : State, exec .configure s = .next (u.answered m rest 0 []) ∧
          u.notices.latches.signalModel =
            (if s.model.state = .noStatus then s.notices.latches.signalModel
             else setOnce s.notices.latches.signalModel 0 s.now) ∧
          u.latchesStay s [.signalModel] ∧
          u.sameButNotices { s with
            config := config, model := { state := .noStatus, anchor := none },
            planner := { s.planner with
              review := if s.model.state = .tracking then none else s.planner.review } }

/-- A CONFIGURE whose length does not agree receives BAD_LENGTH; outside STANDBY one that carries a phase table, a plan
table or a movement map receives WRONG_MODE; one with a structural error of R152 BAD_VALUE; none of them writes
anything, and any other receives OK or OK_CLAMPED (R151, R152, R155, R170). Which items the mode test sees when a
section code of no name stands before them is an inference (log entry 15). -/
def Obligations.ConfigureRefusedWhole : Prop :=
  ∀ (m : AskedMessage) (rest : List AskedMessage) (k : Octet) (body : List Octet) (s : State), s.takes m rest →
    m.kind = 1 → m.body = k :: body →
    (walkItems k.toNat body = none → exec .configure s = .next (s.answered m rest 3 [])) ∧
    (∀ r, walkItems k.toNat body = some r →
      (s.mode ≠ .standby →
        (∃ it ∈ r.items, it.name = .phaseTable ∨ it.name = .planTable ∨ it.name = .movementMap) →
        exec .configure s = .next (s.answered m rest 5 [])) ∧
      ((s.mode = .standby ∨
          ∀ it ∈ r.items, it.name ≠ .phaseTable ∧ it.name ≠ .planTable ∧ it.name ≠ .movementMap) →
        (Items.faulty s.config k.toNat r → exec .configure s = .next (s.answered m rest 4 [])) ∧
        (¬Items.faulty s.config k.toNat r →
          ∃ (u : State) (code : Nat) (list : List Octet), code ≤ 1 ∧
            exec .configure s = .next (u.answered m rest code list))))

/-- SET_MODE to STANDBY from MONITOR or RUN: refused with GRANT_ACTIVE while real work is in flight and force is clear;
otherwise the queues, the table, the slot, the grant, the lost tag and the pending revise are emptied, the
reservation is released, a due pass is dropped, and tokens, tag counter, model, cache and totals stay (R146, R150,
R108). The command's frame is withdrawn unless its transmission has begun, its head being in transmission (log entry 6).
Each telegram counts as discarded NOT_RUNNING (R6) and each entry leaves oldest first as ABANDONED with CLOSE and a
record, whole as Table 9-1 gives it, without an arrival error (R24, R157, R158); the buffer keeps what R159 says. That
the rotation keeps its place is the model's choice (log entry 36). -/
def Obligations.SetModeStandbyEmptiesThePart : Prop :=
  ∀ (m : AskedMessage) (rest : List AskedMessage) (force : Octet) (s : State), s.takes m rest → m.kind = 3 →
    m.body = [0, force] → force.toNat ≤ 1 → s.mode ≠ .standby →
    (force = 0 → s.workInFlight = true → exec .setModeStandby s = .next (s.answered m rest 8 [])) ∧
    (force = 1 ∨ s.workInFlight = false →
      ∃ u : State, exec .setModeStandby s = .next (u.answered m rest 0 [0, flag s.workInFlight]) ∧
        u.sameButNotices { s with
          mode := .standby, table := [], intake := { s.intake with queues := .all [] },
          planner := { s.planner with
            slot := none, grant := none, lost := none, revise := none, passDue := false, passMark := false,
            ledger := s.planner.ledger.release },
          outcomes := u.outcomes,
          stats := s.countedAll
            (allSources.flatMap (fun q => (s.intake.queues.get q).map fun _ => (.telegramDiscard, 2, some q)) ++
              s.table.map fun e => (.close, 9, some (.port e.approach))),
          link := { s.link with
            outbound := match s.planner.slot with
              | some c => removeUnsent c.tag s.link.outbound
              | none => s.link.outbound } } ∧
        u.latchesStay s [.outcomesWaiting, .outcomeOverrun] ∧
        (s.outcomes.records.length ≤ 64 →
          ∃ f : Entry → OutcomeRecord,
            (∀ e ∈ s.table, (f e).isOf e .abandoned s.now ∧ (f e).arrivalError = none) ∧
            let all := s.outcomes.records ++ s.table.map f
            let excess := all.length - 64
            u.outcomes.records =
              (match s.config.general.outcomeMode with | .stop => all.take 64 | .wrap => all.drop excess) ∧
            u.outcomes.lost =
              if excess = 0 then s.outcomes.lost else min 65535 (s.outcomes.lost + excess)) ∧
        (s.outcomes.records.length + s.table.length ≤ 64 →
          ∃ l : List OutcomeRecord, u.outcomes = { records := s.outcomes.records ++ l, lost := s.outcomes.lost } ∧
            (l.map fun r => r.code) = s.table.map (fun _ => OutcomeCode.abandoned) ∧
            (l.map fun r => r.bus) = s.table.map Entry.bus))

/-- SET_MODE to MONITOR or RUN: out of STANDBY only when the plan table is not empty, no plan id is repeated and every
plan's splits are long enough and sum to its cycle, else INCONSISTENT; RUN to MONITOR changes the mode alone; MONITOR to
RUN also drops a shadow grant, its members returning to WAITING; a target equal to the mode does nothing (R146, R148,
R149, R108). -/
def Obligations.SetModeMonitorAndRun : Prop :=
  ∀ (m : AskedMessage) (rest : List AskedMessage) (force : Octet) (c : Instr) (target : Mode) (k : Octet) (s : State),
    s.takes m rest → m.kind = 3 → m.body = [k, force] → force.toNat ≤ 1 →
    (c = .setModeMonitor ∧ target = .monitor ∧ k = 1 ∨ c = .setModeRun ∧ target = .run ∧ k = 2) →
    (s.mode = target → exec c s = .next (s.answered m rest 0 [k, 0])) ∧
    (s.mode = .standby →
      ¬(s.config.plans ≠ [] ∧ (s.config.plans.map Plan.id).Nodup ∧
        ∀ p ∈ s.config.plans,
          (∀ i, 1 ≤ i → i ≤ s.config.phases.length →
            (s.config.phase i).yellow + (s.config.phase i).redClear + (s.config.phase i).minGreen ≤ p.split i) ∧
          ((List.range s.config.phases.length).map fun i => p.split (i + 1)).sum = p.cycle) →
      exec c s = .next (s.answered m rest 6 [])) ∧
    (s.mode = .standby → s.planner.grant = none →
      (s.config.plans ≠ [] ∧ (s.config.plans.map Plan.id).Nodup ∧
        ∀ p ∈ s.config.plans,
          (∀ i, 1 ≤ i → i ≤ s.config.phases.length →
            (s.config.phase i).yellow + (s.config.phase i).redClear + (s.config.phase i).minGreen ≤ p.split i) ∧
          ((List.range s.config.phases.length).map fun i => p.split (i + 1)).sum = p.cycle) →
      exec c s = .next (State.answered { s with mode := target } m rest 0 [k, 0])) ∧
    (s.mode = .run → target = .monitor →
      exec c s = .next (State.answered { s with mode := .monitor } m rest 0 [1, 0])) ∧
    (s.mode = .monitor → target = .run →
      (∀ g, s.planner.grant = some g → g.shadow = true →
        exec c s = .next (State.answered { s with
            mode := .run, planner := { s.planner with grant := none },
            table := s.table.map fun e =>
              if e.bus ∈ g.members then
                { e with state := .waiting, reason := some .needsGreen, indication := .wait }
              else e } m rest 0 [2, 0])) ∧
      ((∀ g, s.planner.grant = some g → g.shadow = false) →
        exec c s = .next (State.answered { s with mode := .run } m rest 0 [2, 0])))

/-! ### Restart, and the feed of each second -/

/-- RESTART and FACTORY: the REPLY, the last the port sends, joins the queue, the restart is pending and the waiting
asked messages are discarded; a selector that names neither is refused (R145), by either row (the model's choice,
log entry 10). -/
def Obligations.RestartIsMadePending : Prop :=
  ∀ (m : AskedMessage) (rest : List AskedMessage) (sel : Octet) (s : State), s.takes m rest → m.kind = 16 →
    m.body = [sel] →
    (sel = 0 →
      exec .restart s =
        .next { s with link := { s.link with
          asked := [], restart := some .restart,
          outbound := s.link.outbound ++ [{ kind := .reply, tag := m.tag, body := [16, 0], final := true }] } }) ∧
    (sel = 1 →
      exec .factory s =
        .next { s with link := { s.link with
          asked := [], restart := some .factory,
          outbound := s.link.outbound ++ [{ kind := .reply, tag := m.tag, body := [16, 0], final := true }] } }) ∧
    (1 < sel.toNat →
      exec .restart s = .next (s.answered m rest 4 []) ∧ exec .factory s = .next (s.answered m rest 4 []))

/-- The last octet of a restart's REPLY leaves the line, as either row says it: RESTART keeps configuration, notice
mask, counter programming and rate and puts everything else at its reset value; FACTORY gives the power-on values
and keeps the rate. RESTARTED is latched, with its NOTICE first in the emptied queue when its mask is open (R138,
R145, R156, R162, R168, R139, Tables 4-1 and 6-3). The model's choices in it: the commands that wait and the count
of free choices stay (log entries 1 and 3), the row RESTART_TAKES_EFFECT beside OUTBOUND_FRAME_SENT (log entry 24),
the reset values the spec does not give (log entries 29 and 31), and the return frame that is cut (log entry 33). -/
def Obligations.ResetTakesEffect : Prop :=
  ∀ (m : OutMessage) (rest : List OutMessage) (s : State), s.held = false → s.link.outbound = m :: rest →
    m.final = true →
    (s.link.restart = some .restart →
      ∀ c, c = .restartTakesEffect ∨ c = .outboundFrameSent ∧ m.kind = .reply →
        exec c s =
          .next { State.reset with
            pending := s.pending, rate := s.rate, choices := s.choices, config := s.config,
            planner := { State.reset.planner with
              tokens := ⟨s.config.approaches.a.kMax, s.config.approaches.b.kMax, s.config.approaches.c.kMax,
                s.config.approaches.d.kMax⟩,
              ledger := { timeLimit := s.config.general.bCycle, grantLimit := s.config.general.gCycle,
                          committed := 0, leads := 0, reservation := none } },
            stats := { State.reset.stats with counters := s.stats.counters.map fun k => { k with value := 0 } },
            notices :=
              { mask := s.notices.mask,
                latches := { PerLatch.all none with restarted := some { detail := 1, time := 0 } } },
            link := { State.reset.link with
              outbound := if s.notices.mask.restarted = true then
                  [{ kind := .notice, tag := 0, body := [0, 255, 1, 0, 0, 0, 0], final := false }] else [] },
            ports :=
              ⟨.atReset s.config.approaches.a.enabled, .atReset s.config.approaches.b.enabled,
                .atReset s.config.approaches.c.enabled, .atReset s.config.approaches.d.enabled⟩ }) ∧
    (s.link.restart = some .factory →
      ∀ c, c = .factoryTakesEffect ∨ c = .outboundFrameSent ∧ m.kind = .reply →
        exec c s =
          .next { State.reset with
            pending := s.pending, rate := s.rate, choices := s.choices,
            notices := { State.reset.notices with latches := { State.reset.notices.latches with
              restarted := some { detail := 2, time := 0 } } },
            link := { State.reset.link with
              outbound := [{ kind := .notice, tag := 0, body := [0, 255, 2, 0, 0, 0, 0], final := false }] } })

/-- At each second the counters programmed for TABLE_OCCUPANCY add the number of entries whose state and approach their
masks select, up to the limit; every other counter stays (R163). -/
def Obligations.OccupancyFeedAddsEntries : Prop :=
  ∀ (s : State), s.held = false → s.now ≠ 0 → s.now.toNat % 10 = 0 → s.occupancyFed = false →
    (∀ c ∈ s.stats.counters, c.value ≤ 4294967295) →
    ∃ t, exec .tableOccupancy s = .next t ∧
      t.sameButNotices { s with
        occupancyFed := true,
        stats := { s.stats with
          counters := s.stats.counters.map fun c =>
            if c.event = some .tableOccupancy then
              { c with value := min 4294967295 (c.value + (s.table.filter fun e =>
                  c.subMask.getLsbD e.state.code && c.sourceMask.getLsbD (Approach.index e.approach)).length) }
            else c } }

/-! ### Approach ports -/

/-- In HUNT the first place at which the marker stands in the kept and new bits, with the octet after it received, takes
the framer to CONFIRM with the bits from that place on (R112). Otherwise the search goes on: the bits are kept from the
first marker whose next octet is still to come, and with no marker at all from where one may still begin, the last
seven. The bits clock a loop-timed return frame (R124). -/
def Obligations.HuntFindsFirstMarker : Prop :=
  ∀ (x : Approach) (new bits : Bits) (s : State), s.held = false → (s.ports.get x).framer = .hunt →
    bits = (s.ports.get x).bits ++ new →
    let clocked := (s.ports.get x).clocked new.length
    (∀ k, k + 16 ≤ bits.length → octetOfBits (bits.drop k) = 0x6C →
      (∀ j, j < k → octetOfBits (bits.drop j) ≠ 0x6C) →
      exec (.candidateMarker x new) s =
        .next { s with ports := s.ports.set x { clocked with framer := .confirm, bits := bits.drop k, passed := 0 } }) ∧
    (∀ k, k + 8 ≤ bits.length → bits.length < k + 16 → octetOfBits (bits.drop k) = 0x6C →
      (∀ j, j < k → octetOfBits (bits.drop j) ≠ 0x6C) →
      exec (.candidateMarker x new) s =
        .next { s with ports := s.ports.set x { clocked with bits := bits.drop k } }) ∧
    ((∀ j, j + 8 ≤ bits.length → octetOfBits (bits.drop j) ≠ 0x6C) →
      exec (.candidateMarker x new) s =
        .next { s with ports := s.ports.set x { clocked with bits := bits.drop (bits.length - 7) } })

/-- In CONFIRM the frame 264 bits on must carry the marker and the next position: a failure takes the framer back to
HUNT one bit past the candidate; the first two passes count, and so does the third while its slot is incomplete. The
third pass with its slot complete, at the test or by later bits, takes it to ALIGNED with the position after it
expected, an empty store that centres, and LINK_STATE latched (R113, R115). Bits too few for the test, or for that
slot, are kept. The bits clock a loop-timed return frame (R124). That a wrong marker fails with its control octet is the
model's choice (log entry 30). -/
def Obligations.ConfirmTestsThreeFrames : Prop :=
  ∀ (x : Approach) (new bits : Bits) (p : Port) (s : State), s.held = false → s.ports.get x = p →
    p.framer = .confirm → bits = p.bits ++ new →
    let position := fun j : Nat => controlPos (octetOfBits ((bits.drop (264 * j)).drop 8))
    let keeps := fun passed : Nat =>
      exec (.confirmTest x new) s =
        .next { s with ports := s.ports.set x { p.clocked new.length with bits := bits, passed := passed } }
    let aligns :=
      ∃ t, exec (.confirmTest x new) s = .next t ∧
        t.ports = s.ports.set x { p.clocked new.length with
          framer := .aligned, bits := bits.drop 1056, passed := 0, expected := (position 3 + 1) % 16, judged := [],
          store := [], centring := true, centringIdle := 0, quarter := none, history := [], echo := false,
          repeats := 0 } ∧
        t.notices.latches.linkState.get x =
          (if (s.notices.latches.linkState.get x).isSome then s.notices.latches.linkState.get x
           else some { detail := 1, time := s.now }) ∧
        t.latchesStay s [.linkState x] ∧ t.sameButNotices { s with ports := t.ports }
    (p.passed < 3 → bits.length < 264 * (p.passed + 1) + 16 → keeps p.passed) ∧
    (p.passed < 3 → 264 * (p.passed + 1) + 16 ≤ bits.length →
      let good := octetOfBits (bits.drop (264 * (p.passed + 1))) = 0x6C ∧
        position (p.passed + 1) = (position p.passed + 1) % 16
      (¬good →
        exec (.confirmTest x new) s =
          .next { s with ports := s.ports.set x { p.clocked new.length with
            framer := .hunt, bits := bits.drop 1, passed := 0 } }) ∧
      (good → p.passed < 2 ∨ bits.length < 1056 → keeps (p.passed + 1)) ∧
      (good → p.passed = 2 → 1056 ≤ bits.length → aligns)) ∧
    (p.passed = 3 → bits.length < 1056 → keeps 3) ∧ (p.passed = 3 → 1056 ≤ bits.length → aligns)

/-- In ALIGNED each slot of 264 bits is judged by its marker and position. Fewer than four errors among the last
sixteen: the frame is written with the position expected for it, dropping the oldest when the store is full (R114,
R116, R117). The fourth error: the framer hunts from the next bit with an empty store and checker, LINK_REFRAME is
counted and LINK_STATE latched, the telegrams of the quarter held are discarded as SLIP_LOSS, and the port-status
fields and the echo state are clear (R114, R115, R120). Fewer bits than a slot are kept. The bits clock a loop-timed
return frame (R124). -/
def Obligations.FrameSlotJudgedAndWritten : Prop :=
  ∀ (x : Approach) (new bits : Bits) (p : Port) (s : State), s.held = false → s.ports.get x = p →
    p.framer = .aligned → bits = p.bits ++ new →
    (bits.length < 264 →
      exec (.frameSlot x new) s =
        .next { s with ports := s.ports.set x { p.clocked new.length with bits := bits } }) ∧
    (264 ≤ bits.length →
    let os := octetsOfBits 33 bits
    let wrong := (os[0]?).getD 0 != 0x6C || controlPos ((os[1]?).getD 0) != p.expected
    let judged := (p.judged ++ [wrong]).drop (p.judged.length + 1 - 16)
    let f : Frame := { control := (os[1]?).getD 0, aux := (os[2]?).getD 0, payload := os.drop 3, pos := p.expected,
                       marked := wrong, lost := 0 }
    (4 ≤ judged.count true →
      ∃ t, exec (.frameSlot x new) s = .next t ∧
        t.leftAligned s x ((p.clocked new.length).hunts (bits.drop 264)) []) ∧
    (judged.count true < 4 → p.store.length < 4 →
      exec (.frameSlot x new) s =
        .next { s with ports := s.ports.set x { p.clocked new.length with
          bits := bits.drop 264, judged := judged, expected := (p.expected + 1) % 16, store := p.store ++ [f],
          centring := p.centring && p.store.isEmpty, centringIdle := 0 } }) ∧
    (∀ a b c d, judged.count true < 4 → p.store = [a, b, c, d] →
      ∃ t, exec (.frameSlot x new) s = .next t ∧
        t.sameButNotices { s with
          ports := s.ports.set x { p.clocked new.length with
            bits := bits.drop 264, judged := judged, expected := (p.expected + 1) % 16,
            store := [{ b with lost := b.lost + 1 + a.lost }, c, d, f], lastSlip := .drop },
          stats := s.counted .linkSlip 0 (some (.port x)) }))

/-- A local frame instant of an ALIGNED port (R116, R118): while centring the sixteenth with no frame written leaves
ALIGNED; at an empty store the last frame is repeated and counted, and the sixteenth repeat in a row leaves ALIGNED; the
oldest frame is otherwise read. Both exits finish the return frame in progress at local timing (R124), count
LINK_REFRAME, latch LINK_STATE, discard the telegrams of the quarter held as SLIP_LOSS and clear the port-status fields
(R115, R120), and are also commands of their own (log entry 25). Of a frame without the alignment-error mark the alarm,
fault and echo bits are read (R119). It begins a quarter, joins the one held, or settles it: an incomplete quarter's
telegrams are SLIP_LOSS (R120); a good one's slots go to the intake one by one, empty ones passed over, the others
queued or discarded as WEAK, MALFORMED, NOT_RUNNING or INTAKE_FULL (R2 to R4), and the echo state clears; a failed one's
are CRC_ERROR and the echo state is set (R121); the eighth failure among sixteen takes the framer to HUNT (R115, R122).
Log entries 12 and 13 order the bits, the settlement and the next quarter. -/
def Obligations.LocalFrameInstant : Prop :=
  ∀ (x : Approach) (p : Port) (s : State), s.held = false → s.ports.get x = p → p.framer = .aligned →
    (p.centring = true → p.centringIdle < 15 →
      exec (.localFrameRead x) s =
        .next { s with ports := s.ports.set x { p with centringIdle := p.centringIdle + 1 } }) ∧
    (p.centring = true → 15 ≤ p.centringIdle →
      ∀ c, c = .localFrameRead x ∨ c = .centringTimeout x →
        ∃ t, exec c s = .next t ∧
          t.leftAligned s x { p.hunts [] with sending := p.sending.map fun r => { r with timing := .local } } []) ∧
    (p.centring = false → p.store = [] → p.repeats < 15 →
      ∃ t, exec (.localFrameRead x) s = .next t ∧
        t.sameButNotices { s with
          ports := s.ports.set x { p with lastSlip := .repeat, repeats := p.repeats + 1 },
          stats := s.counted .linkSlip 1 (some (.port x)) }) ∧
    (p.centring = false → p.store = [] → 15 ≤ p.repeats →
      ∀ c, c = .localFrameRead x ∨ c = .consecutiveRepeatLimit x →
        ∃ t, exec c s = .next t ∧
          t.leftAligned s x
            { p.hunts [] with
              lastSlip := .repeat, repeats := p.repeats + 1,
              sending := p.sending.map fun r => { r with timing := .local } }
            [(.linkSlip, 1, some (.port x))]) ∧
    (∀ f rest, p.centring = false → p.store = f :: rest → f.marked = true → p.quarter = none →
      exec (.localFrameRead x) s =
        .next { s with ports := s.ports.set x { p with
          store := rest, repeats := 0,
          quarter := some { offset := f.pos % 4, payloads := [f.payload], complete := f.pos % 4 == 0 } } }) ∧
    (∀ f rest, p.centring = false → p.store = f :: rest →
      let bits := f.marked = false
      let read : Port := { p with
        store := rest, repeats := 0, farAlarm := if bits then f.control.getLsbD 3 else p.farAlarm,
        senderFault := if bits then f.control.getLsbD 2 else p.senderFault }
      let begun : Quarter := { offset := f.pos % 4, payloads := [f.payload], complete := f.pos % 4 == 0 }
      let seen : List (EventKind × Nat × Option Source) :=
        if bits ∧ f.pos % 4 = 1 ∧ f.aux.getLsbD 0 = true then [(.farBlockError, 0, some (.port x))] else []
      let alarms := fun t : State =>
        t.notices.latches.farAlarm.get x =
            (if bits ∧ f.control.getLsbD 3 = true then setOnce (s.notices.latches.farAlarm.get x) 0 s.now
             else s.notices.latches.farAlarm.get x) ∧
          t.notices.latches.receiverFault.get x =
            (if bits ∧ f.control.getLsbD 2 = true then setOnce (s.notices.latches.receiverFault.get x) 0 s.now
             else s.notices.latches.receiverFault.get x)
      let only := fun t : State => alarms t ∧ t.latchesStay s [.farAlarm x, .receiverFault x]
      (p.quarter = none →
        ∃ t, exec (.localFrameRead x) s = .next t ∧ only t ∧
          t.sameButNotices { s with
            ports := s.ports.set x { read with quarter := some begun }, stats := s.countedAll seen }) ∧
      ∀ q, p.quarter = some q →
        let checked := q.complete = true ∧ q.offset = 3 ∧ f.lost = 0
        let good := bits ∧ f.aux = crc8 q.payloads.flatten
        let history := fun failed : Bool => (p.history ++ [failed]).drop (p.history.length + 1 - 16)
        (q.offset + 1 + f.lost ≤ 3 →
          ∃ t, exec (.localFrameRead x) s = .next t ∧ only t ∧
            t.sameButNotices { s with
              stats := s.countedAll seen,
              ports := s.ports.set x { read with
                quarter := some { offset := q.offset + 1 + f.lost, payloads := q.payloads ++ [f.payload],
                                  complete := q.complete && f.lost == 0 } } }) ∧
        (3 < q.offset + 1 + f.lost → ¬checked →
          ∃ t, exec (.localFrameRead x) s = .next t ∧ only t ∧
            t.sameButNotices { s with
              ports := s.ports.set x { read with quarter := some begun },
              stats := s.countedAll (seen ++ discards (slotsUsed q.payloads) .slipLoss x) }) ∧
        (checked → good →
          ∃ u t, only u ∧
            u.sameButNotices { s with
              stats := s.countedAll seen,
              ports := s.ports.set x { read with
                quarter := some begun, echo := false, history := history false } } ∧
            exec (.localFrameRead x) s = .next t ∧
            u.slotsTaken t x (q.payloads.flatMap fun payload => [payload.take 15, payload.drop 15])) ∧
        (checked → ¬good → (history true).count true < 8 →
          ∃ t, exec (.localFrameRead x) s = .next t ∧ only t ∧
            t.sameButNotices { s with
              ports := s.ports.set x { read with
                quarter := some begun, echo := true, history := history true },
              stats := s.countedAll (seen ++ discards (slotsUsed q.payloads) .crcError x) }) ∧
        (checked → ¬good → 8 ≤ (history true).count true →
          ∃ t, exec (.localFrameRead x) s = .next t ∧ alarms t ∧
            t.notices.latches.linkState.get x = setOnce (s.notices.latches.linkState.get x) 0 s.now ∧
            t.latchesStay s [.farAlarm x, .receiverFault x, .linkState x] ∧
            t.sameButNotices { s with
              ports := s.ports.set x { read with
                framer := .hunt, bits := [], passed := 0, store := [], centring := false, centringIdle := 0,
                quarter := none, farAlarm := false, senderFault := false, echo := false, history := history true },
              stats := s.countedAll (seen ++ discards (slotsUsed q.payloads) .crcError x ++
                (.linkReframe, 0, some (.port x)) :: discards (slotsUsed [f.payload]) .slipLoss x) }))

/-- RETURN_FRAME. While a loop-timed frame has bits to send the next is not due, and the command has no effect, at a
DISABLED port too (R124; log entry 4). Due at a DISABLED port, the stream stops (R129). Otherwise a frame of 33 octets
begins: marker, inverse for an insertion; position with the far-alarm bit outside ALIGNED or forced and the sender-fault
bit in STANDBY; check octet of the last four payloads at 4q, inverted for an insertion aimed at them, echo bit at 4q + 1
(R123, R128); five indication places (R125, R126), in RUN of up to five indicated entries of the approach in admission
order from the rotation index on, wrapping, else empty. A place holds bus, indication, phase, wait estimate and, when
GRANTED, the applied seconds. Position, record of payloads and, in RUN, rotation move on; the timing is loop in ALIGNED,
else local. Inbound bits clock a loop-timed frame, one bit each, also one in progress at a DISABLED port, which reads
nothing (R111, R124, R129; the counting is log entry 17, the DISABLED port's bits log entry 18). An anchored green that
has overrun is not green now (log entry 35). -/
def Obligations.ReturnFrameComposed : Prop :=
  ∀ (x : Approach) (p : Port) (s : State), s.held = false → s.ports.get x = p →
    (p.framer = .disabled → (∀ r, p.sending = some r → r.timing = .local ∨ r.unsent = 0) →
      exec (.returnFrame x) s = .next { s with ports := s.ports.set x { p with sending := none } }) ∧
    (p.framer = .disabled → ∀ (new : Bits) (c : Instr),
      c = .candidateMarker x new ∨ c = .confirmTest x new ∨ c = .frameSlot x new →
      exec c s = .next { s with ports := s.ports.set x (p.clocked new.length) }) ∧
    (∀ r, p.sending = some r → r.timing = .loop → 0 < r.unsent →
      exec (.returnFrame x) s = .next s) ∧
    (p.returnPos ≤ 15 → p.framer ≠ .disabled → (∀ r, p.sending = some r → r.timing = .local ∨ r.unsent = 0) →
      let list := s.table.filter fun e => e.approach == x && e.indication != .none
      let first := p.rotation % list.length
      let shown := if s.mode = .run then (list.drop first ++ list.take first).take 5 else []
      let wait := fun e : Entry =>
        match s.projection with
        | some ws =>
          (match ws.find? fun w => w.phase == e.phase && 0 < w.stop with
           | some w => if e.phase = 0 then 255 else min 254 ((w.start + 9) / 10)
           | none => 255)
        | none => 255
      let place := fun e : Entry =>
        [octet (e.bus / 256), octet e.bus, octet e.indication.code, octet e.phase, octet (wait e),
          octet (if e.indication = .granted then e.applied.getD 0 / 10 else 0)]
      let payload := shown.flatMap place ++ List.replicate (30 - 6 * shown.length) 0
      let check := crc8 p.sent.flatten
      payload.length = 30 ∧
        exec (.returnFrame x) s =
          .next { s with ports := s.ports.set x { p with
            sending := some
              { octets := (if p.markerInsertion then 0x93 else 0x6C) ::
                  octet (p.returnPos * 16 + (if p.framer ≠ .aligned ∨ p.force = true then 8 else 0) +
                    (if s.mode = .standby then 4 else 0)) ::
                  (if p.returnPos % 4 = 0 then (if p.crcInsertion = .aimed then check ^^^ 0xFF else check)
                   else if p.returnPos % 4 = 1 then flag p.echo else 0) :: payload,
                unsent := 264, timing := if p.framer = .aligned then ReturnTiming.loop else ReturnTiming.local },
            markerInsertion := false,
            crcInsertion :=
              if p.returnPos % 4 = 0 then (if p.crcInsertion = .waiting then .aimed else .none) else p.crcInsertion,
            returnPos := (p.returnPos + 1) % 16, sent := p.sent.drop 1 ++ [payload],
            rotation :=
              if s.mode ≠ .run then p.rotation
              else if list = [] then 0 else (p.rotation % list.length + min 5 list.length) % list.length } }) ∧
    (∀ n, p.clocked n = { p with
      sending := p.sending.map fun r => if r.timing = .loop then { r with unsent := r.unsent - n } else r })

/-! ### What every step keeps -/

/-- Every step keeps the sizes of table and cache, no bus twice in either and none in both (R7, R18), and keeps every
entry's state, wait reason and indication in agreement (R78, R79, R13). -/
def Obligations.EveryStepKeepsTheTable : Prop :=
  ∀ s t : State, step s = .next t →
    (s.TableSound → t.TableSound) ∧ (s.EntriesSound → t.EntriesSound)

/-- Every command keeps the entries that stay in their order, and only a CHECK_IN or POSITION admits one, at the tail,
with the admission number after the last (R7). The admission counter goes back, and the table empties with it, only
at a reset: POWER_ON_RESET, the two rows of a restart taking effect, and the end of a restart's REPLY (R25, R145). -/
def Obligations.EveryCommandKeepsAdmissionOrder : Prop :=
  ∀ (c : Instr) (s t : State), exec c s = .next t →
    ((t.table.map Entry.bus).Sublist (s.table.map Entry.bus) ∧ t.admissions = s.admissions) ∨
    ((c = .checkIn ∨ c = .position) ∧
      ∃ init e, t.table = init ++ [e] ∧ (init.map Entry.bus).Sublist (s.table.map Entry.bus) ∧
        e.admission = s.admissions + 1 ∧ t.admissions = s.admissions + 1) ∨
    (((∃ straps, c = .powerOnReset straps) ∨
        ((c = .restartTakesEffect ∨ c = .factoryTakesEffect ∨ c = .outboundFrameSent) ∧
          s.link.restart.isSome = true ∧ ∃ m, s.link.outbound.head? = some m ∧ m.final = true)) ∧
      t.table = [] ∧ t.admissions = 0)

/-- Every step keeps each intake queue within 8 telegrams (R4), and STANDBY empty of telegrams, entries and command work
(R6, R24, R108). -/
def Obligations.EveryStepKeepsTheQueues : Prop :=
  ∀ s t : State, step s = .next t → (s.QueuesSound → t.QueuesSound) ∧ (s.StandbyEmpty → t.StandbyEmpty)

/-- Every step keeps the outcome buffer within 64 records, the counters, tallies and fixed totals within their limits
(R159, R161, R165, R139), the tokens within Kmax and the ledger within its limits (R82, R84, R85). -/
def Obligations.EveryStepKeepsTheCounts : Prop :=
  ∀ s t : State, step s = .next t → (s.ReportsSound → t.ReportsSound) ∧ (s.AllowanceSound → t.AllowanceSound)

/-- Every step keeps at most 4 asked messages unanswered (R136) and the outbound queue as R138 counts it, so that it
never holds more than 16 messages. That the message at the head is the one in transmission is an inference (log
entry 6). -/
def Obligations.EveryStepKeepsTheLink : Prop :=
  (∀ s t : State, step s = .next t → s.LinkSound → t.LinkSound) ∧
  (∀ s : State, s.LinkSound → s.link.outbound.length ≤ 16)

/-- Every step keeps an anchor exactly outside NO_STATUS, the review timer running exactly in TRACKING, a plan for the
anchor in TRACKING (R48, R50, R63, R67), no pass half done (R66, R147), and, with STANDBY empty, what the projection
rests on: the horizon within its range, 2 to 8 phases with yellows of 20 or more, and an anchor, a grant, a command and
a lost tag that name phases of the intersection (R44, R47, R80, R154). -/
def Obligations.EveryStepKeepsModelAndPass : Prop :=
  ∀ s t : State, step s = .next t → (s.ModelSound → t.ModelSound) ∧ (s.PassSound → t.PassSound) ∧
    (s.StandbyEmpty → s.RingSound → t.RingSound)

/-- Every step keeps the member list of the active grant and the GRANTED entries the same buses, at most five, and each
COMMANDED entry the one of the command in the slot (R98, R80, R88). -/
def Obligations.EveryStepKeepsTheGrant : Prop :=
  ∀ s t : State, step s = .next t → s.TableSound → s.GrantSound → t.GrantSound

/-- Every step keeps the sizes of each port's store, histories and record, and each port DISABLED exactly when its
approach is not enabled (R114, R116, R122, R123, R129, R130). -/
def Obligations.EveryStepKeepsThePorts : Prop :=
  ∀ s t : State, step s = .next t → s.PortsSound → t.PortsSound

end
end

