-- ==== Sys2Proof/Laws/State.lean ====
section
/-! SUPPORT. One lemma per field for each plain update of the state: what it leaves and what it writes. -/

namespace Sys2Proof.Machine

/-! ### The planner -/

@[simp] theorem State.onPlanner_pending (s : State) (f : Planner → Planner) : (State.onPlanner s f).pending = s.pending := rfl
@[simp] theorem State.onPlanner_held (s : State) (f : Planner → Planner) : (State.onPlanner s f).held = s.held := rfl
@[simp] theorem State.onPlanner_mode (s : State) (f : Planner → Planner) : (State.onPlanner s f).mode = s.mode := rfl
@[simp] theorem State.onPlanner_now (s : State) (f : Planner → Planner) : (State.onPlanner s f).now = s.now := rfl
@[simp] theorem State.onPlanner_rate (s : State) (f : Planner → Planner) : (State.onPlanner s f).rate = s.rate := rfl
@[simp] theorem State.onPlanner_config (s : State) (f : Planner → Planner) : (State.onPlanner s f).config = s.config := rfl
@[simp] theorem State.onPlanner_intake (s : State) (f : Planner → Planner) : (State.onPlanner s f).intake = s.intake := rfl
@[simp] theorem State.onPlanner_table (s : State) (f : Planner → Planner) : (State.onPlanner s f).table = s.table := rfl
@[simp] theorem State.onPlanner_admissions (s : State) (f : Planner → Planner) : (State.onPlanner s f).admissions = s.admissions := rfl
@[simp] theorem State.onPlanner_cache (s : State) (f : Planner → Planner) : (State.onPlanner s f).cache = s.cache := rfl
@[simp] theorem State.onPlanner_model (s : State) (f : Planner → Planner) : (State.onPlanner s f).model = s.model := rfl
@[simp] theorem State.onPlanner_planner (s : State) (f : Planner → Planner) : (State.onPlanner s f).planner = f s.planner := rfl
@[simp] theorem State.onPlanner_outcomes (s : State) (f : Planner → Planner) : (State.onPlanner s f).outcomes = s.outcomes := rfl
@[simp] theorem State.onPlanner_stats (s : State) (f : Planner → Planner) : (State.onPlanner s f).stats = s.stats := rfl
@[simp] theorem State.onPlanner_notices (s : State) (f : Planner → Planner) : (State.onPlanner s f).notices = s.notices := rfl
@[simp] theorem State.onPlanner_link (s : State) (f : Planner → Planner) : (State.onPlanner s f).link = s.link := rfl
@[simp] theorem State.onPlanner_ports (s : State) (f : Planner → Planner) : (State.onPlanner s f).ports = s.ports := rfl
@[simp] theorem State.onPlanner_occupancyFed (s : State) (f : Planner → Planner) : (State.onPlanner s f).occupancyFed = s.occupancyFed := rfl
@[simp] theorem State.onPlanner_choices (s : State) (f : Planner → Planner) : (State.onPlanner s f).choices = s.choices := rfl

/-! ### The cabinet link -/

@[simp] theorem State.onLink_pending (s : State) (f : Link → Link) : (State.onLink s f).pending = s.pending := rfl
@[simp] theorem State.onLink_held (s : State) (f : Link → Link) : (State.onLink s f).held = s.held := rfl
@[simp] theorem State.onLink_mode (s : State) (f : Link → Link) : (State.onLink s f).mode = s.mode := rfl
@[simp] theorem State.onLink_now (s : State) (f : Link → Link) : (State.onLink s f).now = s.now := rfl
@[simp] theorem State.onLink_rate (s : State) (f : Link → Link) : (State.onLink s f).rate = s.rate := rfl
@[simp] theorem State.onLink_config (s : State) (f : Link → Link) : (State.onLink s f).config = s.config := rfl
@[simp] theorem State.onLink_intake (s : State) (f : Link → Link) : (State.onLink s f).intake = s.intake := rfl
@[simp] theorem State.onLink_table (s : State) (f : Link → Link) : (State.onLink s f).table = s.table := rfl
@[simp] theorem State.onLink_admissions (s : State) (f : Link → Link) : (State.onLink s f).admissions = s.admissions := rfl
@[simp] theorem State.onLink_cache (s : State) (f : Link → Link) : (State.onLink s f).cache = s.cache := rfl
@[simp] theorem State.onLink_model (s : State) (f : Link → Link) : (State.onLink s f).model = s.model := rfl
@[simp] theorem State.onLink_planner (s : State) (f : Link → Link) : (State.onLink s f).planner = s.planner := rfl
@[simp] theorem State.onLink_outcomes (s : State) (f : Link → Link) : (State.onLink s f).outcomes = s.outcomes := rfl
@[simp] theorem State.onLink_stats (s : State) (f : Link → Link) : (State.onLink s f).stats = s.stats := rfl
@[simp] theorem State.onLink_notices (s : State) (f : Link → Link) : (State.onLink s f).notices = s.notices := rfl
@[simp] theorem State.onLink_link (s : State) (f : Link → Link) : (State.onLink s f).link = f s.link := rfl
@[simp] theorem State.onLink_ports (s : State) (f : Link → Link) : (State.onLink s f).ports = s.ports := rfl
@[simp] theorem State.onLink_occupancyFed (s : State) (f : Link → Link) : (State.onLink s f).occupancyFed = s.occupancyFed := rfl
@[simp] theorem State.onLink_choices (s : State) (f : Link → Link) : (State.onLink s f).choices = s.choices := rfl

/-! ### One port -/

@[simp] theorem State.onPort_pending (s : State) (x : Approach) (f : Port → Port) : (State.onPort s x f).pending = s.pending := rfl
@[simp] theorem State.onPort_held (s : State) (x : Approach) (f : Port → Port) : (State.onPort s x f).held = s.held := rfl
@[simp] theorem State.onPort_mode (s : State) (x : Approach) (f : Port → Port) : (State.onPort s x f).mode = s.mode := rfl
@[simp] theorem State.onPort_now (s : State) (x : Approach) (f : Port → Port) : (State.onPort s x f).now = s.now := rfl
@[simp] theorem State.onPort_rate (s : State) (x : Approach) (f : Port → Port) : (State.onPort s x f).rate = s.rate := rfl
@[simp] theorem State.onPort_config (s : State) (x : Approach) (f : Port → Port) : (State.onPort s x f).config = s.config := rfl
@[simp] theorem State.onPort_intake (s : State) (x : Approach) (f : Port → Port) : (State.onPort s x f).intake = s.intake := rfl
@[simp] theorem State.onPort_table (s : State) (x : Approach) (f : Port → Port) : (State.onPort s x f).table = s.table := rfl
@[simp] theorem State.onPort_admissions (s : State) (x : Approach) (f : Port → Port) : (State.onPort s x f).admissions = s.admissions := rfl
@[simp] theorem State.onPort_cache (s : State) (x : Approach) (f : Port → Port) : (State.onPort s x f).cache = s.cache := rfl
@[simp] theorem State.onPort_model (s : State) (x : Approach) (f : Port → Port) : (State.onPort s x f).model = s.model := rfl
@[simp] theorem State.onPort_planner (s : State) (x : Approach) (f : Port → Port) : (State.onPort s x f).planner = s.planner := rfl
@[simp] theorem State.onPort_outcomes (s : State) (x : Approach) (f : Port → Port) : (State.onPort s x f).outcomes = s.outcomes := rfl
@[simp] theorem State.onPort_stats (s : State) (x : Approach) (f : Port → Port) : (State.onPort s x f).stats = s.stats := rfl
@[simp] theorem State.onPort_notices (s : State) (x : Approach) (f : Port → Port) : (State.onPort s x f).notices = s.notices := rfl
@[simp] theorem State.onPort_link (s : State) (x : Approach) (f : Port → Port) : (State.onPort s x f).link = s.link := rfl
@[simp] theorem State.onPort_ports (s : State) (x : Approach) (f : Port → Port) : (State.onPort s x f).ports = s.ports.set x (f (s.ports.get x)) := rfl
@[simp] theorem State.onPort_occupancyFed (s : State) (x : Approach) (f : Port → Port) : (State.onPort s x f).occupancyFed = s.occupancyFed := rfl
@[simp] theorem State.onPort_choices (s : State) (x : Approach) (f : Port → Port) : (State.onPort s x f).choices = s.choices := rfl

/-! ### The totals -/

@[simp] theorem State.onTotals_pending (s : State) (f : Totals → Totals) : (State.onTotals s f).pending = s.pending := rfl
@[simp] theorem State.onTotals_held (s : State) (f : Totals → Totals) : (State.onTotals s f).held = s.held := rfl
@[simp] theorem State.onTotals_mode (s : State) (f : Totals → Totals) : (State.onTotals s f).mode = s.mode := rfl
@[simp] theorem State.onTotals_now (s : State) (f : Totals → Totals) : (State.onTotals s f).now = s.now := rfl
@[simp] theorem State.onTotals_rate (s : State) (f : Totals → Totals) : (State.onTotals s f).rate = s.rate := rfl
@[simp] theorem State.onTotals_config (s : State) (f : Totals → Totals) : (State.onTotals s f).config = s.config := rfl
@[simp] theorem State.onTotals_intake (s : State) (f : Totals → Totals) : (State.onTotals s f).intake = s.intake := rfl
@[simp] theorem State.onTotals_table (s : State) (f : Totals → Totals) : (State.onTotals s f).table = s.table := rfl
@[simp] theorem State.onTotals_admissions (s : State) (f : Totals → Totals) : (State.onTotals s f).admissions = s.admissions := rfl
@[simp] theorem State.onTotals_cache (s : State) (f : Totals → Totals) : (State.onTotals s f).cache = s.cache := rfl
@[simp] theorem State.onTotals_model (s : State) (f : Totals → Totals) : (State.onTotals s f).model = s.model := rfl
@[simp] theorem State.onTotals_planner (s : State) (f : Totals → Totals) : (State.onTotals s f).planner = s.planner := rfl
@[simp] theorem State.onTotals_outcomes (s : State) (f : Totals → Totals) : (State.onTotals s f).outcomes = s.outcomes := rfl
@[simp] theorem State.onTotals_stats (s : State) (f : Totals → Totals) : (State.onTotals s f).stats = { s.stats with totals := f s.stats.totals } := rfl
@[simp] theorem State.onTotals_notices (s : State) (f : Totals → Totals) : (State.onTotals s f).notices = s.notices := rfl
@[simp] theorem State.onTotals_link (s : State) (f : Totals → Totals) : (State.onTotals s f).link = s.link := rfl
@[simp] theorem State.onTotals_ports (s : State) (f : Totals → Totals) : (State.onTotals s f).ports = s.ports := rfl
@[simp] theorem State.onTotals_occupancyFed (s : State) (f : Totals → Totals) : (State.onTotals s f).occupancyFed = s.occupancyFed := rfl
@[simp] theorem State.onTotals_choices (s : State) (f : Totals → Totals) : (State.onTotals s f).choices = s.choices := rfl

/-! ### The ledger -/

@[simp] theorem State.onLedger_pending (s : State) (f : Ledger → Ledger) : (State.onLedger s f).pending = s.pending := rfl
@[simp] theorem State.onLedger_held (s : State) (f : Ledger → Ledger) : (State.onLedger s f).held = s.held := rfl
@[simp] theorem State.onLedger_mode (s : State) (f : Ledger → Ledger) : (State.onLedger s f).mode = s.mode := rfl
@[simp] theorem State.onLedger_now (s : State) (f : Ledger → Ledger) : (State.onLedger s f).now = s.now := rfl
@[simp] theorem State.onLedger_rate (s : State) (f : Ledger → Ledger) : (State.onLedger s f).rate = s.rate := rfl
@[simp] theorem State.onLedger_config (s : State) (f : Ledger → Ledger) : (State.onLedger s f).config = s.config := rfl
@[simp] theorem State.onLedger_intake (s : State) (f : Ledger → Ledger) : (State.onLedger s f).intake = s.intake := rfl
@[simp] theorem State.onLedger_table (s : State) (f : Ledger → Ledger) : (State.onLedger s f).table = s.table := rfl
@[simp] theorem State.onLedger_admissions (s : State) (f : Ledger → Ledger) : (State.onLedger s f).admissions = s.admissions := rfl
@[simp] theorem State.onLedger_cache (s : State) (f : Ledger → Ledger) : (State.onLedger s f).cache = s.cache := rfl
@[simp] theorem State.onLedger_model (s : State) (f : Ledger → Ledger) : (State.onLedger s f).model = s.model := rfl
@[simp] theorem State.onLedger_planner (s : State) (f : Ledger → Ledger) : (State.onLedger s f).planner = { s.planner with ledger := f s.planner.ledger } := rfl
@[simp] theorem State.onLedger_outcomes (s : State) (f : Ledger → Ledger) : (State.onLedger s f).outcomes = s.outcomes := rfl
@[simp] theorem State.onLedger_stats (s : State) (f : Ledger → Ledger) : (State.onLedger s f).stats = s.stats := rfl
@[simp] theorem State.onLedger_notices (s : State) (f : Ledger → Ledger) : (State.onLedger s f).notices = s.notices := rfl
@[simp] theorem State.onLedger_link (s : State) (f : Ledger → Ledger) : (State.onLedger s f).link = s.link := rfl
@[simp] theorem State.onLedger_ports (s : State) (f : Ledger → Ledger) : (State.onLedger s f).ports = s.ports := rfl
@[simp] theorem State.onLedger_occupancyFed (s : State) (f : Ledger → Ledger) : (State.onLedger s f).occupancyFed = s.occupancyFed := rfl
@[simp] theorem State.onLedger_choices (s : State) (f : Ledger → Ledger) : (State.onLedger s f).choices = s.choices := rfl

/-! ### The active grant -/

@[simp] theorem State.onGrant_pending (s : State) (f : Grant → Grant) : (State.onGrant s f).pending = s.pending := rfl
@[simp] theorem State.onGrant_held (s : State) (f : Grant → Grant) : (State.onGrant s f).held = s.held := rfl
@[simp] theorem State.onGrant_mode (s : State) (f : Grant → Grant) : (State.onGrant s f).mode = s.mode := rfl
@[simp] theorem State.onGrant_now (s : State) (f : Grant → Grant) : (State.onGrant s f).now = s.now := rfl
@[simp] theorem State.onGrant_rate (s : State) (f : Grant → Grant) : (State.onGrant s f).rate = s.rate := rfl
@[simp] theorem State.onGrant_config (s : State) (f : Grant → Grant) : (State.onGrant s f).config = s.config := rfl
@[simp] theorem State.onGrant_intake (s : State) (f : Grant → Grant) : (State.onGrant s f).intake = s.intake := rfl
@[simp] theorem State.onGrant_table (s : State) (f : Grant → Grant) : (State.onGrant s f).table = s.table := rfl
@[simp] theorem State.onGrant_admissions (s : State) (f : Grant → Grant) : (State.onGrant s f).admissions = s.admissions := rfl
@[simp] theorem State.onGrant_cache (s : State) (f : Grant → Grant) : (State.onGrant s f).cache = s.cache := rfl
@[simp] theorem State.onGrant_model (s : State) (f : Grant → Grant) : (State.onGrant s f).model = s.model := rfl
@[simp] theorem State.onGrant_planner (s : State) (f : Grant → Grant) : (State.onGrant s f).planner = { s.planner with grant := s.planner.grant.map f } := rfl
@[simp] theorem State.onGrant_outcomes (s : State) (f : Grant → Grant) : (State.onGrant s f).outcomes = s.outcomes := rfl
@[simp] theorem State.onGrant_stats (s : State) (f : Grant → Grant) : (State.onGrant s f).stats = s.stats := rfl
@[simp] theorem State.onGrant_notices (s : State) (f : Grant → Grant) : (State.onGrant s f).notices = s.notices := rfl
@[simp] theorem State.onGrant_link (s : State) (f : Grant → Grant) : (State.onGrant s f).link = s.link := rfl
@[simp] theorem State.onGrant_ports (s : State) (f : Grant → Grant) : (State.onGrant s f).ports = s.ports := rfl
@[simp] theorem State.onGrant_occupancyFed (s : State) (f : Grant → Grant) : (State.onGrant s f).occupancyFed = s.occupancyFed := rfl
@[simp] theorem State.onGrant_choices (s : State) (f : Grant → Grant) : (State.onGrant s f).choices = s.choices := rfl

/-! ### A queued message -/

@[simp] theorem queueMessage_pending (m : OutMessage) (s : State) : (queueMessage m s).pending = s.pending := rfl
@[simp] theorem queueMessage_held (m : OutMessage) (s : State) : (queueMessage m s).held = s.held := rfl
@[simp] theorem queueMessage_mode (m : OutMessage) (s : State) : (queueMessage m s).mode = s.mode := rfl
@[simp] theorem queueMessage_now (m : OutMessage) (s : State) : (queueMessage m s).now = s.now := rfl
@[simp] theorem queueMessage_rate (m : OutMessage) (s : State) : (queueMessage m s).rate = s.rate := rfl
@[simp] theorem queueMessage_config (m : OutMessage) (s : State) : (queueMessage m s).config = s.config := rfl
@[simp] theorem queueMessage_intake (m : OutMessage) (s : State) : (queueMessage m s).intake = s.intake := rfl
@[simp] theorem queueMessage_table (m : OutMessage) (s : State) : (queueMessage m s).table = s.table := rfl
@[simp] theorem queueMessage_admissions (m : OutMessage) (s : State) : (queueMessage m s).admissions = s.admissions := rfl
@[simp] theorem queueMessage_cache (m : OutMessage) (s : State) : (queueMessage m s).cache = s.cache := rfl
@[simp] theorem queueMessage_model (m : OutMessage) (s : State) : (queueMessage m s).model = s.model := rfl
@[simp] theorem queueMessage_planner (m : OutMessage) (s : State) : (queueMessage m s).planner = s.planner := rfl
@[simp] theorem queueMessage_outcomes (m : OutMessage) (s : State) : (queueMessage m s).outcomes = s.outcomes := rfl
@[simp] theorem queueMessage_stats (m : OutMessage) (s : State) : (queueMessage m s).stats = s.stats := rfl
@[simp] theorem queueMessage_notices (m : OutMessage) (s : State) : (queueMessage m s).notices = s.notices := rfl
@[simp] theorem queueMessage_link (m : OutMessage) (s : State) : (queueMessage m s).link = { s.link with outbound := s.link.outbound ++ [m] } := rfl
@[simp] theorem queueMessage_ports (m : OutMessage) (s : State) : (queueMessage m s).ports = s.ports := rfl
@[simp] theorem queueMessage_occupancyFed (m : OutMessage) (s : State) : (queueMessage m s).occupancyFed = s.occupancyFed := rfl
@[simp] theorem queueMessage_choices (m : OutMessage) (s : State) : (queueMessage m s).choices = s.choices := rfl

/-! ### A rewritten entry -/

@[simp] theorem updateEntry_pending (bus : Nat) (f : Entry → Entry) (s : State) : (updateEntry bus f s).pending = s.pending := rfl
@[simp] theorem updateEntry_held (bus : Nat) (f : Entry → Entry) (s : State) : (updateEntry bus f s).held = s.held := rfl
@[simp] theorem updateEntry_mode (bus : Nat) (f : Entry → Entry) (s : State) : (updateEntry bus f s).mode = s.mode := rfl
@[simp] theorem updateEntry_now (bus : Nat) (f : Entry → Entry) (s : State) : (updateEntry bus f s).now = s.now := rfl
@[simp] theorem updateEntry_rate (bus : Nat) (f : Entry → Entry) (s : State) : (updateEntry bus f s).rate = s.rate := rfl
@[simp] theorem updateEntry_config (bus : Nat) (f : Entry → Entry) (s : State) : (updateEntry bus f s).config = s.config := rfl
@[simp] theorem updateEntry_intake (bus : Nat) (f : Entry → Entry) (s : State) : (updateEntry bus f s).intake = s.intake := rfl
@[simp] theorem updateEntry_table (bus : Nat) (f : Entry → Entry) (s : State) : (updateEntry bus f s).table = s.table.map fun e => if e.bus = bus then f e else e := rfl
@[simp] theorem updateEntry_admissions (bus : Nat) (f : Entry → Entry) (s : State) : (updateEntry bus f s).admissions = s.admissions := rfl
@[simp] theorem updateEntry_cache (bus : Nat) (f : Entry → Entry) (s : State) : (updateEntry bus f s).cache = s.cache := rfl
@[simp] theorem updateEntry_model (bus : Nat) (f : Entry → Entry) (s : State) : (updateEntry bus f s).model = s.model := rfl
@[simp] theorem updateEntry_planner (bus : Nat) (f : Entry → Entry) (s : State) : (updateEntry bus f s).planner = s.planner := rfl
@[simp] theorem updateEntry_outcomes (bus : Nat) (f : Entry → Entry) (s : State) : (updateEntry bus f s).outcomes = s.outcomes := rfl
@[simp] theorem updateEntry_stats (bus : Nat) (f : Entry → Entry) (s : State) : (updateEntry bus f s).stats = s.stats := rfl
@[simp] theorem updateEntry_notices (bus : Nat) (f : Entry → Entry) (s : State) : (updateEntry bus f s).notices = s.notices := rfl
@[simp] theorem updateEntry_link (bus : Nat) (f : Entry → Entry) (s : State) : (updateEntry bus f s).link = s.link := rfl
@[simp] theorem updateEntry_ports (bus : Nat) (f : Entry → Entry) (s : State) : (updateEntry bus f s).ports = s.ports := rfl
@[simp] theorem updateEntry_occupancyFed (bus : Nat) (f : Entry → Entry) (s : State) : (updateEntry bus f s).occupancyFed = s.occupancyFed := rfl
@[simp] theorem updateEntry_choices (bus : Nat) (f : Entry → Entry) (s : State) : (updateEntry bus f s).choices = s.choices := rfl

/-! ### A removed entry -/

@[simp] theorem removeEntry_pending (bus : Nat) (s : State) : (removeEntry bus s).pending = s.pending := rfl
@[simp] theorem removeEntry_held (bus : Nat) (s : State) : (removeEntry bus s).held = s.held := rfl
@[simp] theorem removeEntry_mode (bus : Nat) (s : State) : (removeEntry bus s).mode = s.mode := rfl
@[simp] theorem removeEntry_now (bus : Nat) (s : State) : (removeEntry bus s).now = s.now := rfl
@[simp] theorem removeEntry_rate (bus : Nat) (s : State) : (removeEntry bus s).rate = s.rate := rfl
@[simp] theorem removeEntry_config (bus : Nat) (s : State) : (removeEntry bus s).config = s.config := rfl
@[simp] theorem removeEntry_intake (bus : Nat) (s : State) : (removeEntry bus s).intake = s.intake := rfl
@[simp] theorem removeEntry_table (bus : Nat) (s : State) : (removeEntry bus s).table = s.table.filter fun e => e.bus != bus := rfl
@[simp] theorem removeEntry_admissions (bus : Nat) (s : State) : (removeEntry bus s).admissions = s.admissions := rfl
@[simp] theorem removeEntry_cache (bus : Nat) (s : State) : (removeEntry bus s).cache = s.cache := rfl
@[simp] theorem removeEntry_model (bus : Nat) (s : State) : (removeEntry bus s).model = s.model := rfl
@[simp] theorem removeEntry_planner (bus : Nat) (s : State) : (removeEntry bus s).planner = s.planner := rfl
@[simp] theorem removeEntry_outcomes (bus : Nat) (s : State) : (removeEntry bus s).outcomes = s.outcomes := rfl
@[simp] theorem removeEntry_stats (bus : Nat) (s : State) : (removeEntry bus s).stats = s.stats := rfl
@[simp] theorem removeEntry_notices (bus : Nat) (s : State) : (removeEntry bus s).notices = s.notices := rfl
@[simp] theorem removeEntry_link (bus : Nat) (s : State) : (removeEntry bus s).link = s.link := rfl
@[simp] theorem removeEntry_ports (bus : Nat) (s : State) : (removeEntry bus s).ports = s.ports := rfl
@[simp] theorem removeEntry_occupancyFed (bus : Nat) (s : State) : (removeEntry bus s).occupancyFed = s.occupancyFed := rfl
@[simp] theorem removeEntry_choices (bus : Nat) (s : State) : (removeEntry bus s).choices = s.choices := rfl

/-! ### A tenth of part time -/

@[simp] theorem tick_pending (s : State) : (tick s).pending = s.pending := rfl
@[simp] theorem tick_held (s : State) : (tick s).held = s.held := rfl
@[simp] theorem tick_mode (s : State) : (tick s).mode = s.mode := rfl
@[simp] theorem tick_now (s : State) : (tick s).now = s.now + 1 := rfl
@[simp] theorem tick_rate (s : State) : (tick s).rate = s.rate := rfl
@[simp] theorem tick_config (s : State) : (tick s).config = s.config := rfl
@[simp] theorem tick_intake (s : State) : (tick s).intake = s.intake := rfl
@[simp] theorem tick_table (s : State) : (tick s).table = s.table := rfl
@[simp] theorem tick_admissions (s : State) : (tick s).admissions = s.admissions := rfl
@[simp] theorem tick_cache (s : State) : (tick s).cache = s.cache := rfl
@[simp] theorem tick_model (s : State) : (tick s).model = s.model := rfl
@[simp] theorem tick_planner (s : State) : (tick s).planner = s.planner := rfl
@[simp] theorem tick_outcomes (s : State) : (tick s).outcomes = s.outcomes := rfl
@[simp] theorem tick_stats (s : State) : (tick s).stats = s.stats := rfl
@[simp] theorem tick_notices (s : State) : (tick s).notices = s.notices := rfl
@[simp] theorem tick_link (s : State) : (tick s).link = s.link := rfl
@[simp] theorem tick_ports (s : State) : (tick s).ports = s.ports := rfl
@[simp] theorem tick_occupancyFed (s : State) : (tick s).occupancyFed = false := rfl
@[simp] theorem tick_choices (s : State) : (tick s).choices = s.choices := rfl

/-! ### An entry's place -/

@[simp] theorem Entry.place_bus (e : Entry) (st : EntryState) (why : Option WaitReason) : (e.place st why).bus = e.bus := rfl
@[simp] theorem Entry.place_state (e : Entry) (st : EntryState) (why : Option WaitReason) : (e.place st why).state = st := rfl
@[simp] theorem Entry.place_reason (e : Entry) (st : EntryState) (why : Option WaitReason) : (e.place st why).reason = why := rfl
@[simp] theorem Entry.place_indication (e : Entry) (st : EntryState) (why : Option WaitReason) :
    (e.place st why).indication = indicationOf st e.est.eligibility := rfl
@[simp] theorem Entry.place_est (e : Entry) (st : EntryState) (why : Option WaitReason) : (e.place st why).est = e.est := rfl
@[simp] theorem Entry.place_ring (e : Entry) (st : EntryState) (why : Option WaitReason) : (e.place st why).ring = e.ring := rfl

/-! ### A port whose inbound bits clock its return frame -/

@[simp] theorem Port.clocked_framer (n : Nat) (p : Port) : (p.clocked n).framer = p.framer := rfl
@[simp] theorem Port.clocked_bits (n : Nat) (p : Port) : (p.clocked n).bits = p.bits := rfl
@[simp] theorem Port.clocked_passed (n : Nat) (p : Port) : (p.clocked n).passed = p.passed := rfl
@[simp] theorem Port.clocked_expected (n : Nat) (p : Port) : (p.clocked n).expected = p.expected := rfl
@[simp] theorem Port.clocked_judged (n : Nat) (p : Port) : (p.clocked n).judged = p.judged := rfl
@[simp] theorem Port.clocked_store (n : Nat) (p : Port) : (p.clocked n).store = p.store := rfl
@[simp] theorem Port.clocked_centring (n : Nat) (p : Port) : (p.clocked n).centring = p.centring := rfl
@[simp] theorem Port.clocked_quarter (n : Nat) (p : Port) : (p.clocked n).quarter = p.quarter := rfl
@[simp] theorem Port.clocked_history (n : Nat) (p : Port) : (p.clocked n).history = p.history := rfl
@[simp] theorem Port.clocked_returnPos (n : Nat) (p : Port) : (p.clocked n).returnPos = p.returnPos := rfl
@[simp] theorem Port.clocked_sent (n : Nat) (p : Port) : (p.clocked n).sent = p.sent := rfl
@[simp] theorem Port.finishLocally_framer (p : Port) : p.finishLocally.framer = p.framer := rfl
@[simp] theorem Port.finishLocally_store (p : Port) : p.finishLocally.store = p.store := rfl

/-- A frame that is sent at local timing, and a port that sends none, are not clocked by inbound bits (R124). -/
theorem Port.clocked_local {n : Nat} {p : Port} (h : ∀ r, p.sending = some r → r.timing = .local) : p.clocked n = p := by
  unfold Port.clocked
  cases hs : p.sending with
  | none => cases p; simp_all
  | some r => have := h r hs; cases p; simp_all

/-! ### One of several like things -/

@[simp] theorem PerApproach.get_set_self {α : Type} (v : PerApproach α) (x : Approach) (w : α) : (v.set x w).get x = w := by
  cases x <;> rfl

theorem PerApproach.get_set_other {α : Type} (v : PerApproach α) (x y : Approach) (w : α) (h : y ≠ x) :
    (v.set x w).get y = v.get y := by
  cases x <;> cases y <;> first | rfl | exact absurd rfl h

@[simp] theorem PerApproach.get_all {α : Type} (w : α) (x : Approach) : (PerApproach.all w).get x = w := by
  cases x <;> rfl

@[simp] theorem PerSource.get_set_self {α : Type} (v : PerSource α) (q : Source) (w : α) : (v.set q w).get q = w := by
  cases q with
  | port x => cases x <;> rfl
  | cabinet => rfl

theorem PerSource.get_set_other {α : Type} (v : PerSource α) (q r : Source) (w : α) (h : r ≠ q) :
    (v.set q w).get r = v.get r := by
  cases q with
  | port x => cases r with
    | port y => exact PerApproach.get_set_other v.ports x y w (fun e => h (by rw [e]))
    | cabinet => rfl
  | cabinet => cases r with
    | port y => rfl
    | cabinet => exact absurd rfl h

@[simp] theorem PerSource.get_all {α : Type} (w : α) (q : Source) : (PerSource.all w).get q = w := by
  cases q with
  | port x => cases x <;> rfl
  | cabinet => rfl

@[simp] theorem PerLatch.get_set_self {α : Type} (v : PerLatch α) (l : Latch) (w : α) : (v.set l w).get l = w := by
  cases l <;> first | rfl | exact PerApproach.get_set_self _ _ _

theorem PerLatch.get_set_other {α : Type} (v : PerLatch α) (l k : Latch) (w : α) (h : k ≠ l) :
    (v.set l w).get k = v.get k := by
  cases l <;> cases k <;>
    first
      | rfl
      | exact absurd rfl h
      | exact PerApproach.get_set_other _ _ _ _ (fun e => h (by rw [e]))

@[simp] theorem PerLatch.get_all {α : Type} (w : α) (l : Latch) : (PerLatch.all w).get l = w := by
  cases l <;> first | rfl | exact PerApproach.get_all _ _

end Sys2Proof.Machine
end

