-- ==== Sys2Proof/Laws/Ops.lean ====
section
/-! SUPPORT. For each shared operation, what it can do: which fields of the state it leaves as they are, and what it
writes into the others. -/

namespace Sys2Proof.Machine

set_option Elab.async false

/-! ### Folds that keep a field -/

/-- A fold of steps that each keep a quantity keeps it. -/
theorem foldl_keeps {α β γ : Type} (q : α → γ) (f : α → β → α) (h : ∀ a b, q (f a b) = q a) :
    ∀ (l : List β) (a : α), q (l.foldl f a) = q a
  | [], _ => rfl
  | b :: l, a => by rw [List.foldl_cons, foldl_keeps q f h l, h]

/-! ### Notices (R166, R138) -/

@[simp] theorem offerNotice_pending (l : Latch) (d : Nat) (s : State) : (offerNotice l d s).pending = s.pending := by unfold offerNotice; split <;> rfl
@[simp] theorem offerNotice_held (l : Latch) (d : Nat) (s : State) : (offerNotice l d s).held = s.held := by unfold offerNotice; split <;> rfl
@[simp] theorem offerNotice_mode (l : Latch) (d : Nat) (s : State) : (offerNotice l d s).mode = s.mode := by unfold offerNotice; split <;> rfl
@[simp] theorem offerNotice_now (l : Latch) (d : Nat) (s : State) : (offerNotice l d s).now = s.now := by unfold offerNotice; split <;> rfl
@[simp] theorem offerNotice_rate (l : Latch) (d : Nat) (s : State) : (offerNotice l d s).rate = s.rate := by unfold offerNotice; split <;> rfl
@[simp] theorem offerNotice_config (l : Latch) (d : Nat) (s : State) : (offerNotice l d s).config = s.config := by unfold offerNotice; split <;> rfl
@[simp] theorem offerNotice_intake (l : Latch) (d : Nat) (s : State) : (offerNotice l d s).intake = s.intake := by unfold offerNotice; split <;> rfl
@[simp] theorem offerNotice_table (l : Latch) (d : Nat) (s : State) : (offerNotice l d s).table = s.table := by unfold offerNotice; split <;> rfl
@[simp] theorem offerNotice_admissions (l : Latch) (d : Nat) (s : State) : (offerNotice l d s).admissions = s.admissions := by unfold offerNotice; split <;> rfl
@[simp] theorem offerNotice_cache (l : Latch) (d : Nat) (s : State) : (offerNotice l d s).cache = s.cache := by unfold offerNotice; split <;> rfl
@[simp] theorem offerNotice_model (l : Latch) (d : Nat) (s : State) : (offerNotice l d s).model = s.model := by unfold offerNotice; split <;> rfl
@[simp] theorem offerNotice_planner (l : Latch) (d : Nat) (s : State) : (offerNotice l d s).planner = s.planner := by unfold offerNotice; split <;> rfl
@[simp] theorem offerNotice_outcomes (l : Latch) (d : Nat) (s : State) : (offerNotice l d s).outcomes = s.outcomes := by unfold offerNotice; split <;> rfl
@[simp] theorem offerNotice_stats (l : Latch) (d : Nat) (s : State) : (offerNotice l d s).stats = s.stats := by unfold offerNotice; split <;> rfl
@[simp] theorem offerNotice_notices (l : Latch) (d : Nat) (s : State) : (offerNotice l d s).notices = s.notices := by unfold offerNotice; split <;> rfl
@[simp] theorem offerNotice_ports (l : Latch) (d : Nat) (s : State) : (offerNotice l d s).ports = s.ports := by unfold offerNotice; split <;> rfl
@[simp] theorem offerNotice_occupancyFed (l : Latch) (d : Nat) (s : State) : (offerNotice l d s).occupancyFed = s.occupancyFed := by unfold offerNotice; split <;> rfl
@[simp] theorem offerNotice_choices (l : Latch) (d : Nat) (s : State) : (offerNotice l d s).choices = s.choices := by unfold offerNotice; split <;> rfl

@[simp] theorem latchNotice_pending (l : Latch) (d : Nat) (s : State) : (latchNotice l d s).pending = s.pending := by
  unfold latchNotice; split <;> [rfl; (split <;> simp)]
@[simp] theorem latchNotice_held (l : Latch) (d : Nat) (s : State) : (latchNotice l d s).held = s.held := by
  unfold latchNotice; split <;> [rfl; (split <;> simp)]
@[simp] theorem latchNotice_mode (l : Latch) (d : Nat) (s : State) : (latchNotice l d s).mode = s.mode := by
  unfold latchNotice; split <;> [rfl; (split <;> simp)]
@[simp] theorem latchNotice_now (l : Latch) (d : Nat) (s : State) : (latchNotice l d s).now = s.now := by
  unfold latchNotice; split <;> [rfl; (split <;> simp)]
@[simp] theorem latchNotice_rate (l : Latch) (d : Nat) (s : State) : (latchNotice l d s).rate = s.rate := by
  unfold latchNotice; split <;> [rfl; (split <;> simp)]
@[simp] theorem latchNotice_config (l : Latch) (d : Nat) (s : State) : (latchNotice l d s).config = s.config := by
  unfold latchNotice; split <;> [rfl; (split <;> simp)]
@[simp] theorem latchNotice_intake (l : Latch) (d : Nat) (s : State) : (latchNotice l d s).intake = s.intake := by
  unfold latchNotice; split <;> [rfl; (split <;> simp)]
@[simp] theorem latchNotice_table (l : Latch) (d : Nat) (s : State) : (latchNotice l d s).table = s.table := by
  unfold latchNotice; split <;> [rfl; (split <;> simp)]
@[simp] theorem latchNotice_admissions (l : Latch) (d : Nat) (s : State) : (latchNotice l d s).admissions = s.admissions := by
  unfold latchNotice; split <;> [rfl; (split <;> simp)]
@[simp] theorem latchNotice_cache (l : Latch) (d : Nat) (s : State) : (latchNotice l d s).cache = s.cache := by
  unfold latchNotice; split <;> [rfl; (split <;> simp)]
@[simp] theorem latchNotice_model (l : Latch) (d : Nat) (s : State) : (latchNotice l d s).model = s.model := by
  unfold latchNotice; split <;> [rfl; (split <;> simp)]
@[simp] theorem latchNotice_planner (l : Latch) (d : Nat) (s : State) : (latchNotice l d s).planner = s.planner := by
  unfold latchNotice; split <;> [rfl; (split <;> simp)]
@[simp] theorem latchNotice_outcomes (l : Latch) (d : Nat) (s : State) : (latchNotice l d s).outcomes = s.outcomes := by
  unfold latchNotice; split <;> [rfl; (split <;> simp)]
@[simp] theorem latchNotice_stats (l : Latch) (d : Nat) (s : State) : (latchNotice l d s).stats = s.stats := by
  unfold latchNotice; split <;> [rfl; (split <;> simp)]
@[simp] theorem latchNotice_ports (l : Latch) (d : Nat) (s : State) : (latchNotice l d s).ports = s.ports := by
  unfold latchNotice; split <;> [rfl; (split <;> simp)]
@[simp] theorem latchNotice_occupancyFed (l : Latch) (d : Nat) (s : State) : (latchNotice l d s).occupancyFed = s.occupancyFed := by
  unfold latchNotice; split <;> [rfl; (split <;> simp)]
@[simp] theorem latchNotice_choices (l : Latch) (d : Nat) (s : State) : (latchNotice l d s).choices = s.choices := by
  unfold latchNotice; split <;> [rfl; (split <;> simp)]

/-- What a latching event does to the latches (R166). -/
theorem latchNotice_latches (l : Latch) (d : Nat) (s : State) :
    (latchNotice l d s).notices.latches =
      (if (s.notices.latches.get l).isSome then s.notices.latches
       else s.notices.latches.set l (some { detail := d, time := s.now })) := by
  unfold latchNotice
  cases h : s.notices.latches.get l with
  | some i => simp
  | none => by_cases m : s.notices.mask.get l = true <;> simp [m]

@[simp] theorem latchNotice_mask (l : Latch) (d : Nat) (s : State) :
    (latchNotice l d s).notices.mask = s.notices.mask := by
  unfold latchNotice; split <;> [rfl; (split <;> simp)]

/-- A notice offered: it joins the queue, or is dropped and tallied (R138). -/
theorem offerNotice_link (l : Latch) (d : Nat) (s : State) :
    (∃ m, m.kind = .notice ∧ s.link.outbound.length < 10 ∧
      (offerNotice l d s).link = { s.link with outbound := s.link.outbound ++ [m] }) ∨
    (10 ≤ s.link.outbound.length ∧
      (offerNotice l d s).link = { s.link with noticesDropped := tally16 s.link.noticesDropped }) := by
  unfold offerNotice
  split
  · next h => exact .inl ⟨_, rfl, h, rfl⟩
  · next h => exact .inr ⟨Nat.le_of_not_lt h, rfl⟩

/-- What a latching event does to the cabinet link: nothing, a queued NOTICE, or a dropped one. -/
theorem latchNotice_link (l : Latch) (d : Nat) (s : State) :
    (latchNotice l d s).link = s.link ∨
    (∃ m, m.kind = .notice ∧ s.link.outbound.length < 10 ∧
      (latchNotice l d s).link = { s.link with outbound := s.link.outbound ++ [m] }) ∨
    (10 ≤ s.link.outbound.length ∧
      (latchNotice l d s).link = { s.link with noticesDropped := tally16 s.link.noticesDropped }) := by
  unfold latchNotice
  split
  · exact .inl rfl
  · dsimp only
    split
    · exact .inr (offerNotice_link l d { s with notices := { s.notices with
        latches := s.notices.latches.set l (some { detail := d, time := s.now }) } })
    · exact .inl rfl

/-! ### Counting (R162) -/

@[simp] theorem addToCounters_pending (f : Counter → Nat) (s : State) : (addToCounters f s).pending = s.pending := by
  unfold addToCounters; exact foldl_keeps (fun t : State => t.pending) _ (fun t _ => latchNotice_pending _ _ t) _ _
@[simp] theorem addToCounters_held (f : Counter → Nat) (s : State) : (addToCounters f s).held = s.held := by
  unfold addToCounters; exact foldl_keeps (fun t : State => t.held) _ (fun t _ => latchNotice_held _ _ t) _ _
@[simp] theorem addToCounters_mode (f : Counter → Nat) (s : State) : (addToCounters f s).mode = s.mode := by
  unfold addToCounters; exact foldl_keeps (fun t : State => t.mode) _ (fun t _ => latchNotice_mode _ _ t) _ _
@[simp] theorem addToCounters_now (f : Counter → Nat) (s : State) : (addToCounters f s).now = s.now := by
  unfold addToCounters; exact foldl_keeps (fun t : State => t.now) _ (fun t _ => latchNotice_now _ _ t) _ _
@[simp] theorem addToCounters_rate (f : Counter → Nat) (s : State) : (addToCounters f s).rate = s.rate := by
  unfold addToCounters; exact foldl_keeps (fun t : State => t.rate) _ (fun t _ => latchNotice_rate _ _ t) _ _
@[simp] theorem addToCounters_config (f : Counter → Nat) (s : State) : (addToCounters f s).config = s.config := by
  unfold addToCounters; exact foldl_keeps (fun t : State => t.config) _ (fun t _ => latchNotice_config _ _ t) _ _
@[simp] theorem addToCounters_intake (f : Counter → Nat) (s : State) : (addToCounters f s).intake = s.intake := by
  unfold addToCounters; exact foldl_keeps (fun t : State => t.intake) _ (fun t _ => latchNotice_intake _ _ t) _ _
@[simp] theorem addToCounters_table (f : Counter → Nat) (s : State) : (addToCounters f s).table = s.table := by
  unfold addToCounters; exact foldl_keeps (fun t : State => t.table) _ (fun t _ => latchNotice_table _ _ t) _ _
@[simp] theorem addToCounters_admissions (f : Counter → Nat) (s : State) : (addToCounters f s).admissions = s.admissions := by
  unfold addToCounters; exact foldl_keeps (fun t : State => t.admissions) _ (fun t _ => latchNotice_admissions _ _ t) _ _
@[simp] theorem addToCounters_cache (f : Counter → Nat) (s : State) : (addToCounters f s).cache = s.cache := by
  unfold addToCounters; exact foldl_keeps (fun t : State => t.cache) _ (fun t _ => latchNotice_cache _ _ t) _ _
@[simp] theorem addToCounters_model (f : Counter → Nat) (s : State) : (addToCounters f s).model = s.model := by
  unfold addToCounters; exact foldl_keeps (fun t : State => t.model) _ (fun t _ => latchNotice_model _ _ t) _ _
@[simp] theorem addToCounters_planner (f : Counter → Nat) (s : State) : (addToCounters f s).planner = s.planner := by
  unfold addToCounters; exact foldl_keeps (fun t : State => t.planner) _ (fun t _ => latchNotice_planner _ _ t) _ _
@[simp] theorem addToCounters_outcomes (f : Counter → Nat) (s : State) : (addToCounters f s).outcomes = s.outcomes := by
  unfold addToCounters; exact foldl_keeps (fun t : State => t.outcomes) _ (fun t _ => latchNotice_outcomes _ _ t) _ _
@[simp] theorem addToCounters_ports (f : Counter → Nat) (s : State) : (addToCounters f s).ports = s.ports := by
  unfold addToCounters; exact foldl_keeps (fun t : State => t.ports) _ (fun t _ => latchNotice_ports _ _ t) _ _
@[simp] theorem addToCounters_occupancyFed (f : Counter → Nat) (s : State) : (addToCounters f s).occupancyFed = s.occupancyFed := by
  unfold addToCounters; exact foldl_keeps (fun t : State => t.occupancyFed) _ (fun t _ => latchNotice_occupancyFed _ _ t) _ _
@[simp] theorem addToCounters_choices (f : Counter → Nat) (s : State) : (addToCounters f s).choices = s.choices := by
  unfold addToCounters; exact foldl_keeps (fun t : State => t.choices) _ (fun t _ => latchNotice_choices _ _ t) _ _

/-- The counters after an addition (R162, R163). -/
theorem addToCounters_stats (f : Counter → Nat) (s : State) :
    (addToCounters f s).stats = { s.stats with counters := s.stats.counters.map fun c => c.add (f c) } := by
  unfold addToCounters; exact foldl_keeps (fun t : State => t.stats) _ (fun a b => latchNotice_stats _ _ a) _ _

@[simp] theorem addToCounters_totals (f : Counter → Nat) (s : State) :
    (addToCounters f s).stats.totals = s.stats.totals := by rw [addToCounters_stats]

@[simp] theorem addToCounters_mask (f : Counter → Nat) (s : State) :
    (addToCounters f s).notices.mask = s.notices.mask := by
  unfold addToCounters; exact foldl_keeps (fun t : State => t.notices.mask) _ (fun a b => latchNotice_mask _ _ a) _ _

@[simp] theorem countEvent_pending (ev : EventKind) (sub : Nat) (src : Option Source) (s : State) : (countEvent ev sub src s).pending = s.pending := by unfold countEvent; simp
@[simp] theorem countEvent_held (ev : EventKind) (sub : Nat) (src : Option Source) (s : State) : (countEvent ev sub src s).held = s.held := by unfold countEvent; simp
@[simp] theorem countEvent_mode (ev : EventKind) (sub : Nat) (src : Option Source) (s : State) : (countEvent ev sub src s).mode = s.mode := by unfold countEvent; simp
@[simp] theorem countEvent_now (ev : EventKind) (sub : Nat) (src : Option Source) (s : State) : (countEvent ev sub src s).now = s.now := by unfold countEvent; simp
@[simp] theorem countEvent_rate (ev : EventKind) (sub : Nat) (src : Option Source) (s : State) : (countEvent ev sub src s).rate = s.rate := by unfold countEvent; simp
@[simp] theorem countEvent_config (ev : EventKind) (sub : Nat) (src : Option Source) (s : State) : (countEvent ev sub src s).config = s.config := by unfold countEvent; simp
@[simp] theorem countEvent_intake (ev : EventKind) (sub : Nat) (src : Option Source) (s : State) : (countEvent ev sub src s).intake = s.intake := by unfold countEvent; simp
@[simp] theorem countEvent_table (ev : EventKind) (sub : Nat) (src : Option Source) (s : State) : (countEvent ev sub src s).table = s.table := by unfold countEvent; simp
@[simp] theorem countEvent_admissions (ev : EventKind) (sub : Nat) (src : Option Source) (s : State) : (countEvent ev sub src s).admissions = s.admissions := by unfold countEvent; simp
@[simp] theorem countEvent_cache (ev : EventKind) (sub : Nat) (src : Option Source) (s : State) : (countEvent ev sub src s).cache = s.cache := by unfold countEvent; simp
@[simp] theorem countEvent_model (ev : EventKind) (sub : Nat) (src : Option Source) (s : State) : (countEvent ev sub src s).model = s.model := by unfold countEvent; simp
@[simp] theorem countEvent_planner (ev : EventKind) (sub : Nat) (src : Option Source) (s : State) : (countEvent ev sub src s).planner = s.planner := by unfold countEvent; simp
@[simp] theorem countEvent_outcomes (ev : EventKind) (sub : Nat) (src : Option Source) (s : State) : (countEvent ev sub src s).outcomes = s.outcomes := by unfold countEvent; simp
@[simp] theorem countEvent_ports (ev : EventKind) (sub : Nat) (src : Option Source) (s : State) : (countEvent ev sub src s).ports = s.ports := by unfold countEvent; simp
@[simp] theorem countEvent_occupancyFed (ev : EventKind) (sub : Nat) (src : Option Source) (s : State) : (countEvent ev sub src s).occupancyFed = s.occupancyFed := by unfold countEvent; simp
@[simp] theorem countEvent_choices (ev : EventKind) (sub : Nat) (src : Option Source) (s : State) : (countEvent ev sub src s).choices = s.choices := by unfold countEvent; simp

/-- The counters after one event (R162). -/
theorem countEvent_stats (ev : EventKind) (sub : Nat) (src : Option Source) (s : State) :
    (countEvent ev sub src s).stats =
      { s.stats with counters := s.stats.counters.map fun c => c.add (if c.selects ev sub src then 1 else 0) } := by
  unfold countEvent; exact addToCounters_stats _ s

@[simp] theorem countEvent_totals (ev : EventKind) (sub : Nat) (src : Option Source) (s : State) :
    (countEvent ev sub src s).stats.totals = s.stats.totals := by rw [countEvent_stats]

@[simp] theorem countDiscard_pending (w : Discard) (q : Source) (s : State) : (countDiscard w q s).pending = s.pending := by unfold countDiscard; simp
@[simp] theorem countDiscard_held (w : Discard) (q : Source) (s : State) : (countDiscard w q s).held = s.held := by unfold countDiscard; simp
@[simp] theorem countDiscard_mode (w : Discard) (q : Source) (s : State) : (countDiscard w q s).mode = s.mode := by unfold countDiscard; simp
@[simp] theorem countDiscard_now (w : Discard) (q : Source) (s : State) : (countDiscard w q s).now = s.now := by unfold countDiscard; simp
@[simp] theorem countDiscard_rate (w : Discard) (q : Source) (s : State) : (countDiscard w q s).rate = s.rate := by unfold countDiscard; simp
@[simp] theorem countDiscard_config (w : Discard) (q : Source) (s : State) : (countDiscard w q s).config = s.config := by unfold countDiscard; simp
@[simp] theorem countDiscard_intake (w : Discard) (q : Source) (s : State) : (countDiscard w q s).intake = s.intake := by unfold countDiscard; simp
@[simp] theorem countDiscard_table (w : Discard) (q : Source) (s : State) : (countDiscard w q s).table = s.table := by unfold countDiscard; simp
@[simp] theorem countDiscard_admissions (w : Discard) (q : Source) (s : State) : (countDiscard w q s).admissions = s.admissions := by unfold countDiscard; simp
@[simp] theorem countDiscard_cache (w : Discard) (q : Source) (s : State) : (countDiscard w q s).cache = s.cache := by unfold countDiscard; simp
@[simp] theorem countDiscard_model (w : Discard) (q : Source) (s : State) : (countDiscard w q s).model = s.model := by unfold countDiscard; simp
@[simp] theorem countDiscard_planner (w : Discard) (q : Source) (s : State) : (countDiscard w q s).planner = s.planner := by unfold countDiscard; simp
@[simp] theorem countDiscard_outcomes (w : Discard) (q : Source) (s : State) : (countDiscard w q s).outcomes = s.outcomes := by unfold countDiscard; simp
@[simp] theorem countDiscard_ports (w : Discard) (q : Source) (s : State) : (countDiscard w q s).ports = s.ports := by unfold countDiscard; simp
@[simp] theorem countDiscard_occupancyFed (w : Discard) (q : Source) (s : State) : (countDiscard w q s).occupancyFed = s.occupancyFed := by unfold countDiscard; simp
@[simp] theorem countDiscard_choices (w : Discard) (q : Source) (s : State) : (countDiscard w q s).choices = s.choices := by unfold countDiscard; simp

/-! ### Pass triggers (R65, R66) -/

@[simp] theorem triggerPass_pending (s : State) : (triggerPass s).pending = s.pending := by unfold triggerPass; split <;> [rfl; (split <;> rfl)]
@[simp] theorem triggerPass_held (s : State) : (triggerPass s).held = s.held := by unfold triggerPass; split <;> [rfl; (split <;> rfl)]
@[simp] theorem triggerPass_mode (s : State) : (triggerPass s).mode = s.mode := by unfold triggerPass; split <;> [rfl; (split <;> rfl)]
@[simp] theorem triggerPass_now (s : State) : (triggerPass s).now = s.now := by unfold triggerPass; split <;> [rfl; (split <;> rfl)]
@[simp] theorem triggerPass_rate (s : State) : (triggerPass s).rate = s.rate := by unfold triggerPass; split <;> [rfl; (split <;> rfl)]
@[simp] theorem triggerPass_config (s : State) : (triggerPass s).config = s.config := by unfold triggerPass; split <;> [rfl; (split <;> rfl)]
@[simp] theorem triggerPass_intake (s : State) : (triggerPass s).intake = s.intake := by unfold triggerPass; split <;> [rfl; (split <;> rfl)]
@[simp] theorem triggerPass_table (s : State) : (triggerPass s).table = s.table := by unfold triggerPass; split <;> [rfl; (split <;> rfl)]
@[simp] theorem triggerPass_admissions (s : State) : (triggerPass s).admissions = s.admissions := by unfold triggerPass; split <;> [rfl; (split <;> rfl)]
@[simp] theorem triggerPass_cache (s : State) : (triggerPass s).cache = s.cache := by unfold triggerPass; split <;> [rfl; (split <;> rfl)]
@[simp] theorem triggerPass_model (s : State) : (triggerPass s).model = s.model := by unfold triggerPass; split <;> [rfl; (split <;> rfl)]
@[simp] theorem triggerPass_outcomes (s : State) : (triggerPass s).outcomes = s.outcomes := by unfold triggerPass; split <;> [rfl; (split <;> rfl)]
@[simp] theorem triggerPass_stats (s : State) : (triggerPass s).stats = s.stats := by unfold triggerPass; split <;> [rfl; (split <;> rfl)]
@[simp] theorem triggerPass_notices (s : State) : (triggerPass s).notices = s.notices := by unfold triggerPass; split <;> [rfl; (split <;> rfl)]
@[simp] theorem triggerPass_link (s : State) : (triggerPass s).link = s.link := by unfold triggerPass; split <;> [rfl; (split <;> rfl)]
@[simp] theorem triggerPass_ports (s : State) : (triggerPass s).ports = s.ports := by unfold triggerPass; split <;> [rfl; (split <;> rfl)]
@[simp] theorem triggerPass_occupancyFed (s : State) : (triggerPass s).occupancyFed = s.occupancyFed := by unfold triggerPass; split <;> [rfl; (split <;> rfl)]
@[simp] theorem triggerPass_choices (s : State) : (triggerPass s).choices = s.choices := by unfold triggerPass; split <;> [rfl; (split <;> rfl)]

/-- What a pass trigger writes: the due pass or the mark, and in STANDBY nothing. -/
theorem triggerPass_planner (s : State) :
    (triggerPass s).planner =
      if s.mode = .standby then s.planner
      else if s.planner.passRunning = true then { s.planner with passMark := true }
      else { s.planner with passDue := true } := by
  unfold triggerPass; split <;> [rfl; (split <;> rfl)]

/-! ### Reports and the cache (R159, R18) -/

@[simp] theorem outcomeArrives_pending (r : OutcomeRecord) (s : State) : (outcomeArrives r s).pending = s.pending := by
  unfold outcomeArrives; dsimp only; split <;> [(split <;> simp); simp]
@[simp] theorem outcomeArrives_held (r : OutcomeRecord) (s : State) : (outcomeArrives r s).held = s.held := by
  unfold outcomeArrives; dsimp only; split <;> [(split <;> simp); simp]
@[simp] theorem outcomeArrives_mode (r : OutcomeRecord) (s : State) : (outcomeArrives r s).mode = s.mode := by
  unfold outcomeArrives; dsimp only; split <;> [(split <;> simp); simp]
@[simp] theorem outcomeArrives_now (r : OutcomeRecord) (s : State) : (outcomeArrives r s).now = s.now := by
  unfold outcomeArrives; dsimp only; split <;> [(split <;> simp); simp]
@[simp] theorem outcomeArrives_rate (r : OutcomeRecord) (s : State) : (outcomeArrives r s).rate = s.rate := by
  unfold outcomeArrives; dsimp only; split <;> [(split <;> simp); simp]
@[simp] theorem outcomeArrives_config (r : OutcomeRecord) (s : State) : (outcomeArrives r s).config = s.config := by
  unfold outcomeArrives; dsimp only; split <;> [(split <;> simp); simp]
@[simp] theorem outcomeArrives_intake (r : OutcomeRecord) (s : State) : (outcomeArrives r s).intake = s.intake := by
  unfold outcomeArrives; dsimp only; split <;> [(split <;> simp); simp]
@[simp] theorem outcomeArrives_table (r : OutcomeRecord) (s : State) : (outcomeArrives r s).table = s.table := by
  unfold outcomeArrives; dsimp only; split <;> [(split <;> simp); simp]
@[simp] theorem outcomeArrives_admissions (r : OutcomeRecord) (s : State) : (outcomeArrives r s).admissions = s.admissions := by
  unfold outcomeArrives; dsimp only; split <;> [(split <;> simp); simp]
@[simp] theorem outcomeArrives_cache (r : OutcomeRecord) (s : State) : (outcomeArrives r s).cache = s.cache := by
  unfold outcomeArrives; dsimp only; split <;> [(split <;> simp); simp]
@[simp] theorem outcomeArrives_model (r : OutcomeRecord) (s : State) : (outcomeArrives r s).model = s.model := by
  unfold outcomeArrives; dsimp only; split <;> [(split <;> simp); simp]
@[simp] theorem outcomeArrives_planner (r : OutcomeRecord) (s : State) : (outcomeArrives r s).planner = s.planner := by
  unfold outcomeArrives; dsimp only; split <;> [(split <;> simp); simp]
@[simp] theorem outcomeArrives_stats (r : OutcomeRecord) (s : State) : (outcomeArrives r s).stats = s.stats := by
  unfold outcomeArrives; dsimp only; split <;> [(split <;> simp); simp]
@[simp] theorem outcomeArrives_ports (r : OutcomeRecord) (s : State) : (outcomeArrives r s).ports = s.ports := by
  unfold outcomeArrives; dsimp only; split <;> [(split <;> simp); simp]
@[simp] theorem outcomeArrives_occupancyFed (r : OutcomeRecord) (s : State) : (outcomeArrives r s).occupancyFed = s.occupancyFed := by
  unfold outcomeArrives; dsimp only; split <;> [(split <;> simp); simp]
@[simp] theorem outcomeArrives_choices (r : OutcomeRecord) (s : State) : (outcomeArrives r s).choices = s.choices := by
  unfold outcomeArrives; dsimp only; split <;> [(split <;> simp); simp]

/-- The buffer after an arrival (R159). -/
theorem outcomeArrives_outcomes (r : OutcomeRecord) (s : State) :
    (outcomeArrives r s).outcomes =
      if s.outcomes.records.length < 64 then { s.outcomes with records := s.outcomes.records ++ [r] }
      else { records := match s.config.general.outcomeMode with
               | .wrap => s.outcomes.records.tail ++ [r]
               | .stop => s.outcomes.records,
             lost := tally16 s.outcomes.lost } := by
  by_cases h : s.outcomes.records.length < 64
  · simp only [outcomeArrives, if_pos h]
    split <;> simp
  · simp only [outcomeArrives, if_neg h, latchNotice_outcomes] <;> cases s.config.general.outcomeMode <;> rfl

@[simp] theorem cacheBus_pending (bus : Nat) (x : Approach) (s : State) : (cacheBus bus x s).pending = s.pending := rfl
@[simp] theorem cacheBus_held (bus : Nat) (x : Approach) (s : State) : (cacheBus bus x s).held = s.held := rfl
@[simp] theorem cacheBus_mode (bus : Nat) (x : Approach) (s : State) : (cacheBus bus x s).mode = s.mode := rfl
@[simp] theorem cacheBus_now (bus : Nat) (x : Approach) (s : State) : (cacheBus bus x s).now = s.now := rfl
@[simp] theorem cacheBus_rate (bus : Nat) (x : Approach) (s : State) : (cacheBus bus x s).rate = s.rate := rfl
@[simp] theorem cacheBus_config (bus : Nat) (x : Approach) (s : State) : (cacheBus bus x s).config = s.config := rfl
@[simp] theorem cacheBus_intake (bus : Nat) (x : Approach) (s : State) : (cacheBus bus x s).intake = s.intake := rfl
@[simp] theorem cacheBus_table (bus : Nat) (x : Approach) (s : State) : (cacheBus bus x s).table = s.table := rfl
@[simp] theorem cacheBus_admissions (bus : Nat) (x : Approach) (s : State) : (cacheBus bus x s).admissions = s.admissions := rfl
@[simp] theorem cacheBus_model (bus : Nat) (x : Approach) (s : State) : (cacheBus bus x s).model = s.model := rfl
@[simp] theorem cacheBus_planner (bus : Nat) (x : Approach) (s : State) : (cacheBus bus x s).planner = s.planner := rfl
@[simp] theorem cacheBus_outcomes (bus : Nat) (x : Approach) (s : State) : (cacheBus bus x s).outcomes = s.outcomes := rfl
@[simp] theorem cacheBus_stats (bus : Nat) (x : Approach) (s : State) : (cacheBus bus x s).stats = s.stats := rfl
@[simp] theorem cacheBus_notices (bus : Nat) (x : Approach) (s : State) : (cacheBus bus x s).notices = s.notices := rfl
@[simp] theorem cacheBus_link (bus : Nat) (x : Approach) (s : State) : (cacheBus bus x s).link = s.link := rfl
@[simp] theorem cacheBus_ports (bus : Nat) (x : Approach) (s : State) : (cacheBus bus x s).ports = s.ports := rfl
@[simp] theorem cacheBus_occupancyFed (bus : Nat) (x : Approach) (s : State) : (cacheBus bus x s).occupancyFed = s.occupancyFed := rfl
@[simp] theorem cacheBus_choices (bus : Nat) (x : Approach) (s : State) : (cacheBus bus x s).choices = s.choices := rfl

/-! ### Command slot, tokens and grants -/

@[simp] theorem emptySlot_pending (s : State) : (emptySlot s).pending = s.pending := by unfold emptySlot; split <;> rfl
@[simp] theorem emptySlot_held (s : State) : (emptySlot s).held = s.held := by unfold emptySlot; split <;> rfl
@[simp] theorem emptySlot_mode (s : State) : (emptySlot s).mode = s.mode := by unfold emptySlot; split <;> rfl
@[simp] theorem emptySlot_now (s : State) : (emptySlot s).now = s.now := by unfold emptySlot; split <;> rfl
@[simp] theorem emptySlot_rate (s : State) : (emptySlot s).rate = s.rate := by unfold emptySlot; split <;> rfl
@[simp] theorem emptySlot_config (s : State) : (emptySlot s).config = s.config := by unfold emptySlot; split <;> rfl
@[simp] theorem emptySlot_intake (s : State) : (emptySlot s).intake = s.intake := by unfold emptySlot; split <;> rfl
@[simp] theorem emptySlot_table (s : State) : (emptySlot s).table = s.table := by unfold emptySlot; split <;> rfl
@[simp] theorem emptySlot_admissions (s : State) : (emptySlot s).admissions = s.admissions := by unfold emptySlot; split <;> rfl
@[simp] theorem emptySlot_cache (s : State) : (emptySlot s).cache = s.cache := by unfold emptySlot; split <;> rfl
@[simp] theorem emptySlot_model (s : State) : (emptySlot s).model = s.model := by unfold emptySlot; split <;> rfl
@[simp] theorem emptySlot_outcomes (s : State) : (emptySlot s).outcomes = s.outcomes := by unfold emptySlot; split <;> rfl
@[simp] theorem emptySlot_stats (s : State) : (emptySlot s).stats = s.stats := by unfold emptySlot; split <;> rfl
@[simp] theorem emptySlot_notices (s : State) : (emptySlot s).notices = s.notices := by unfold emptySlot; split <;> rfl
@[simp] theorem emptySlot_ports (s : State) : (emptySlot s).ports = s.ports := by unfold emptySlot; split <;> rfl
@[simp] theorem emptySlot_occupancyFed (s : State) : (emptySlot s).occupancyFed = s.occupancyFed := by unfold emptySlot; split <;> rfl
@[simp] theorem emptySlot_choices (s : State) : (emptySlot s).choices = s.choices := by unfold emptySlot; split <;> rfl

@[simp] theorem takeToken_pending (x : Approach) (s : State) : (takeToken x s).pending = s.pending := by
  unfold takeToken; dsimp only; split <;> simp
@[simp] theorem takeToken_held (x : Approach) (s : State) : (takeToken x s).held = s.held := by
  unfold takeToken; dsimp only; split <;> simp
@[simp] theorem takeToken_mode (x : Approach) (s : State) : (takeToken x s).mode = s.mode := by
  unfold takeToken; dsimp only; split <;> simp
@[simp] theorem takeToken_now (x : Approach) (s : State) : (takeToken x s).now = s.now := by
  unfold takeToken; dsimp only; split <;> simp
@[simp] theorem takeToken_rate (x : Approach) (s : State) : (takeToken x s).rate = s.rate := by
  unfold takeToken; dsimp only; split <;> simp
@[simp] theorem takeToken_config (x : Approach) (s : State) : (takeToken x s).config = s.config := by
  unfold takeToken; dsimp only; split <;> simp
@[simp] theorem takeToken_intake (x : Approach) (s : State) : (takeToken x s).intake = s.intake := by
  unfold takeToken; dsimp only; split <;> simp
@[simp] theorem takeToken_table (x : Approach) (s : State) : (takeToken x s).table = s.table := by
  unfold takeToken; dsimp only; split <;> simp
@[simp] theorem takeToken_admissions (x : Approach) (s : State) : (takeToken x s).admissions = s.admissions := by
  unfold takeToken; dsimp only; split <;> simp
@[simp] theorem takeToken_cache (x : Approach) (s : State) : (takeToken x s).cache = s.cache := by
  unfold takeToken; dsimp only; split <;> simp
@[simp] theorem takeToken_model (x : Approach) (s : State) : (takeToken x s).model = s.model := by
  unfold takeToken; dsimp only; split <;> simp
@[simp] theorem takeToken_outcomes (x : Approach) (s : State) : (takeToken x s).outcomes = s.outcomes := by
  unfold takeToken; dsimp only; split <;> simp
@[simp] theorem takeToken_stats (x : Approach) (s : State) : (takeToken x s).stats = s.stats := by
  unfold takeToken; dsimp only; split <;> simp
@[simp] theorem takeToken_ports (x : Approach) (s : State) : (takeToken x s).ports = s.ports := by
  unfold takeToken; dsimp only; split <;> simp
@[simp] theorem takeToken_occupancyFed (x : Approach) (s : State) : (takeToken x s).occupancyFed = s.occupancyFed := by
  unfold takeToken; dsimp only; split <;> simp
@[simp] theorem takeToken_choices (x : Approach) (s : State) : (takeToken x s).choices = s.choices := by
  unfold takeToken; dsimp only; split <;> simp

@[simp] theorem refillOne_pending (s : State) (x : Approach) : (refillOne s x).pending = s.pending := by unfold refillOne; dsimp only; split <;> rfl
@[simp] theorem refillOne_held (s : State) (x : Approach) : (refillOne s x).held = s.held := by unfold refillOne; dsimp only; split <;> rfl
@[simp] theorem refillOne_mode (s : State) (x : Approach) : (refillOne s x).mode = s.mode := by unfold refillOne; dsimp only; split <;> rfl
@[simp] theorem refillOne_now (s : State) (x : Approach) : (refillOne s x).now = s.now := by unfold refillOne; dsimp only; split <;> rfl
@[simp] theorem refillOne_rate (s : State) (x : Approach) : (refillOne s x).rate = s.rate := by unfold refillOne; dsimp only; split <;> rfl
@[simp] theorem refillOne_config (s : State) (x : Approach) : (refillOne s x).config = s.config := by unfold refillOne; dsimp only; split <;> rfl
@[simp] theorem refillOne_intake (s : State) (x : Approach) : (refillOne s x).intake = s.intake := by unfold refillOne; dsimp only; split <;> rfl
@[simp] theorem refillOne_table (s : State) (x : Approach) : (refillOne s x).table = s.table := by unfold refillOne; dsimp only; split <;> rfl
@[simp] theorem refillOne_admissions (s : State) (x : Approach) : (refillOne s x).admissions = s.admissions := by unfold refillOne; dsimp only; split <;> rfl
@[simp] theorem refillOne_cache (s : State) (x : Approach) : (refillOne s x).cache = s.cache := by unfold refillOne; dsimp only; split <;> rfl
@[simp] theorem refillOne_model (s : State) (x : Approach) : (refillOne s x).model = s.model := by unfold refillOne; dsimp only; split <;> rfl
@[simp] theorem refillOne_outcomes (s : State) (x : Approach) : (refillOne s x).outcomes = s.outcomes := by unfold refillOne; dsimp only; split <;> rfl
@[simp] theorem refillOne_stats (s : State) (x : Approach) : (refillOne s x).stats = s.stats := by unfold refillOne; dsimp only; split <;> rfl
@[simp] theorem refillOne_notices (s : State) (x : Approach) : (refillOne s x).notices = s.notices := by unfold refillOne; dsimp only; split <;> rfl
@[simp] theorem refillOne_link (s : State) (x : Approach) : (refillOne s x).link = s.link := by unfold refillOne; dsimp only; split <;> rfl
@[simp] theorem refillOne_ports (s : State) (x : Approach) : (refillOne s x).ports = s.ports := by unfold refillOne; dsimp only; split <;> rfl
@[simp] theorem refillOne_occupancyFed (s : State) (x : Approach) : (refillOne s x).occupancyFed = s.occupancyFed := by unfold refillOne; dsimp only; split <;> rfl
@[simp] theorem refillOne_choices (s : State) (x : Approach) : (refillOne s x).choices = s.choices := by unfold refillOne; dsimp only; split <;> rfl

@[simp] theorem cycleStart_pending (s : State) : (cycleStart s).pending = s.pending := by
  unfold cycleStart renewLedger; simp only [State.onLedger_pending]
  exact foldl_keeps (fun t : State => t.pending) _ (fun t x => refillOne_pending t x) _ _
@[simp] theorem cycleStart_held (s : State) : (cycleStart s).held = s.held := by
  unfold cycleStart renewLedger; simp only [State.onLedger_held]
  exact foldl_keeps (fun t : State => t.held) _ (fun t x => refillOne_held t x) _ _
@[simp] theorem cycleStart_mode (s : State) : (cycleStart s).mode = s.mode := by
  unfold cycleStart renewLedger; simp only [State.onLedger_mode]
  exact foldl_keeps (fun t : State => t.mode) _ (fun t x => refillOne_mode t x) _ _
@[simp] theorem cycleStart_now (s : State) : (cycleStart s).now = s.now := by
  unfold cycleStart renewLedger; simp only [State.onLedger_now]
  exact foldl_keeps (fun t : State => t.now) _ (fun t x => refillOne_now t x) _ _
@[simp] theorem cycleStart_rate (s : State) : (cycleStart s).rate = s.rate := by
  unfold cycleStart renewLedger; simp only [State.onLedger_rate]
  exact foldl_keeps (fun t : State => t.rate) _ (fun t x => refillOne_rate t x) _ _
@[simp] theorem cycleStart_config (s : State) : (cycleStart s).config = s.config := by
  unfold cycleStart renewLedger; simp only [State.onLedger_config]
  exact foldl_keeps (fun t : State => t.config) _ (fun t x => refillOne_config t x) _ _
@[simp] theorem cycleStart_intake (s : State) : (cycleStart s).intake = s.intake := by
  unfold cycleStart renewLedger; simp only [State.onLedger_intake]
  exact foldl_keeps (fun t : State => t.intake) _ (fun t x => refillOne_intake t x) _ _
@[simp] theorem cycleStart_table (s : State) : (cycleStart s).table = s.table := by
  unfold cycleStart renewLedger; simp only [State.onLedger_table]
  exact foldl_keeps (fun t : State => t.table) _ (fun t x => refillOne_table t x) _ _
@[simp] theorem cycleStart_admissions (s : State) : (cycleStart s).admissions = s.admissions := by
  unfold cycleStart renewLedger; simp only [State.onLedger_admissions]
  exact foldl_keeps (fun t : State => t.admissions) _ (fun t x => refillOne_admissions t x) _ _
@[simp] theorem cycleStart_cache (s : State) : (cycleStart s).cache = s.cache := by
  unfold cycleStart renewLedger; simp only [State.onLedger_cache]
  exact foldl_keeps (fun t : State => t.cache) _ (fun t x => refillOne_cache t x) _ _
@[simp] theorem cycleStart_model (s : State) : (cycleStart s).model = s.model := by
  unfold cycleStart renewLedger; simp only [State.onLedger_model]
  exact foldl_keeps (fun t : State => t.model) _ (fun t x => refillOne_model t x) _ _
@[simp] theorem cycleStart_outcomes (s : State) : (cycleStart s).outcomes = s.outcomes := by
  unfold cycleStart renewLedger; simp only [State.onLedger_outcomes]
  exact foldl_keeps (fun t : State => t.outcomes) _ (fun t x => refillOne_outcomes t x) _ _
@[simp] theorem cycleStart_stats (s : State) : (cycleStart s).stats = s.stats := by
  unfold cycleStart renewLedger; simp only [State.onLedger_stats]
  exact foldl_keeps (fun t : State => t.stats) _ (fun t x => refillOne_stats t x) _ _
@[simp] theorem cycleStart_notices (s : State) : (cycleStart s).notices = s.notices := by
  unfold cycleStart renewLedger; simp only [State.onLedger_notices]
  exact foldl_keeps (fun t : State => t.notices) _ (fun t x => refillOne_notices t x) _ _
@[simp] theorem cycleStart_link (s : State) : (cycleStart s).link = s.link := by
  unfold cycleStart renewLedger; simp only [State.onLedger_link]
  exact foldl_keeps (fun t : State => t.link) _ (fun t x => refillOne_link t x) _ _
@[simp] theorem cycleStart_ports (s : State) : (cycleStart s).ports = s.ports := by
  unfold cycleStart renewLedger; simp only [State.onLedger_ports]
  exact foldl_keeps (fun t : State => t.ports) _ (fun t x => refillOne_ports t x) _ _
@[simp] theorem cycleStart_occupancyFed (s : State) : (cycleStart s).occupancyFed = s.occupancyFed := by
  unfold cycleStart renewLedger; simp only [State.onLedger_occupancyFed]
  exact foldl_keeps (fun t : State => t.occupancyFed) _ (fun t x => refillOne_occupancyFed t x) _ _
@[simp] theorem cycleStart_choices (s : State) : (cycleStart s).choices = s.choices := by
  unfold cycleStart renewLedger; simp only [State.onLedger_choices]
  exact foldl_keeps (fun t : State => t.choices) _ (fun t x => refillOne_choices t x) _ _

@[simp] theorem makePending_pending (r : Revise) (s : State) : (makePending r s).pending = s.pending := rfl
@[simp] theorem makePending_held (r : Revise) (s : State) : (makePending r s).held = s.held := rfl
@[simp] theorem makePending_mode (r : Revise) (s : State) : (makePending r s).mode = s.mode := rfl
@[simp] theorem makePending_now (r : Revise) (s : State) : (makePending r s).now = s.now := rfl
@[simp] theorem makePending_rate (r : Revise) (s : State) : (makePending r s).rate = s.rate := rfl
@[simp] theorem makePending_config (r : Revise) (s : State) : (makePending r s).config = s.config := rfl
@[simp] theorem makePending_intake (r : Revise) (s : State) : (makePending r s).intake = s.intake := rfl
@[simp] theorem makePending_table (r : Revise) (s : State) : (makePending r s).table = s.table := rfl
@[simp] theorem makePending_admissions (r : Revise) (s : State) : (makePending r s).admissions = s.admissions := rfl
@[simp] theorem makePending_cache (r : Revise) (s : State) : (makePending r s).cache = s.cache := rfl
@[simp] theorem makePending_model (r : Revise) (s : State) : (makePending r s).model = s.model := rfl
@[simp] theorem makePending_outcomes (r : Revise) (s : State) : (makePending r s).outcomes = s.outcomes := rfl
@[simp] theorem makePending_stats (r : Revise) (s : State) : (makePending r s).stats = s.stats := rfl
@[simp] theorem makePending_notices (r : Revise) (s : State) : (makePending r s).notices = s.notices := rfl
@[simp] theorem makePending_link (r : Revise) (s : State) : (makePending r s).link = s.link := rfl
@[simp] theorem makePending_ports (r : Revise) (s : State) : (makePending r s).ports = s.ports := rfl
@[simp] theorem makePending_occupancyFed (r : Revise) (s : State) : (makePending r s).occupancyFed = s.occupancyFed := rfl
@[simp] theorem makePending_choices (r : Revise) (s : State) : (makePending r s).choices = s.choices := rfl

@[simp] theorem closeGrant_pending (s : State) : (closeGrant s).pending = s.pending := by unfold closeGrant; split <;> rfl
@[simp] theorem closeGrant_held (s : State) : (closeGrant s).held = s.held := by unfold closeGrant; split <;> rfl
@[simp] theorem closeGrant_mode (s : State) : (closeGrant s).mode = s.mode := by unfold closeGrant; split <;> rfl
@[simp] theorem closeGrant_now (s : State) : (closeGrant s).now = s.now := by unfold closeGrant; split <;> rfl
@[simp] theorem closeGrant_rate (s : State) : (closeGrant s).rate = s.rate := by unfold closeGrant; split <;> rfl
@[simp] theorem closeGrant_config (s : State) : (closeGrant s).config = s.config := by unfold closeGrant; split <;> rfl
@[simp] theorem closeGrant_intake (s : State) : (closeGrant s).intake = s.intake := by unfold closeGrant; split <;> rfl
@[simp] theorem closeGrant_admissions (s : State) : (closeGrant s).admissions = s.admissions := by unfold closeGrant; split <;> rfl
@[simp] theorem closeGrant_cache (s : State) : (closeGrant s).cache = s.cache := by unfold closeGrant; split <;> rfl
@[simp] theorem closeGrant_model (s : State) : (closeGrant s).model = s.model := by unfold closeGrant; split <;> rfl
@[simp] theorem closeGrant_outcomes (s : State) : (closeGrant s).outcomes = s.outcomes := by unfold closeGrant; split <;> rfl
@[simp] theorem closeGrant_stats (s : State) : (closeGrant s).stats = s.stats := by unfold closeGrant; split <;> rfl
@[simp] theorem closeGrant_notices (s : State) : (closeGrant s).notices = s.notices := by unfold closeGrant; split <;> rfl
@[simp] theorem closeGrant_link (s : State) : (closeGrant s).link = s.link := by unfold closeGrant; split <;> rfl
@[simp] theorem closeGrant_ports (s : State) : (closeGrant s).ports = s.ports := by unfold closeGrant; split <;> rfl
@[simp] theorem closeGrant_occupancyFed (s : State) : (closeGrant s).occupancyFed = s.occupancyFed := by unfold closeGrant; split <;> rfl
@[simp] theorem closeGrant_choices (s : State) : (closeGrant s).choices = s.choices := by unfold closeGrant; split <;> rfl

@[simp] theorem callRevise_pending (g : Grant) (n : Nat) (s : State) : (callRevise g n s).pending = s.pending := by
  unfold callRevise; split <;> [(split <;> simp); rfl]
@[simp] theorem callRevise_held (g : Grant) (n : Nat) (s : State) : (callRevise g n s).held = s.held := by
  unfold callRevise; split <;> [(split <;> simp); rfl]
@[simp] theorem callRevise_mode (g : Grant) (n : Nat) (s : State) : (callRevise g n s).mode = s.mode := by
  unfold callRevise; split <;> [(split <;> simp); rfl]
@[simp] theorem callRevise_now (g : Grant) (n : Nat) (s : State) : (callRevise g n s).now = s.now := by
  unfold callRevise; split <;> [(split <;> simp); rfl]
@[simp] theorem callRevise_rate (g : Grant) (n : Nat) (s : State) : (callRevise g n s).rate = s.rate := by
  unfold callRevise; split <;> [(split <;> simp); rfl]
@[simp] theorem callRevise_config (g : Grant) (n : Nat) (s : State) : (callRevise g n s).config = s.config := by
  unfold callRevise; split <;> [(split <;> simp); rfl]
@[simp] theorem callRevise_intake (g : Grant) (n : Nat) (s : State) : (callRevise g n s).intake = s.intake := by
  unfold callRevise; split <;> [(split <;> simp); rfl]
@[simp] theorem callRevise_admissions (g : Grant) (n : Nat) (s : State) : (callRevise g n s).admissions = s.admissions := by
  unfold callRevise; split <;> [(split <;> simp); rfl]
@[simp] theorem callRevise_cache (g : Grant) (n : Nat) (s : State) : (callRevise g n s).cache = s.cache := by
  unfold callRevise; split <;> [(split <;> simp); rfl]
@[simp] theorem callRevise_model (g : Grant) (n : Nat) (s : State) : (callRevise g n s).model = s.model := by
  unfold callRevise; split <;> [(split <;> simp); rfl]
@[simp] theorem callRevise_outcomes (g : Grant) (n : Nat) (s : State) : (callRevise g n s).outcomes = s.outcomes := by
  unfold callRevise; split <;> [(split <;> simp); rfl]
@[simp] theorem callRevise_stats (g : Grant) (n : Nat) (s : State) : (callRevise g n s).stats = s.stats := by
  unfold callRevise; split <;> [(split <;> simp); rfl]
@[simp] theorem callRevise_notices (g : Grant) (n : Nat) (s : State) : (callRevise g n s).notices = s.notices := by
  unfold callRevise; split <;> [(split <;> simp); rfl]
@[simp] theorem callRevise_link (g : Grant) (n : Nat) (s : State) : (callRevise g n s).link = s.link := by
  unfold callRevise; split <;> [(split <;> simp); rfl]
@[simp] theorem callRevise_ports (g : Grant) (n : Nat) (s : State) : (callRevise g n s).ports = s.ports := by
  unfold callRevise; split <;> [(split <;> simp); rfl]
@[simp] theorem callRevise_occupancyFed (g : Grant) (n : Nat) (s : State) : (callRevise g n s).occupancyFed = s.occupancyFed := by
  unfold callRevise; split <;> [(split <;> simp); rfl]
@[simp] theorem callRevise_choices (g : Grant) (n : Nat) (s : State) : (callRevise g n s).choices = s.choices := by
  unfold callRevise; split <;> [(split <;> simp); rfl]

@[simp] theorem trimTest_pending (s : State) : (trimTest s).pending = s.pending := by
  unfold trimTest; split <;> [(split <;> [(dsimp only; split <;> simp); rfl]); rfl]
@[simp] theorem trimTest_held (s : State) : (trimTest s).held = s.held := by
  unfold trimTest; split <;> [(split <;> [(dsimp only; split <;> simp); rfl]); rfl]
@[simp] theorem trimTest_mode (s : State) : (trimTest s).mode = s.mode := by
  unfold trimTest; split <;> [(split <;> [(dsimp only; split <;> simp); rfl]); rfl]
@[simp] theorem trimTest_now (s : State) : (trimTest s).now = s.now := by
  unfold trimTest; split <;> [(split <;> [(dsimp only; split <;> simp); rfl]); rfl]
@[simp] theorem trimTest_rate (s : State) : (trimTest s).rate = s.rate := by
  unfold trimTest; split <;> [(split <;> [(dsimp only; split <;> simp); rfl]); rfl]
@[simp] theorem trimTest_config (s : State) : (trimTest s).config = s.config := by
  unfold trimTest; split <;> [(split <;> [(dsimp only; split <;> simp); rfl]); rfl]
@[simp] theorem trimTest_intake (s : State) : (trimTest s).intake = s.intake := by
  unfold trimTest; split <;> [(split <;> [(dsimp only; split <;> simp); rfl]); rfl]
@[simp] theorem trimTest_admissions (s : State) : (trimTest s).admissions = s.admissions := by
  unfold trimTest; split <;> [(split <;> [(dsimp only; split <;> simp); rfl]); rfl]
@[simp] theorem trimTest_cache (s : State) : (trimTest s).cache = s.cache := by
  unfold trimTest; split <;> [(split <;> [(dsimp only; split <;> simp); rfl]); rfl]
@[simp] theorem trimTest_model (s : State) : (trimTest s).model = s.model := by
  unfold trimTest; split <;> [(split <;> [(dsimp only; split <;> simp); rfl]); rfl]
@[simp] theorem trimTest_outcomes (s : State) : (trimTest s).outcomes = s.outcomes := by
  unfold trimTest; split <;> [(split <;> [(dsimp only; split <;> simp); rfl]); rfl]
@[simp] theorem trimTest_stats (s : State) : (trimTest s).stats = s.stats := by
  unfold trimTest; split <;> [(split <;> [(dsimp only; split <;> simp); rfl]); rfl]
@[simp] theorem trimTest_notices (s : State) : (trimTest s).notices = s.notices := by
  unfold trimTest; split <;> [(split <;> [(dsimp only; split <;> simp); rfl]); rfl]
@[simp] theorem trimTest_link (s : State) : (trimTest s).link = s.link := by
  unfold trimTest; split <;> [(split <;> [(dsimp only; split <;> simp); rfl]); rfl]
@[simp] theorem trimTest_ports (s : State) : (trimTest s).ports = s.ports := by
  unfold trimTest; split <;> [(split <;> [(dsimp only; split <;> simp); rfl]); rfl]
@[simp] theorem trimTest_occupancyFed (s : State) : (trimTest s).occupancyFed = s.occupancyFed := by
  unfold trimTest; split <;> [(split <;> [(dsimp only; split <;> simp); rfl]); rfl]
@[simp] theorem trimTest_choices (s : State) : (trimTest s).choices = s.choices := by
  unfold trimTest; split <;> [(split <;> [(dsimp only; split <;> simp); rfl]); rfl]

@[simp] theorem tellDeparture_pending (e : Entry) (s : State) : (tellDeparture e s).pending = s.pending := by
  unfold tellDeparture; split
  · split
    · rfl
    · dsimp only; split <;> [(split <;> simp); simp]
  · rfl
@[simp] theorem tellDeparture_held (e : Entry) (s : State) : (tellDeparture e s).held = s.held := by
  unfold tellDeparture; split
  · split
    · rfl
    · dsimp only; split <;> [(split <;> simp); simp]
  · rfl
@[simp] theorem tellDeparture_mode (e : Entry) (s : State) : (tellDeparture e s).mode = s.mode := by
  unfold tellDeparture; split
  · split
    · rfl
    · dsimp only; split <;> [(split <;> simp); simp]
  · rfl
@[simp] theorem tellDeparture_now (e : Entry) (s : State) : (tellDeparture e s).now = s.now := by
  unfold tellDeparture; split
  · split
    · rfl
    · dsimp only; split <;> [(split <;> simp); simp]
  · rfl
@[simp] theorem tellDeparture_rate (e : Entry) (s : State) : (tellDeparture e s).rate = s.rate := by
  unfold tellDeparture; split
  · split
    · rfl
    · dsimp only; split <;> [(split <;> simp); simp]
  · rfl
@[simp] theorem tellDeparture_config (e : Entry) (s : State) : (tellDeparture e s).config = s.config := by
  unfold tellDeparture; split
  · split
    · rfl
    · dsimp only; split <;> [(split <;> simp); simp]
  · rfl
@[simp] theorem tellDeparture_intake (e : Entry) (s : State) : (tellDeparture e s).intake = s.intake := by
  unfold tellDeparture; split
  · split
    · rfl
    · dsimp only; split <;> [(split <;> simp); simp]
  · rfl
@[simp] theorem tellDeparture_admissions (e : Entry) (s : State) : (tellDeparture e s).admissions = s.admissions := by
  unfold tellDeparture; split
  · split
    · rfl
    · dsimp only; split <;> [(split <;> simp); simp]
  · rfl
@[simp] theorem tellDeparture_cache (e : Entry) (s : State) : (tellDeparture e s).cache = s.cache := by
  unfold tellDeparture; split
  · split
    · rfl
    · dsimp only; split <;> [(split <;> simp); simp]
  · rfl
@[simp] theorem tellDeparture_model (e : Entry) (s : State) : (tellDeparture e s).model = s.model := by
  unfold tellDeparture; split
  · split
    · rfl
    · dsimp only; split <;> [(split <;> simp); simp]
  · rfl
@[simp] theorem tellDeparture_outcomes (e : Entry) (s : State) : (tellDeparture e s).outcomes = s.outcomes := by
  unfold tellDeparture; split
  · split
    · rfl
    · dsimp only; split <;> [(split <;> simp); simp]
  · rfl
@[simp] theorem tellDeparture_stats (e : Entry) (s : State) : (tellDeparture e s).stats = s.stats := by
  unfold tellDeparture; split
  · split
    · rfl
    · dsimp only; split <;> [(split <;> simp); simp]
  · rfl
@[simp] theorem tellDeparture_notices (e : Entry) (s : State) : (tellDeparture e s).notices = s.notices := by
  unfold tellDeparture; split
  · split
    · rfl
    · dsimp only; split <;> [(split <;> simp); simp]
  · rfl
@[simp] theorem tellDeparture_link (e : Entry) (s : State) : (tellDeparture e s).link = s.link := by
  unfold tellDeparture; split
  · split
    · rfl
    · dsimp only; split <;> [(split <;> simp); simp]
  · rfl
@[simp] theorem tellDeparture_ports (e : Entry) (s : State) : (tellDeparture e s).ports = s.ports := by
  unfold tellDeparture; split
  · split
    · rfl
    · dsimp only; split <;> [(split <;> simp); simp]
  · rfl
@[simp] theorem tellDeparture_occupancyFed (e : Entry) (s : State) : (tellDeparture e s).occupancyFed = s.occupancyFed := by
  unfold tellDeparture; split
  · split
    · rfl
    · dsimp only; split <;> [(split <;> simp); simp]
  · rfl
@[simp] theorem tellDeparture_choices (e : Entry) (s : State) : (tellDeparture e s).choices = s.choices := by
  unfold tellDeparture; split
  · split
    · rfl
    · dsimp only; split <;> [(split <;> simp); simp]
  · rfl

@[simp] theorem closeIfVain_pending (s : State) : (closeIfVain s).pending = s.pending := by
  unfold closeIfVain; repeat' split
  all_goals simp
@[simp] theorem closeIfVain_held (s : State) : (closeIfVain s).held = s.held := by
  unfold closeIfVain; repeat' split
  all_goals simp
@[simp] theorem closeIfVain_mode (s : State) : (closeIfVain s).mode = s.mode := by
  unfold closeIfVain; repeat' split
  all_goals simp
@[simp] theorem closeIfVain_now (s : State) : (closeIfVain s).now = s.now := by
  unfold closeIfVain; repeat' split
  all_goals simp
@[simp] theorem closeIfVain_rate (s : State) : (closeIfVain s).rate = s.rate := by
  unfold closeIfVain; repeat' split
  all_goals simp
@[simp] theorem closeIfVain_config (s : State) : (closeIfVain s).config = s.config := by
  unfold closeIfVain; repeat' split
  all_goals simp
@[simp] theorem closeIfVain_intake (s : State) : (closeIfVain s).intake = s.intake := by
  unfold closeIfVain; repeat' split
  all_goals simp
@[simp] theorem closeIfVain_admissions (s : State) : (closeIfVain s).admissions = s.admissions := by
  unfold closeIfVain; repeat' split
  all_goals simp
@[simp] theorem closeIfVain_cache (s : State) : (closeIfVain s).cache = s.cache := by
  unfold closeIfVain; repeat' split
  all_goals simp
@[simp] theorem closeIfVain_model (s : State) : (closeIfVain s).model = s.model := by
  unfold closeIfVain; repeat' split
  all_goals simp
@[simp] theorem closeIfVain_outcomes (s : State) : (closeIfVain s).outcomes = s.outcomes := by
  unfold closeIfVain; repeat' split
  all_goals simp
@[simp] theorem closeIfVain_stats (s : State) : (closeIfVain s).stats = s.stats := by
  unfold closeIfVain; repeat' split
  all_goals simp
@[simp] theorem closeIfVain_notices (s : State) : (closeIfVain s).notices = s.notices := by
  unfold closeIfVain; repeat' split
  all_goals simp
@[simp] theorem closeIfVain_link (s : State) : (closeIfVain s).link = s.link := by
  unfold closeIfVain; repeat' split
  all_goals simp
@[simp] theorem closeIfVain_ports (s : State) : (closeIfVain s).ports = s.ports := by
  unfold closeIfVain; repeat' split
  all_goals simp
@[simp] theorem closeIfVain_occupancyFed (s : State) : (closeIfVain s).occupancyFed = s.occupancyFed := by
  unfold closeIfVain; repeat' split
  all_goals simp
@[simp] theorem closeIfVain_choices (s : State) : (closeIfVain s).choices = s.choices := by
  unfold closeIfVain; repeat' split
  all_goals simp

@[simp] theorem raiseTotal_pending (n : Nat) (s : State) : (raiseTotal n s).pending = s.pending := by
  unfold raiseTotal; split <;> simp
@[simp] theorem raiseTotal_held (n : Nat) (s : State) : (raiseTotal n s).held = s.held := by
  unfold raiseTotal; split <;> simp
@[simp] theorem raiseTotal_mode (n : Nat) (s : State) : (raiseTotal n s).mode = s.mode := by
  unfold raiseTotal; split <;> simp
@[simp] theorem raiseTotal_now (n : Nat) (s : State) : (raiseTotal n s).now = s.now := by
  unfold raiseTotal; split <;> simp
@[simp] theorem raiseTotal_rate (n : Nat) (s : State) : (raiseTotal n s).rate = s.rate := by
  unfold raiseTotal; split <;> simp
@[simp] theorem raiseTotal_config (n : Nat) (s : State) : (raiseTotal n s).config = s.config := by
  unfold raiseTotal; split <;> simp
@[simp] theorem raiseTotal_intake (n : Nat) (s : State) : (raiseTotal n s).intake = s.intake := by
  unfold raiseTotal; split <;> simp
@[simp] theorem raiseTotal_admissions (n : Nat) (s : State) : (raiseTotal n s).admissions = s.admissions := by
  unfold raiseTotal; split <;> simp
@[simp] theorem raiseTotal_cache (n : Nat) (s : State) : (raiseTotal n s).cache = s.cache := by
  unfold raiseTotal; split <;> simp
@[simp] theorem raiseTotal_model (n : Nat) (s : State) : (raiseTotal n s).model = s.model := by
  unfold raiseTotal; split <;> simp
@[simp] theorem raiseTotal_outcomes (n : Nat) (s : State) : (raiseTotal n s).outcomes = s.outcomes := by
  unfold raiseTotal; split <;> simp
@[simp] theorem raiseTotal_stats (n : Nat) (s : State) : (raiseTotal n s).stats = s.stats := by
  unfold raiseTotal; split <;> simp
@[simp] theorem raiseTotal_notices (n : Nat) (s : State) : (raiseTotal n s).notices = s.notices := by
  unfold raiseTotal; split <;> simp
@[simp] theorem raiseTotal_link (n : Nat) (s : State) : (raiseTotal n s).link = s.link := by
  unfold raiseTotal; split <;> simp
@[simp] theorem raiseTotal_ports (n : Nat) (s : State) : (raiseTotal n s).ports = s.ports := by
  unfold raiseTotal; split <;> simp
@[simp] theorem raiseTotal_occupancyFed (n : Nat) (s : State) : (raiseTotal n s).occupancyFed = s.occupancyFed := by
  unfold raiseTotal; split <;> simp
@[simp] theorem raiseTotal_choices (n : Nat) (s : State) : (raiseTotal n s).choices = s.choices := by
  unfold raiseTotal; split <;> simp

@[simp] theorem grantStatus_pending (p : Nat) (i : Interval) (s : State) : (grantStatus p i s).pending = s.pending := by
  unfold grantStatus; dsimp only; repeat' split
  all_goals simp
@[simp] theorem grantStatus_held (p : Nat) (i : Interval) (s : State) : (grantStatus p i s).held = s.held := by
  unfold grantStatus; dsimp only; repeat' split
  all_goals simp
@[simp] theorem grantStatus_mode (p : Nat) (i : Interval) (s : State) : (grantStatus p i s).mode = s.mode := by
  unfold grantStatus; dsimp only; repeat' split
  all_goals simp
@[simp] theorem grantStatus_now (p : Nat) (i : Interval) (s : State) : (grantStatus p i s).now = s.now := by
  unfold grantStatus; dsimp only; repeat' split
  all_goals simp
@[simp] theorem grantStatus_rate (p : Nat) (i : Interval) (s : State) : (grantStatus p i s).rate = s.rate := by
  unfold grantStatus; dsimp only; repeat' split
  all_goals simp
@[simp] theorem grantStatus_config (p : Nat) (i : Interval) (s : State) : (grantStatus p i s).config = s.config := by
  unfold grantStatus; dsimp only; repeat' split
  all_goals simp
@[simp] theorem grantStatus_intake (p : Nat) (i : Interval) (s : State) : (grantStatus p i s).intake = s.intake := by
  unfold grantStatus; dsimp only; repeat' split
  all_goals simp
@[simp] theorem grantStatus_admissions (p : Nat) (i : Interval) (s : State) : (grantStatus p i s).admissions = s.admissions := by
  unfold grantStatus; dsimp only; repeat' split
  all_goals simp
@[simp] theorem grantStatus_cache (p : Nat) (i : Interval) (s : State) : (grantStatus p i s).cache = s.cache := by
  unfold grantStatus; dsimp only; repeat' split
  all_goals simp
@[simp] theorem grantStatus_model (p : Nat) (i : Interval) (s : State) : (grantStatus p i s).model = s.model := by
  unfold grantStatus; dsimp only; repeat' split
  all_goals simp
@[simp] theorem grantStatus_outcomes (p : Nat) (i : Interval) (s : State) : (grantStatus p i s).outcomes = s.outcomes := by
  unfold grantStatus; dsimp only; repeat' split
  all_goals simp
@[simp] theorem grantStatus_stats (p : Nat) (i : Interval) (s : State) : (grantStatus p i s).stats = s.stats := by
  unfold grantStatus; dsimp only; repeat' split
  all_goals simp
@[simp] theorem grantStatus_notices (p : Nat) (i : Interval) (s : State) : (grantStatus p i s).notices = s.notices := by
  unfold grantStatus; dsimp only; repeat' split
  all_goals simp
@[simp] theorem grantStatus_link (p : Nat) (i : Interval) (s : State) : (grantStatus p i s).link = s.link := by
  unfold grantStatus; dsimp only; repeat' split
  all_goals simp
@[simp] theorem grantStatus_ports (p : Nat) (i : Interval) (s : State) : (grantStatus p i s).ports = s.ports := by
  unfold grantStatus; dsimp only; repeat' split
  all_goals simp
@[simp] theorem grantStatus_occupancyFed (p : Nat) (i : Interval) (s : State) : (grantStatus p i s).occupancyFed = s.occupancyFed := by
  unfold grantStatus; dsimp only; repeat' split
  all_goals simp
@[simp] theorem grantStatus_choices (p : Nat) (i : Interval) (s : State) : (grantStatus p i s).choices = s.choices := by
  unfold grantStatus; dsimp only; repeat' split
  all_goals simp

@[simp] theorem signalPlanner_pending (m n : ModelState) (s : State) : (signalPlanner m n s).pending = s.pending := by
  unfold signalPlanner; dsimp only; repeat' split
  all_goals simp
@[simp] theorem signalPlanner_held (m n : ModelState) (s : State) : (signalPlanner m n s).held = s.held := by
  unfold signalPlanner; dsimp only; repeat' split
  all_goals simp
@[simp] theorem signalPlanner_mode (m n : ModelState) (s : State) : (signalPlanner m n s).mode = s.mode := by
  unfold signalPlanner; dsimp only; repeat' split
  all_goals simp
@[simp] theorem signalPlanner_now (m n : ModelState) (s : State) : (signalPlanner m n s).now = s.now := by
  unfold signalPlanner; dsimp only; repeat' split
  all_goals simp
@[simp] theorem signalPlanner_rate (m n : ModelState) (s : State) : (signalPlanner m n s).rate = s.rate := by
  unfold signalPlanner; dsimp only; repeat' split
  all_goals simp
@[simp] theorem signalPlanner_config (m n : ModelState) (s : State) : (signalPlanner m n s).config = s.config := by
  unfold signalPlanner; dsimp only; repeat' split
  all_goals simp
@[simp] theorem signalPlanner_intake (m n : ModelState) (s : State) : (signalPlanner m n s).intake = s.intake := by
  unfold signalPlanner; dsimp only; repeat' split
  all_goals simp
@[simp] theorem signalPlanner_admissions (m n : ModelState) (s : State) : (signalPlanner m n s).admissions = s.admissions := by
  unfold signalPlanner; dsimp only; repeat' split
  all_goals simp
@[simp] theorem signalPlanner_cache (m n : ModelState) (s : State) : (signalPlanner m n s).cache = s.cache := by
  unfold signalPlanner; dsimp only; repeat' split
  all_goals simp
@[simp] theorem signalPlanner_model (m n : ModelState) (s : State) : (signalPlanner m n s).model = s.model := by
  unfold signalPlanner; dsimp only; repeat' split
  all_goals simp
@[simp] theorem signalPlanner_outcomes (m n : ModelState) (s : State) : (signalPlanner m n s).outcomes = s.outcomes := by
  unfold signalPlanner; dsimp only; repeat' split
  all_goals simp
@[simp] theorem signalPlanner_stats (m n : ModelState) (s : State) : (signalPlanner m n s).stats = s.stats := by
  unfold signalPlanner; dsimp only; repeat' split
  all_goals simp
@[simp] theorem signalPlanner_notices (m n : ModelState) (s : State) : (signalPlanner m n s).notices = s.notices := by
  unfold signalPlanner; dsimp only; repeat' split
  all_goals simp
@[simp] theorem signalPlanner_link (m n : ModelState) (s : State) : (signalPlanner m n s).link = s.link := by
  unfold signalPlanner; dsimp only; repeat' split
  all_goals simp
@[simp] theorem signalPlanner_ports (m n : ModelState) (s : State) : (signalPlanner m n s).ports = s.ports := by
  unfold signalPlanner; dsimp only; repeat' split
  all_goals simp
@[simp] theorem signalPlanner_occupancyFed (m n : ModelState) (s : State) : (signalPlanner m n s).occupancyFed = s.occupancyFed := by
  unfold signalPlanner; dsimp only; repeat' split
  all_goals simp
@[simp] theorem signalPlanner_choices (m n : ModelState) (s : State) : (signalPlanner m n s).choices = s.choices := by
  unfold signalPlanner; dsimp only; repeat' split
  all_goals simp

@[simp] theorem setModelState_pending (m : ModelState) (s : State) : (setModelState m s).pending = s.pending := by
  unfold setModelState; split <;> simp
@[simp] theorem setModelState_held (m : ModelState) (s : State) : (setModelState m s).held = s.held := by
  unfold setModelState; split <;> simp
@[simp] theorem setModelState_mode (m : ModelState) (s : State) : (setModelState m s).mode = s.mode := by
  unfold setModelState; split <;> simp
@[simp] theorem setModelState_now (m : ModelState) (s : State) : (setModelState m s).now = s.now := by
  unfold setModelState; split <;> simp
@[simp] theorem setModelState_rate (m : ModelState) (s : State) : (setModelState m s).rate = s.rate := by
  unfold setModelState; split <;> simp
@[simp] theorem setModelState_config (m : ModelState) (s : State) : (setModelState m s).config = s.config := by
  unfold setModelState; split <;> simp
@[simp] theorem setModelState_intake (m : ModelState) (s : State) : (setModelState m s).intake = s.intake := by
  unfold setModelState; split <;> simp
@[simp] theorem setModelState_admissions (m : ModelState) (s : State) : (setModelState m s).admissions = s.admissions := by
  unfold setModelState; split <;> simp
@[simp] theorem setModelState_cache (m : ModelState) (s : State) : (setModelState m s).cache = s.cache := by
  unfold setModelState; split <;> simp
@[simp] theorem setModelState_outcomes (m : ModelState) (s : State) : (setModelState m s).outcomes = s.outcomes := by
  unfold setModelState; split <;> simp
@[simp] theorem setModelState_stats (m : ModelState) (s : State) : (setModelState m s).stats = s.stats := by
  unfold setModelState; split <;> simp
@[simp] theorem setModelState_ports (m : ModelState) (s : State) : (setModelState m s).ports = s.ports := by
  unfold setModelState; split <;> simp
@[simp] theorem setModelState_occupancyFed (m : ModelState) (s : State) : (setModelState m s).occupancyFed = s.occupancyFed := by
  unfold setModelState; split <;> simp
@[simp] theorem setModelState_choices (m : ModelState) (s : State) : (setModelState m s).choices = s.choices := by
  unfold setModelState; split <;> simp

/-- The model after a change of state (R52). -/
@[simp] theorem setModelState_model (m : ModelState) (s : State) :
    (setModelState m s).model = { s.model with state := m } := by
  unfold setModelState; split
  · next h => cases hm : s.model; simp_all
  · simp

/-! ### The part out of reset (R171) -/

theorem whenRunning_running {s : State} (h : s.held = false) (f : State → State) : whenRunning s f = .next (f s) := by
  simp [whenRunning, h]

theorem whenRunning_held {s : State} (h : s.held = true) (f : State → State) : whenRunning s f = .next s := by
  simp [whenRunning, h]

end Sys2Proof.Machine
end

