-- ==== Sys2Proof/Laws/Reports.lean ====
section
/-! SUPPORT. What latching and counting may do to a state, in a form that composes: `State.noticedFrom` says it of the
notice unit and the cabinet link, and `sameButNotices_of` gives the whole state from it and the other fields. -/

namespace Sys2Proof.Machine

/-- `t` differs from `base` in the notice unit and the cabinet link by latching alone. -/
def State.noticedFrom (t base : State) : Prop :=
  ∃ latches out dropped,
    t.notices = { base.notices with latches := latches } ∧
    t.link = { base.link with outbound := base.link.outbound ++ out, noticesDropped := dropped } ∧
    (∀ m ∈ out, m.kind = .notice) ∧
    ∀ l ∈ latchesInOrder, (base.notices.latches.get l).isSome = true → latches.get l = base.notices.latches.get l

theorem noticedFrom_of_eq {t base : State} (hn : t.notices = base.notices) (hl : t.link = base.link) :
    t.noticedFrom base :=
  ⟨base.notices.latches, [], base.link.noticesDropped, hn, by simp [hl], by simp, by simp⟩

theorem noticedFrom_trans {r t base : State} (h : r.noticedFrom t) (h' : t.noticedFrom base) : r.noticedFrom base := by
  obtain ⟨a, o, d, hn, hl, ho, hs⟩ := h
  obtain ⟨a', o', d', hn', hl', ho', hs'⟩ := h'
  refine ⟨a, o' ++ o, d, by simp [hn, hn'], by simp [hl, hl'], ?_, ?_⟩
  · intro m hm
    rcases List.mem_append.1 hm with hm | hm
    · exact ho' m hm
    · exact ho m hm
  · intro l hl0 hb
    have e := hs' l hl0 hb
    have := hs l hl0 (by simp [hn', e, hb])
    simp [this, hn', e]

theorem perLatch_get_set_other {α : Type} (v : PerLatch α) (l k : Latch) (w : α) (h : l ≠ k) :
    (v.set k w).get l = v.get l := by
  cases k <;> cases l <;> first
    | rfl
    | exact absurd rfl h
    | (rename_i x y; cases x <;> cases y <;> first | rfl | exact absurd rfl h)

theorem offerNotice_noticed (l : Latch) (d : Nat) (s : State) : (offerNotice l d s).noticedFrom s := by
  unfold offerNotice
  split
  · refine ⟨s.notices.latches, [_], s.link.noticesDropped, rfl, rfl, ?_, fun _ _ _ => rfl⟩
    intro m hm; simp at hm; subst hm; rfl
  · exact ⟨s.notices.latches, [], _, rfl, by simp [State.onLink]; rfl, by simp, fun _ _ _ => rfl⟩

/-- A latching event changes the notice unit and the link by latching alone (R166, R138). -/
theorem latchNotice_noticed (l : Latch) (d : Nat) (s : State) : (latchNotice l d s).noticedFrom s := by
  unfold latchNotice
  split
  · exact noticedFrom_of_eq rfl rfl
  · next hnone =>
    have base : State.noticedFrom
        { s with notices := { s.notices with latches := s.notices.latches.set l (some ⟨d, s.now⟩) } } s :=
      ⟨_, [], s.link.noticesDropped, rfl, by simp, by simp, fun k _ hk =>
        perLatch_get_set_other _ _ _ _ (fun e => by simp [e, hnone] at hk)⟩
    dsimp only
    split
    · exact noticedFrom_trans (offerNotice_noticed _ _ _) base
    · exact base

theorem foldl_noticed {β : Type} (f : State → β → State) (h : ∀ s b, (f s b).noticedFrom s) :
    ∀ (l : List β) (s : State), (l.foldl f s).noticedFrom s
  | [], _ => noticedFrom_of_eq rfl rfl
  | b :: l, s => noticedFrom_trans (foldl_noticed f h l (f s b)) (h s b)

/-- Counting changes the notice unit and the link by latching alone (R162). -/
theorem addToCounters_noticed (f : Counter → Nat) (s : State) : (addToCounters f s).noticedFrom s := by
  unfold addToCounters
  exact noticedFrom_trans (foldl_noticed _ (fun _ _ => latchNotice_noticed _ _ _) _ _) (noticedFrom_of_eq rfl rfl)

theorem countEvent_noticed (ev : EventKind) (sub : Nat) (src : Option Source) (s : State) :
    (countEvent ev sub src s).noticedFrom s := addToCounters_noticed _ s

theorem outcomeArrives_noticed (r : OutcomeRecord) (s : State) : (outcomeArrives r s).noticedFrom s := by
  unfold outcomeArrives
  dsimp only
  split
  · split
    · exact noticedFrom_trans (latchNotice_noticed _ _ _) (noticedFrom_of_eq rfl rfl)
    · exact noticedFrom_of_eq rfl rfl
  · exact noticedFrom_trans (latchNotice_noticed _ _ _) (noticedFrom_of_eq rfl rfl)

/-- A state that another only latched into is the same but for its notices, when every other field agrees. -/
theorem sameButNotices_of {t base : State} (h : t.noticedFrom base) (pending : t.pending = base.pending)
    (held : t.held = base.held) (mode : t.mode = base.mode) (now : t.now = base.now) (rate : t.rate = base.rate)
    (config : t.config = base.config) (intake : t.intake = base.intake) (table : t.table = base.table)
    (admissions : t.admissions = base.admissions) (cache : t.cache = base.cache) (model : t.model = base.model)
    (planner : t.planner = base.planner) (outcomes : t.outcomes = base.outcomes) (stats : t.stats = base.stats)
    (ports : t.ports = base.ports) (fed : t.occupancyFed = base.occupancyFed) (choices : t.choices = base.choices) :
    t.sameButNotices base := by
  obtain ⟨a, o, d, hn, hl, ho, hs⟩ := h
  exact ⟨a, o, d, by cases t; simp_all, ho, hs⟩

/-- One event: the counters take it, and the rest is what latching may do (R162). -/
theorem countEvent_sameBut (ev : EventKind) (sub : Nat) (src : Option Source) (s : State) :
    (countEvent ev sub src s).sameButNotices { s with stats := s.counted ev sub src } := by
  refine sameButNotices_of (base := { s with stats := s.counted ev sub src })
    (noticedFrom_trans (countEvent_noticed ev sub src s) (noticedFrom_of_eq rfl rfl)) ?_ ?_ ?_ ?_ ?_ ?_ ?_ ?_ ?_ ?_ ?_ ?_
    ?_ ?_ ?_ ?_ ?_ <;> simp [countEvent_stats, State.counted]

/-! ### What counting does, exactly (R162) -/

/-- A latching event leaves its latch set (R166). -/
theorem latchNotice_isSome (l : Latch) (d : Nat) (s : State) : ((latchNotice l d s).notices.latches.get l).isSome = true := by
  rw [latchNotice_latches]
  split
  · assumption
  · simp

/-- An event whose latch is set leaves no trace (R166). -/
theorem latchNotice_of_set {l : Latch} {d : Nat} {s : State} (h : (s.notices.latches.get l).isSome = true) :
    latchNotice l d s = s := by
  unfold latchNotice
  split
  · rfl
  · next hn => simp [hn] at h

/-- Several events of one set latch leave no trace. -/
theorem foldl_latch_of_set {l : Latch} {s : State} (h : (s.notices.latches.get l).isSome = true) :
    ∀ is : List Nat, is.foldl (fun st i => latchNotice l i st) s = s
  | [] => rfl
  | i :: is => by rw [List.foldl_cons, latchNotice_of_set h, foldl_latch_of_set h is]

/-- Latching neither reads nor writes the statistics unit. -/
theorem latchNotice_stats_comm (l : Latch) (d : Nat) (s : State) (x : Statistics) :
    { latchNotice l d s with stats := x } = latchNotice l d { s with stats := x } := by
  unfold latchNotice
  simp only
  split
  · rfl
  · split
    · unfold offerNotice; simp only; split <;> rfl
    · rfl

/-- Counting, once and for all: the counters are added to, and at most one COUNTER_SATURATED is latched, of a counter at its
limit (R162). -/
theorem addToCounters_saturation (f : Counter → Nat) (s : State) :
    (addToCounters f s).sameButSaturation
      { s with stats := { s.stats with counters := s.stats.counters.map fun c => c.add (f c) } } := by
  unfold addToCounters
  simp only
  generalize hL : (List.range s.stats.counters.length).filter _ = L
  cases L with
  | nil => exact .inl rfl
  | cons i is =>
    right
    have hi : i ∈ i :: is := List.mem_cons_self
    rw [← hL] at hi
    rw [List.mem_filter, List.mem_range] at hi
    obtain ⟨h1, h2⟩ := hi
    have h3 : s.stats.counters[i]? = some s.stats.counters[i] := List.getElem?_eq_getElem h1
    rw [h3] at h2
    refine ⟨i, s.stats.counters[i].add (f s.stats.counters[i]), by simp [h3], ?_, ?_⟩
    · simp [Counter.saturates] at h2; simp [Counter.add]; omega
    · rw [List.foldl_cons, foldl_latch_of_set (latchNotice_isSome _ _ _)]

/-- One more event after others that did no more than count. -/
theorem sameButSaturation_count {t base : State} (h : t.sameButSaturation base) (ev : EventKind) (sub : Nat)
    (src : Option Source) :
    (countEvent ev sub src t).sameButSaturation { base with stats := base.counted ev sub src } := by
  rcases h with rfl | ⟨i, c, h1, h2, rfl⟩
  · exact addToCounters_saturation _ _
  · refine .inr ⟨i, c.add (if c.selects ev sub src then 1 else 0), by simp [State.counted, h1], ?_, ?_⟩
    · simp [Counter.add, h2]
    · unfold countEvent addToCounters
      simp only [latchNotice_stats]
      rw [latchNotice_stats_comm, foldl_latch_of_set (latchNotice_isSome _ _ _)]
      rfl
end Sys2Proof.Machine
end

