-- ==== Sys2Proof/Laws/Link.lean ====
section
/-! SUPPORT. What taking an asked message does, once for every row; and how the outbound queue, the slot and a pass
trigger behave under the shared operations. -/

namespace Sys2Proof.Machine

/-! ### Characters of the cabinet line (R132) -/

/-- An octet is read back from its line form. -/
@[simp] theorem readCharacter_lineForm (o : Octet) : readCharacter (lineForm o) = some o := by
  have h : ∀ n : Fin 256, readCharacter (lineForm (BitVec.ofFin n)) = some (BitVec.ofFin n) := by decide +kernel
  exact h o.toFin

/-- A character with a good stop bit is the taking of its octet (R134). -/
@[simp] theorem takeCharacter_lineForm (o : Octet) (k : Link) : takeCharacter (lineForm o) k = takeOctet o k := by
  simp [takeCharacter]

/-- A character whose stop bit is zero is the framing fault (R132). -/
theorem takeCharacter_stopZero (b : Bool) (bits : Bits) (h : bits.length = 8) (k : Link) :
    takeCharacter (b :: bits ++ [false]) k = abandonFrame k := by
  match bits, h with
  | [_, _, _, _, _, _, _, _], _ => rfl

/-! ### Asked messages -/

/-- The row that takes the head asked message lets its owner act and queues the REPLY (R137). -/
theorem takeAsked_run {s : State} {m : AskedMessage} {rest : List AskedMessage} (h : s.takes m rest)
    (want : AskedMessage → Bool) (owner : AskedMessage → State → State × Reply) (hw : want m = true) :
    whenRunning s (takeAsked want owner) =
      .next (queueMessage (replyMessage m (owner m (s.onLink fun k => { k with asked := rest })).2)
        (owner m (s.onLink fun k => { k with asked := rest })).1) := by
  obtain ⟨h1, h2, h3⟩ := h
  simp [whenRunning_running h1, takeAsked, State.nextAsked, h2, h3, hw, State.onLink]

/-- The row of a kind whose body has a fixed length (R137). -/
theorem takeFixed_run {s : State} {m : AskedMessage} {rest : List AskedMessage} (h : s.takes m rest) (kind : Octet)
    (n : Nat) (owner : List Octet → State → State × Reply) (hw : m.kind = kind) :
    whenRunning s (takeFixed kind n owner) =
      .next (queueMessage (replyMessage m (withLength n owner m (s.onLink fun k => { k with asked := rest })).2)
        (withLength n owner m (s.onLink fun k => { k with asked := rest })).1) :=
  takeAsked_run h (fun q => q.kind == kind) (withLength n owner) (by simp [hw])

/-- The rows of SET_MODE (R146). -/
theorem setMode_run {s : State} {m : AskedMessage} {rest : List AskedMessage} (h : s.takes m rest) (target : Mode)
    (hw : wantsMode target m = true) :
    whenRunning s (setMode target) =
      .next (queueMessage (replyMessage m (withLength 2 setModeOwner m (s.onLink fun k => { k with asked := rest })).2)
        (withLength 2 setModeOwner m (s.onLink fun k => { k with asked := rest })).1) :=
  takeAsked_run h (wantsMode target) (withLength 2 setModeOwner) hw

/-- A reply of an owner that leaves the state alone is the state answered. -/
theorem queueReply_answered (s : State) (m : AskedMessage) (rest : List AskedMessage) (r : Reply) :
    queueMessage (replyMessage m r) (s.onLink fun k => { k with asked := rest }) =
      s.answered m rest r.code.code r.data := rfl

/-- Notices that joined behind a command stay when its frame is withdrawn (R89). -/
theorem removeUnsent_append (t : Nat) (a b : List OutMessage) (h : ∀ m ∈ b, m.kind = .notice) :
    removeUnsent t (a ++ b) = removeUnsent t a ++ b := by
  cases a with
  | nil =>
    cases b with
    | nil => rfl
    | cons m ms => simp [removeUnsent]; intro q hq; simp [h q (List.mem_cons_of_mem _ hq)]
  | cons m ms => simp [removeUnsent]; intro q hq; simp [h q hq]

/-- Latching commutes with emptying the slot. -/
theorem emptySlot_noticed {t s : State} (h : t.noticedFrom s) (hp : t.planner.slot = s.planner.slot) :
    (emptySlot t).noticedFrom (emptySlot s) := by
  obtain ⟨a, o, d, hn, hl, ho, hs⟩ := h
  unfold emptySlot
  rw [hp]
  cases s.planner.slot with
  | none => exact ⟨a, o, d, hn, hl, ho, hs⟩
  | some c =>
    refine ⟨a, o, d, hn, ?_, ho, hs⟩
    simp [State.onLink, State.onPlanner, hl, removeUnsent_append _ _ _ ho]

/-- A pass trigger changes the planner's due pass and pass-due mark alone (R65, R66). -/
theorem triggerPass_planner_frame (s : State) :
    (triggerPass s).planner =
      { s.planner with passDue := (triggerPass s).planner.passDue, passMark := (triggerPass s).planner.passMark } := by
  unfold triggerPass
  repeat' split
  all_goals rfl

/-- A taken token changes the planner's tokens alone (R82). -/
theorem takeToken_planner_frame (x : Approach) (s : State) :
    (takeToken x s).planner =
      { s.planner with tokens := s.planner.tokens.set x (s.planner.tokens.get x - 1) } := by
  unfold takeToken
  dsimp only
  split <;> simp

/-- The planner told of a departure changes its grant and its pending revise alone (R102). -/
theorem tellDeparture_planner_frame (e : Entry) (s : State) :
    (tellDeparture e s).planner =
      { s.planner with
        grant := (tellDeparture e s).planner.grant, revise := (tellDeparture e s).planner.revise } := by
  unfold tellDeparture
  split
  · split
    · rfl
    · dsimp only
      split
      · split
        · simp only [callRevise]
          split
          · split
            · simp [closeGrant, State.onPlanner]
            · rfl
          · rfl
        · rfl
      · simp only [trimTest]
        split
        · split
          · split
            · simp only [callRevise]
              split
              · split
                · simp only [closeGrant]; split <;> rfl
                · rfl
              · rfl
            · rfl
          · rfl
        · rfl
  · rfl

/-- An exit changes the table, the cache, the outcome buffer, the counters, the grant, the pending revise and the pass
marks, and latches (R19); everything else stays. -/
theorem leaveTable_frame (e : Entry) (code : OutcomeCode) (byOut toCache : Bool) (s u : State)
    (h : u = leaveTable e code byOut toCache s) :
    u.sameButReports { s with
      table := u.table, cache := u.cache, outcomes := u.outcomes,
      planner := { s.planner with
        grant := u.planner.grant, revise := u.planner.revise, passDue := u.planner.passDue,
        passMark := u.planner.passMark } } := by
  have hn : u.noticedFrom s := by
    subst h
    unfold leaveTable
    refine noticedFrom_trans (noticedFrom_of_eq (t := triggerPass _)
      (base := countEvent .close code.code (some (.port e.approach))
        (outcomeArrives (outcomeRecord e code (tellDeparture e s).now byOut) (tellDeparture e s))) ?_ ?_)
      (noticedFrom_trans (countEvent_noticed _ _ _ _)
        (noticedFrom_trans (outcomeArrives_noticed _ _) (noticedFrom_of_eq (by simp) (by simp)))) <;>
      split <;> simp
  refine sameButNotices_of (base := _) (noticedFrom_trans hn (noticedFrom_of_eq rfl rfl)) ?_ ?_ ?_ ?_ ?_ ?_ ?_ ?_ ?_ ?_
    ?_ ?_ ?_ ?_ ?_ ?_ ?_
  all_goals first | rfl | skip
  all_goals (try (subst h; simp only [leaveTable]; split <;> simp [countEvent_stats]; done))
  subst h
  simp only [leaveTable]
  split <;> rw [triggerPass_planner_frame] <;>
    simp only [cacheBus_planner, removeEntry_planner, countEvent_planner, outcomeArrives_planner] <;>
    rw [tellDeparture_planner_frame]

end Sys2Proof.Machine
end

