-- ==== Sys2Proof/WellFormed.lean ====
section
/-! DEFINITION. When a command names something the spec knows: a bus id is 1 to 65534 (R1), and one command of an
approach framer brings at most the bits of one 264-bit frame slot (R109). -/

namespace Sys2Proof

/-- A bus id a telegram can carry (R1). -/
def busIdOk (bus : Nat) : Bool := 1 ≤ bus && bus ≤ 65534

/-- At most one frame slot of bits (R109). -/
def bitsOk (bits : Bits) : Bool := bits.length ≤ 264

/-- Well-formedness of a command. -/
def Instr.wellFormed : Instr → Bool
  | .entryExpiry bus => busIdOk bus
  | .cacheAgeOut bus => busIdOk bus
  | .candidateMarker _ bits => bitsOk bits
  | .confirmTest _ bits => bitsOk bits
  | .frameSlot _ bits => bitsOk bits
  | .powerOnReset _ | .framingFault | .frameGapTimeout | .cabinetCrc | .askedMessageArrival | .unknownKind
  | .phaseStatus | .commandAnswer | .configure | .readConfig | .setModeStandby | .setModeMonitor | .setModeRun
  | .readStatus | .listRequests | .readRequest | .cancelRequest | .readOutcomes | .programCounter | .readCounters
  | .readSummary | .setNoticeMask | .clearNotices | .linkControl | .injectTelegram | .restart | .factory
  | .restartTakesEffect | .factoryTakesEffect | .outboundFrameSent | .commandTransmitted | .checkIn | .position
  | .checkOut | .withdraw | .planningPass | .reviewTimer | .answerTimeout | .lostTagForget | .armLimit | .staleTimer
  | .tableOccupancy | .localFrameRead _ | .centringTimeout _ | .consecutiveRepeatLimit _ | .returnFrame _ | .rstnLow
  | .octetReceived _ => true

end Sys2Proof
end

