-- ==== Sys2Proof/Tests/Slice0.lean ====
section
/-! SUPPORT. Tests: the refusals of well-formedness; values of the spec's tables and worked examples, each found by one
operation or one command on a small state; and, for every statement of Certificates/Slice0/Obligations.lean that has
hypotheses, states and operands that meet them, at the boundary values of each clause. -/

namespace Sys2Proof.Tests

set_option Elab.async false

open Sys2Proof Sys2Proof.Machine

/-! ### Well-formedness and decoding -/

theorem test_wf_expiry_bus_zero : (Instr.entryExpiry 0).wellFormed = false := by decide
theorem test_wf_expiry_bus_high : (Instr.entryExpiry 65535).wellFormed = false := by decide
theorem test_wf_expiry_bus_ok : (Instr.entryExpiry 65534).wellFormed = true := by decide
theorem test_wf_age_out_bus_zero : (Instr.cacheAgeOut 0).wellFormed = false := by decide
theorem test_wf_age_out_bus_high : (Instr.cacheAgeOut 65535).wellFormed = false := by decide
theorem test_wf_marker_bits : (Instr.candidateMarker .a (List.replicate 265 true)).wellFormed = false := by decide +kernel
theorem test_wf_confirm_bits : (Instr.confirmTest .b (List.replicate 265 true)).wellFormed = false := by decide +kernel
theorem test_wf_slot_bits : (Instr.frameSlot .c (List.replicate 265 true)).wellFormed = false := by decide +kernel
theorem test_wf_slot_bits_ok : (Instr.frameSlot .c (List.replicate 264 true)).wellFormed = true := by decide +kernel

/-- The table gives its rows no bits: no word spells a command. -/
theorem test_decode_none : decodeTableWord 8 0xA5 = none := by decide
theorem test_withFetchWord_none : State.reset.withFetchWord 8 0 = State.reset := by decide +kernel

/-! ### States and messages -/

/-- The octets "123456789", over which Table 10-10 gives its check values. -/
def digits : List Octet := [0x31, 0x32, 0x33, 0x34, 0x35, 0x36, 0x37, 0x38, 0x39]

/-- A frame as the receive framer hands it over: length, kind, tag, body, CRC-16. -/
def frameOf (kind tag : Octet) (body : List Octet) : List Octet :=
  octet (body.length + 2) :: kind :: tag :: body ++
    octets2 (crc16 (octet (body.length + 2) :: kind :: tag :: body)).toNat

/-- Plan 3 of Table 3-6. -/
def plan3 : Plan := { id := 3, cycle := 900, splits := [200, 400, 150, 150, 0, 0, 0, 0] }

/-- A phase record of the worked intersection, with limits for both actions. -/
def phaseRecord : PhaseRecord :=
  { yellow := 30, redClear := 20, minGreen := 60, pedMin := 80, maxExtend := 150, maxAdvance := 150, truncatable := true }

/-- A configuration with one plan that fits its phases. -/
def config : Configuration :=
  { Configuration.factory with
    phases := [phaseRecord, phaseRecord, phaseRecord, phaseRecord], plans := [plan3],
    movementMap := .all ⟨2, 1, 3⟩ }

/-- Phase 2 in GREEN for 10 s, reported at part time 0. -/
def anchor : Anchor :=
  { plan := 3, phase := 2, interval := .green, elapsed := 100, arrival := 0, pedCalls := 0, inhibit := false }

/-- A part in RUN whose model is TRACKING, with nothing in flight. -/
def running : State :=
  { State.reset with
    mode := .run, now := 5, config := config, model := { state := .tracking, anchor := some anchor },
    planner := { State.reset.planner with review := some 10 }, link := Link.atReset }

/-- The same part with a pass due. -/
def passDue : State := { running with planner := { running.planner with passDue := true } }

/-- The estimate of an entry that is waiting for phase 2. -/
def estimate : Estimate :=
  { evalTime := 5, speed := 100, distNow := 100, eta := 100, beyond := false, halfWidth := 30, winStart := 70,
    winEnd := 130, eligibility := .eligible, score := 60, coasting := false, coastedEver := false }

/-- An entry of a bus on approach A, phase 2, in a given state. -/
def entry (bus : Nat) (st : EntryState) (why : Option WaitReason) : Entry :=
  { bus := bus, route := 7, cls := 0, approach := .a, movement := .through, phase := 2, fromCabinet := true, seq := 14,
    admission := 1, admitTime := 0, admittedByPosition := false, ring := [100, 100], distance := 100, tLast := 5,
    atStop := false, doorOpen := false, dwell := 0, lateness := 100, latenessAtAdmission := 100, load := 0,
    est := estimate, state := st, reason := why, attempts := 0, action := none, requested := none, applied := none,
    role := none, commandTime := none, etaAtCommand := none, closeTime := none, grantRan := none,
    indication := indicationOf st .eligible, shadow := false, classified := true }

/-- A telegram of bus 7 on approach A. -/
def telegram (kind : TelegramKind) (bus seq : Nat) : Telegram :=
  { source := .cabinet, approach := .a, kind := kind, bus := bus, seq := seq, movement := .through, atStop := false,
    doorOpen := false, route := 7, distance := 290, speed := 110, dwell := 0, lateness := 0, load := 0, age := 10 }

/-- A part with a telegram waiting in the cabinet queue. -/
def serving (t : Telegram) (s : State) : State :=
  { s with intake := { s.intake with queues := { s.intake.queues with cabinet := [t] } } }

/-- A part with a frame handed over. -/
def hearing (f : List Octet) (s : State) : State := { s with link := { s.link with received := [f] } }

/-- A part with a COMMAND_ANSWER handed over. -/
def answering (body : List Octet) (s : State) : State := hearing (frameOf 0x21 0 body) s

/-- An asked message. -/
def message (kind : Octet) (body : List Octet) : AskedMessage := { kind := kind, tag := 9, body := body }

/-- A part with an asked message at the head of its queue. -/
def asked (kind : Octet) (body : List Octet) (s : State) : State :=
  { s with link := { s.link with asked := [message kind body] } }

/-- A lead extension of 40 for bus 7 in the slot. -/
def slot : Slot :=
  { tag := 41, action := .adjust .extend, phase := 2, amount := 40, grantId := 41, role := .lead, bus := some 7,
    approach := .a, commandTime := some 3, etaAtCommand := some 100, due := some 5 }

/-- The part with a pass due. -/
def due (s : State) : State := { s with planner := { s.planner with passDue := true } }

/-- The part with that command in flight and its entry COMMANDED. -/
def commanded : State :=
  { running with
    table := [entry 7 .commanded none],
    planner := { running.planner with
      slot := some slot,
      ledger := { running.planner.ledger with
        committed := 40, leads := 1, reservation := some { amount := 40, role := .lead } } } }

/-- The same part with another command in the slot. -/
def inSlot (c : Slot) : State := { commanded with planner := { commanded.planner with slot := some c } }

/-- A grant of bus 7 on phase 2. -/
def grant (st : GrantState) (shadow : Bool) : Grant :=
  { id := 41, action := if st = .armed then .advance else .extend, phase := 2, requested := 90, applied := 90,
    total := if st = .armed then 0 else 90, members := [7], state := st, acceptTime := 0, shadow := shadow,
    armLimit := if st = .armed then some 5 else none, outSeen := if st = .armed then some true else none,
    approach := .a }

/-- The part with that grant active. -/
def granted (st : GrantState) (shadow : Bool) : State :=
  { running with
    table := [entry 7 .granted none], planner := { running.planner with grant := some (grant st shadow) } }

/-- A port that holds frames. -/
def port : Port := { Port.atReset true with framer := .aligned, expected := 6 }

/-- The part with that port on approach A. -/
def aligned (p : Port) : State := { running with ports := { running.ports with a := p } }

/-- A frame of the elastic store. -/
def storeFrame (pos : Nat) (marked : Bool) : Frame :=
  { control := octet (pos * 16), aux := 0, payload := List.replicate 30 0, pos := pos, marked := marked, lost := 0 }

/-- The bits of a received frame at a position, its payload zeros. -/
def frameBits (pos : Nat) : Bits := bitsOfOctets (0x6C :: octet (pos * 16) :: 0 :: List.replicate 30 0)

/-- What a command leaves of a state, for comparing one field. -/
def afterwards {α : Type} (i : Instr) (s : State) (f : State → α) : Option α :=
  match exec i s with
  | .next t => some (f t)
  | .fault _ => none
  | .refused _ => none

/-! ### Check values and worked examples -/

/-- Table 10-10. -/
theorem test_crc8_check_value : crc8 digits = 0xF4 := by decide +kernel
/-- Table 10-10. -/
theorem test_crc16_check_value : crc16 digits = 0x29B1 := by decide +kernel
/-- Section 1.9, rows 1, 2, 4, 5: the sequence differences. -/
theorem test_sequence_window :
    [sequenceDifference 15 14, sequenceDifference 15 15, sequenceDifference 2 15, sequenceDifference 0 2] =
      [1, 0, 3, 14] := by decide
/-- Section 1.10: the newcomer's single-sample ETA is 263. -/
theorem test_trial_eta : running.trialEta (telegram .checkIn 7142 0) = 263 := by decide +kernel
/-- Section 1.10: the NEW entry is the victim. -/
theorem test_victim :
    chooseVictim
      [{ entry 5210 .watch none with est := { estimate with eta := 410 } },
       { entry 3308 .far none with est := { estimate with eta := 1460 } }, entry 6021 .new none,
       entry 1 .waiting (some .limit)] = some (entry 6021 .new none, 2551) := by decide +kernel
/-- Section 5.7: 41 follows 40; the lost tag 41 is passed over (R89). -/
theorem test_next_tag : nextTag 40 none = 41 ∧ tagAfter 255 = 1 := by decide
/-- Section 6.11: the rotation of Table 6-8. -/
theorem test_rotation : [nextRotation 6 0, nextRotation 6 5, nextRotation 5 4] = [5, 4, 4] := by decide
/-- Section 8.5: T_expire of 6 against a T_stale of 8 becomes 9. -/
theorem test_clamp_pairs :
    clampApproach [1, 4, 30, 160, 100, 200, 30, 20, 10, 10, 8, 6, 40, 3, 2] =
      [1, 4, 30, 160, 100, 200, 30, 20, 10, 10, 8, 9, 40, 3, 2] := by decide
/-- Section 8.5: a split of 100 with Y 30, RC 20 and M 60 is inconsistent, one of 150 is not. -/
theorem test_consistency :
    Configuration.consistent { config with plans := [{ plan3 with splits := [250, 350, 100, 200, 0, 0, 0, 0] }] } = false ∧
      config.consistent = true := by decide +kernel

/-! ### One command each -/

theorem test_powerOnReset : afterwards (.powerOnReset 2) running (fun t => (t.rate, t.mode, t.attn)) =
    some (2, .standby, true) := by decide +kernel
theorem test_rstnLow : afterwards .rstnLow State.reset (fun t => (t.held, t.attn, t.lineIdle)) =
    some (true, false, true) := by decide +kernel
/-- R132: the start bit, the eight bits of 0xA5 from the least significant up, the stop bit. -/
theorem test_lineForm : lineForm 0xA5 = [false, true, false, true, false, false, true, false, true, true] := by decide
theorem test_octetReceived_start : afterwards (.octetReceived 0xA5) running (fun t => t.link.framer) =
    some (.receiving []) := by decide +kernel
theorem test_framingFault :
    afterwards .framingFault { running with link := { running.link with framer := .receiving [4] } }
      (fun t => t.link.framer) = some .idle := by decide +kernel
theorem test_frameGapTimeout :
    afterwards .frameGapTimeout { running with link := { running.link with framer := .receiving [] } }
      (fun t => t.link.framer) = some .idle := by decide +kernel
theorem test_cabinetCrc : afterwards .cabinetCrc (hearing [2, 4, 0, 0, 0] running) (fun t => t.link.crcErrors) =
    some 1 := by decide +kernel
theorem test_askedMessageArrival :
    afterwards .askedMessageArrival (hearing (frameOf 4 21 []) running) (fun t => t.link.asked) =
      some [{ kind := 4, tag := 21, body := [] }] := by decide +kernel
/-- Section 7.7: the fifth asked message is discarded, tallied and latched. -/
theorem test_askedMessageArrival_overrun :
    afterwards .askedMessageArrival
      (hearing (frameOf 10 25 [1])
        { running with link := { running.link with asked := List.replicate 4 (message 4 []) } })
      (fun t => (t.link.overruns, t.link.asked.length, t.notices.latches.hostOverrun.isSome)) = some (1, 4, true) := by
  decide +kernel
theorem test_unknownKind : afterwards .unknownKind (asked 0x33 [] running) (fun t => t.link.outbound.map OutMessage.body) =
    some [[0x33, 2]] := by decide +kernel
/-- Section 8.5: the first status takes the model to TRACKING and announces no cycle start. -/
theorem test_phaseStatus_tracking :
    afterwards .phaseStatus
      (hearing (frameOf 0x20 0 [3, 2, 0, 0, 50, 1, 0]) { running with model := { state := .noStatus, anchor := none } })
      (fun t => (t.model.state, t.planner.refills, t.planner.passDue)) =
      some (.tracking, ⟨0, 0, 0, 0⟩, true) := by decide +kernel
/-- Table 4-5: the second cycle start refills. -/
theorem test_phaseStatus_cycle_start :
    afterwards .phaseStatus
      (hearing (frameOf 0x20 0 [3, 2, 0, 0, 50, 1, 0])
        { running with planner := { running.planner with tokens := .all 1, refills := ⟨1, 0, 1, 0⟩ } })
      (fun t => (t.planner.tokens, t.planner.refills)) = some (⟨2, 1, 2, 1⟩, ⟨0, 1, 0, 1⟩) := by decide +kernel
/-- Section 5.7 at 10009: the grant, its total and the token. -/
theorem test_commandAnswer_accept :
    afterwards .commandAnswer (hearing (frameOf 0x21 0 [41, 0, 0, 40, 0]) commanded)
      (fun t => (t.planner.slot, t.planner.grant.map fun g => (g.total, g.members), t.planner.tokens.a,
        t.planner.ledger.committed)) = some (none, some (40, [7]), 2, 40) := by decide +kernel
theorem test_commandAnswer_refuse_firm :
    afterwards .commandAnswer (hearing (frameOf 0x21 0 [41, 2, 0, 0, 1]) commanded)
      (fun t => (t.table.map fun e => (e.state, e.attempts), t.planner.ledger.committed, t.planner.ledger.leads)) =
      some ([(.denied, 1)], 0, 0) := by decide +kernel
theorem test_configure_wrong_mode :
    afterwards .configure (asked 1 [1, 7, 0, 2, 1, 0, 2, 0, 0, 3, 0, 0, 4, 0, 0] running)
      (fun t => (t.link.outbound.map OutMessage.body, t.config == running.config)) =
      some ([[1, 5]], true) := by decide +kernel
theorem test_configure_clamped :
    afterwards .configure (asked 1 [1, 3, 0, 1, 0, 101, 0, 60, 0, 120, 20] running)
      (fun t => (t.link.outbound.map OutMessage.body, t.config.classes.c0.weight)) =
      some ([[1, 1, 1, 98, 0, 0, 101]], 100) := by decide +kernel
theorem test_readConfig :
    afterwards .readConfig (asked 2 [3, 0] running) (fun t => t.link.outbound.map OutMessage.body) =
      some [[2, 0, 3, 0, 1, 0, 60, 0, 60, 0, 120, 20]] := by decide +kernel
theorem test_setModeStandby_active :
    afterwards .setModeStandby (asked 3 [0, 0] commanded) (fun t => (t.link.outbound.map OutMessage.body, t.mode)) =
      some ([[3, 8]], .run) := by decide +kernel
/-- Section 8.6: a forced stop releases the reservation and closes the entries as ABANDONED. -/
theorem test_setModeStandby_forced :
    afterwards .setModeStandby (asked 3 [0, 1] commanded)
      (fun t => (t.mode, t.table.length, t.planner.ledger.committed, t.outcomes.records.map fun r => r.code)) =
      some (.standby, 0, 0, [.abandoned]) := by decide +kernel
theorem test_setModeMonitor : afterwards .setModeMonitor (asked 3 [1, 0] running) (fun t => t.mode) = some .monitor := by
  decide +kernel
theorem test_setModeRun_inconsistent :
    afterwards .setModeRun (asked 3 [2, 0] State.reset) (fun t => (t.mode, (t.link.outbound.map OutMessage.body).getLast?)) =
      some (.standby, some [3, 6]) := by decide +kernel
/-- Table 10-7: its groups add up to 12 + 8 + 11 + 23 + 6 + 12 + 10 + 23 × 6 + 4 × 5 octets, after kind and code. -/
theorem test_readStatus_length :
    afterwards .readStatus (asked 4 [] running) (fun t => t.link.outbound.map fun m => m.body.length) =
      some [242] := by decide +kernel
theorem test_listRequests :
    afterwards .listRequests (asked 5 [0, 16] { running with table := [entry 7 .waiting (some .limit)] })
      (fun t => t.link.outbound.map OutMessage.body) =
      some [[5, 0, 1, 0, 1, 0, 7, 0, 1, 0, 2, 4, 2, 1, 0, 100, 60, 0, 3]] := by decide +kernel
theorem test_readRequest_not_found :
    afterwards .readRequest (asked 6 [0, 7] running) (fun t => t.link.outbound.map OutMessage.body) = some [[6, 7]] := by
  decide +kernel
theorem test_cancelRequest :
    afterwards .cancelRequest (asked 7 [0, 7] { running with table := [entry 7 .waiting (some .limit)] })
      (fun t => (t.table.length, t.cache.map CacheEntry.bus, t.outcomes.records.map fun r => r.code)) =
      some (0, [7], [.cancelled]) := by decide +kernel
theorem test_readOutcomes_bad : afterwards .readOutcomes (asked 8 [9] running)
    (fun t => t.link.outbound.map OutMessage.body) = some [[8, 4]] := by decide +kernel
theorem test_programCounter :
    afterwards .programCounter (asked 9 [3, 17, 0xFF, 0xFF, 4] running) (fun t => t.stats.counters[3]?) =
      some (some { value := 0, event := some .tableOccupancy, subMask := 0x1FF, sourceMask := 4 }) := by decide +kernel
theorem test_readCounters_clear :
    afterwards .readCounters
      (asked 10 [1] { running with stats := { running.stats with counters := [{ Counter.blank with value := 6 }] } })
      (fun t => (t.stats.counters.map Counter.value, t.link.outbound.map OutMessage.body)) =
      some ([0], [[10, 0, 0, 0, 0, 6, 0, 0, 0, 0]]) := by decide +kernel
theorem test_readSummary :
    afterwards .readSummary
      (asked 11 [] { running with stats := { running.stats with totals := ⟨3, 1, 1, 0, 1⟩ } })
      (fun t => t.link.outbound.map fun m => m.body.getLast?) = some [some 66] := by decide +kernel
theorem test_setNoticeMask : afterwards .setNoticeMask (asked 12 (List.replicate 23 0) State.reset) (fun t => t.attn) =
    some false := by decide +kernel
theorem test_clearNotices : afterwards .clearNotices (asked 13 [1, 0] State.reset) (fun t => t.attn) = some false := by
  decide +kernel
theorem test_linkControl : afterwards .linkControl (asked 14 [2, 1, 1, 0] running)
    (fun t => (t.ports.c.force, t.ports.c.crcInsertion, t.ports.c.markerInsertion)) = some (true, .waiting, false) := by
  decide +kernel
theorem test_injectTelegram :
    afterwards .injectTelegram (asked 15 [1, 1, 0, 7, 0, 0, 5, 0, 100, 90, 0, 0, 0, 0, 0, 0] running)
      (fun t => (t.intake.queues.cabinet.map fun q => (q.bus, q.approach), t.link.outbound.map OutMessage.body)) =
      some ([(7, .b)], [[15, 0, 0]]) := by decide +kernel
theorem test_restart : afterwards .restart (asked 16 [0] running)
    (fun t => (t.link.restart, t.link.outbound.map fun m => m.final)) = some (some .restart, [true]) := by decide +kernel
theorem test_factory : afterwards .factory (asked 16 [1] running) (fun t => t.link.restart) = some (some .factory) := by
  decide +kernel

/-- The REPLY of a RESTART at the head of the outbound queue, the restart pending. -/
def restarting (r : Selector) : State :=
  { running with link := { running.link with
      restart := some r, outbound := [{ kind := .reply, tag := 9, body := [16, 0], final := true }] } }

theorem test_restartTakesEffect : afterwards .restartTakesEffect (restarting .restart)
    (fun t => (t.mode, t.config == config, t.model.state, t.link.outbound.length)) = some (.standby, true, .noStatus, 1) := by
  decide +kernel
theorem test_factoryTakesEffect : afterwards .factoryTakesEffect (restarting .factory)
    (fun t => (t.config == Configuration.factory, t.notices.latches.restarted)) =
      some (true, some { detail := 2, time := 0 }) := by decide +kernel
theorem test_outboundFrameSent : afterwards .outboundFrameSent State.reset (fun t => t.link.outbound.length) = some 0 := by
  decide +kernel
/-- Section 5.7: the due time of a command transmitted at 10000 with T_ans 500 ms is 10005. -/
theorem test_outboundFrameSent_due : answerDue 10000 500 = 10005 := by decide
theorem test_commandTransmitted :
    afterwards .commandTransmitted
      { commanded with
        planner := { commanded.planner with slot := some { slot with due := none } },
        link := { commanded.link with reports := [{ tag := 41, due := 10 }] } }
      (fun t => t.planner.slot.bind fun c => c.due) = some (some 10) := by decide +kernel
/-- Section 1.10: the newcomer is admitted in NEW with the next number. -/
theorem test_checkIn : afterwards .checkIn (serving (telegram .checkIn 7142 0) running)
    (fun t => t.table.map fun e => (e.bus, e.state, e.admission, e.est.eta)) = some [(7142, .new, 1, 263)] := by
  decide +kernel
/-- Section 1.9, row 5. -/
theorem test_position_out_of_order :
    afterwards .position
      (serving (telegram .position 7 0) { running with table := [{ entry 7 .waiting (some .limit) with seq := 2 }] })
      (fun t => t.table.map fun e => e.seq) = some [2] := by decide +kernel
/-- Section 1.9, row 7. -/
theorem test_checkOut : afterwards .checkOut (serving (telegram .checkOut 7 15) (granted .running false))
    (fun t => (t.outcomes.records.map fun r => r.code, t.cache.map CacheEntry.bus)) = some ([.servedGranted], [7]) := by
  decide +kernel
theorem test_withdraw :
    afterwards .withdraw (serving (telegram .withdraw 7 15) { running with table := [entry 7 .waiting (some .limit)] })
      (fun t => (t.outcomes.records.map fun r => r.code, t.cache.length)) = some ([.withdrawn], 0) := by decide +kernel
/-- R22: 15 s after the last telegram. -/
theorem test_entryExpiry :
    afterwards (.entryExpiry 7) { running with now := 155, table := [entry 7 .waiting (some .limit)] }
      (fun t => t.table.length) = some 0 := by decide +kernel
theorem test_cacheAgeOut :
    afterwards (.cacheAgeOut 7) { running with now := 2147483648, cache := [{ bus := 7, approach := .a, time := 0 }] }
      (fun t => t.cache.length) = some 0 := by decide +kernel
/-- R80, R85, R89: a pass of RUN commands the one waiting bus at 250 m: ETA 250, half-width 45, window
end 295; with the clearance 10 and the green's end at 350 - 105 = 245 it needs 60. -/
theorem test_planningPass :
    afterwards .planningPass
      { passDue with table := [{ entry 7 .waiting (some .needsGreen) with distance := 250, ring := [100, 100] }] }
      (fun t => t.planner.slot.map fun c => (c.tag, c.action, c.amount)) =
      some (some (1, .adjust .extend, 60)) := by decide +kernel
theorem test_reviewTimer : afterwards .reviewTimer { running with now := 10 }
    (fun t => (t.planner.review, t.planner.passDue)) = some (some 20, true) := by decide +kernel
/-- Section 5.7 at 10005: the slot empties, the tag is lost for 5 s, the entry waits with one attempt. -/
theorem test_answerTimeout : afterwards .answerTimeout commanded
    (fun t => (t.planner.slot, t.planner.lost.map fun m => (m.tag, m.forget), t.table.map fun e => (e.state, e.attempts))) =
      some (none, some (41, 55), [(.waiting, 1)]) := by decide +kernel

/-- The memory of a lost command. -/
def lost : LostTag :=
  { tag := 41, action := .extend, phase := 2, requested := 40, grantId := 41, role := .lead, bus := 7, approach := .a,
    commandTime := 0, etaAtCommand := 100, forget := 5 }

theorem test_lostTagForget : afterwards .lostTagForget { running with planner := { running.planner with lost := some lost } }
    (fun t => t.planner.lost) = some none := by decide +kernel
/-- Section 5.8: an advance whose green has not appeared closes unused. -/
theorem test_armLimit : afterwards .armLimit (granted .armed false)
    (fun t => (t.planner.grant, t.table.map fun e => (e.state, e.grantRan))) = some (none, [(.spent, some false)]) := by
  decide +kernel
theorem test_staleTimer : afterwards .staleTimer { running with now := 30 } (fun t => (t.model.state, t.planner.review)) =
    some (.stale, none) := by decide +kernel
/-- Section 9.7 at 6000: two WAITING entries. -/
theorem test_tableOccupancy :
    afterwards .tableOccupancy
      { running with
        now := 6000, table := [entry 7 .waiting (some .limit), entry 8 .waiting (some .limit), entry 9 .far none],
        stats := { running.stats with counters := [⟨0, some .tableOccupancy, 0x10, 1⟩] } }
      (fun t => t.stats.counters.map Counter.value) = some [2] := by decide +kernel
theorem test_candidateMarker :
    afterwards (.candidateMarker .a (true :: frameBits 2)) running (fun t => (t.ports.a.framer, t.ports.a.bits.length)) =
      some (.confirm, 264) := by decide +kernel
theorem test_confirmTest_fail :
    afterwards (.confirmTest .a (List.replicate 16 true)) (aligned { port with framer := .confirm, bits := frameBits 2 })
      (fun t => (t.ports.a.framer, t.ports.a.bits.length)) = some (.hunt, 279) := by decide +kernel
/-- Section 6.9: the frame at position 6 is the first one written. -/
theorem test_frameSlot : afterwards (.frameSlot .a (frameBits 6)) (aligned { port with centring := true })
    (fun t => (t.ports.a.expected, t.ports.a.store.map fun f => (f.pos, f.marked), t.ports.a.centring)) =
      some (7, [(6, false)], true) := by decide +kernel
/-- Section 6.10: a write to a full store drops frame 5. -/
theorem test_frameSlot_drop :
    afterwards (.frameSlot .a (frameBits 9))
      (aligned { port with
        expected := 9, store := [storeFrame 5 false, storeFrame 6 false, storeFrame 7 false, storeFrame 8 false] })
      (fun t => (t.ports.a.store.map fun f => (f.pos, f.lost), t.ports.a.lastSlip)) =
      some ([(6, 1), (7, 0), (8, 0), (9, 0)], .drop) := by decide +kernel
/-- Section 6.10: the read of frame 6 makes quarter 1 incomplete. -/
theorem test_localFrameRead :
    afterwards (.localFrameRead .a)
      (aligned { port with
        store := [{ storeFrame 6 false with lost := 1 }],
        quarter := some { offset := 0, payloads := [List.replicate 30 0], complete := true } })
      (fun t => t.ports.a.quarter.map fun q => (q.offset, q.payloads.length, q.complete)) = some (some (2, 2, false)) := by
  decide +kernel
theorem test_centringTimeout :
    afterwards (.centringTimeout .a) (aligned { port with centring := true, centringIdle := 15 })
      (fun t => t.ports.a.framer) = some .hunt := by decide +kernel
theorem test_consecutiveRepeatLimit :
    afterwards (.consecutiveRepeatLimit .a) (aligned { port with repeats := 15 })
      (fun t => (t.ports.a.framer, t.ports.a.lastSlip)) = some (.hunt, .repeat) := by decide +kernel
theorem test_returnFrame :
    afterwards (.returnFrame .a) (aligned { port with framer := .hunt, returnPos := 5, echo := true })
      (fun t => (t.ports.a.sending.map fun r => r.octets.take 4, t.ports.a.returnPos)) =
      some (some [0x6C, 0x58, 1, 0], 6) := by decide +kernel
/-- A DISABLED port with a loop-timed return frame that has two bits to send. -/
def draining : State :=
  aligned { port with
    framer := .disabled, sending := some { octets := List.replicate 33 0, unsent := 2, timing := .loop } }

/-- R124, R129: one inbound bit leaves the frame in progress at RETURN_FRAME, and two end the stream. -/
theorem test_returnFrame_disabled :
    ([1, 2].map fun n => afterwards (.frameSlot .a (List.replicate n true)) draining fun t =>
      afterwards (.returnFrame .a) t fun u => u.ports.a.sending.isSome) = [some (some true), some (some false)] := by
  decide +kernel
/-- A step takes the command at the front. -/
theorem test_step_front : step { running with pending := [.rstnLow, .checkIn] } =
    .next { running with pending := [.checkIn], held := true } := by rfl
/-- With nothing due, part time advances. -/
theorem test_idle_nothing_due : dueNow State.reset = [] := by decide +kernel
theorem test_tick : (tick State.reset).now = 1 := by decide

/-! ### Witnesses: states and operands that meet the hypotheses of each statement, clause by clause -/

theorem witness_IdleStep_held : ({ State.reset with held := true } : State).pending = [] ∧
    ({ State.reset with held := true } : State).held = true := by decide
theorem witness_IdleStep_tick : State.reset.pending = [] ∧ State.reset.held = false ∧ dueNow State.reset = [] := by
  decide +kernel
theorem witness_IdleStep_due : (hearing [2, 4, 0, 0, 0] running).pending = [] ∧
    (hearing [2, 4, 0, 0, 0] running).held = false ∧ dueNow (hearing [2, 4, 0, 0, 0] running) ≠ [] := by decide +kernel
theorem witness_RstnLowHoldsThePart : exec .rstnLow running = .next { running with held := true } ∧
    ∀ straps, Instr.checkIn ≠ .powerOnReset straps := ⟨rfl, fun _ h => nomatch h⟩

theorem witness_ReceiveFramer_idle : running.held = false ∧ running.link.framer = .idle := by decide
theorem witness_ReceiveFramer_length :
    ({ running with link := { running.link with framer := .receiving [] } } : State).held = false ∧
      ({ running with link := { running.link with framer := .receiving [] } } : State).link.framer = .receiving [] := by
  decide
/-- Both boundaries of the octets that follow a length of 2: the third completes nothing, the fourth completes the frame. -/
theorem witness_ReceiveFramer_octets : ∃ s : State, s.held = false ∧ s.link.framer = .receiving [2, 4, 21, 0] ∧
    ([4, 21, 0] : List Octet).length + 1 = (2 : Octet).toNat + 2 ∧ ([4, 21] : List Octet).length + 1 ≠ (2 : Octet).toNat + 2 :=
  ⟨{ running with link := { running.link with framer := .receiving [2, 4, 21, 0] } }, by decide⟩
theorem witness_FramedMessageIsCollected :
    ([] : List Octet).length ≤ 248 ∧ (List.replicate 248 (0 : Octet)).length ≤ 248 ∧ running.held = false ∧
      running.link.framer = .idle := by decide +kernel
theorem witness_BadFrameIsTallied : running.held = false ∧ (hearing [2, 4, 0, 0, 0] running).link.received = [[2, 4, 0, 0, 0]] ∧
    octets2 (crc16 (([2, 4, 0, 0, 0] : List Octet).take 3)).toNat ≠ ([2, 4, 0, 0, 0] : List Octet).drop 3 := by
  decide +kernel

/-- A part with a number of asked messages unanswered. -/
def busy (n : Nat) : State :=
  hearing (frameOf 10 25 [1]) { running with link := { running.link with asked := List.replicate n (message 4 []) } }

theorem witness_AskedMessage_frame : framePasses (frameOf 10 25 [1]) = true ∧ frameKind (frameOf 10 25 [1]) ≠ 0x20 ∧
    frameKind (frameOf 10 25 [1]) ≠ 0x21 ∧ (busy 3).held = false ∧
    (busy 3).link.received = [frameOf 10 25 [1]] := by decide +kernel
theorem witness_AskedMessage_queued : (busy 3).link.restart = none ∧ (busy 3).unanswered < 4 := by decide +kernel
theorem witness_AskedMessage_overrun : (busy 4).link.restart = none ∧ 4 ≤ (busy 4).unanswered ∧
    (busy 4).notices.latches.hostOverrun = none := by decide +kernel
theorem witness_AskedMessage_overrun_again : ∃ s : State, s.held = false ∧ s.link.received = [frameOf 10 25 [1]] ∧
    s.link.restart = none ∧ 4 ≤ s.unanswered ∧ s.notices.latches.hostOverrun.isSome = true :=
  ⟨{ busy 4 with notices := { running.notices with latches := { running.notices.latches with
      hostOverrun := some { detail := 0, time := 1 } } } }, by decide +kernel⟩
theorem witness_AskedMessage_restart : ∃ s : State, s.held = false ∧ s.link.received = [frameOf 10 25 [1]] ∧
    s.link.restart.isSome = true := ⟨hearing (frameOf 10 25 [1]) (restarting .restart), by decide +kernel⟩

theorem witness_UnknownKind_zero : (asked 0 [] running).takes (message 0 []) [] ∧ (message 0 []).kind.toNat = 0 := by decide
theorem witness_UnknownKind_high : (asked 17 [] running).takes (message 17 []) [] ∧ 16 < (message 17 []).kind.toNat := by
  decide
theorem witness_BadLength :
    (asked 12 [0] running).takes (message 12 [0]) [] ∧ (message 12 [0]).kind.toNat = 12 ∧
      (message 12 [0]).body.length ≠ 23 := by decide

theorem witness_OutboundFrameSent : State.reset.held = false ∧ State.reset.link.outbound = [restartedNotice 0] ∧
    (restartedNotice 0).final = false := by decide
theorem witness_OutboundFrameSent_command : ∃ s : State, s.held = false ∧ s.link.outbound = [commandMessage slot] ∧
    (commandMessage slot).final = false ∧ (commandMessage slot).kind = .priorityCommand :=
  ⟨{ running with link := { running.link with outbound := [commandMessage slot] } }, by decide +kernel⟩

/-- A command whose frame has just been transmitted. -/
def transmitted : State :=
  { commanded with
    planner := { commanded.planner with slot := some { slot with due := none } },
    link := { commanded.link with reports := [{ tag := 41, due := 10 }] } }

theorem witness_Transmission : transmitted.held = false ∧ transmitted.link.reports = [{ tag := 41, due := 10 }] ∧
    transmitted.planner.slot = some { slot with due := none } ∧ slot.tag = 41 := by decide
theorem witness_Transmission_gone : ∃ s : State, s.held = false ∧ s.link.reports = [{ tag := 41, due := 10 }] ∧
    ∀ c, s.planner.slot = some c → c.tag ≠ 41 :=
  ⟨{ transmitted with planner := { transmitted.planner with slot := none } }, by decide, rfl, fun _ h => nomatch h⟩

theorem witness_UnusableStatus_length : (hearing (frameOf 0x20 0 [3, 2, 0, 0, 0, 0]) running).hears 0x20
    (frameOf 0x20 0 [3, 2, 0, 0, 0, 0]) [] ∧ (frameBody (frameOf 0x20 0 [3, 2, 0, 0, 0, 0])).length ≠ 7 := by decide +kernel
theorem witness_UnusableStatus_phase : ∃ s r : State,
    (s.hears 0x20 (frameOf 0x20 0 [3, 0, 0, 0, 0, 0, 0]) [] ∧
      (bodyOctet (frameBody (frameOf 0x20 0 [3, 0, 0, 0, 0, 0, 0])) 1).toNat = 0) ∧
    (r.hears 0x20 (frameOf 0x20 0 [3, 5, 0, 0, 0, 0, 0]) [] ∧
      r.config.phases.length < (bodyOctet (frameBody (frameOf 0x20 0 [3, 5, 0, 0, 0, 0, 0])) 1).toNat) :=
  ⟨hearing (frameOf 0x20 0 [3, 0, 0, 0, 0, 0, 0]) running, hearing (frameOf 0x20 0 [3, 5, 0, 0, 0, 0, 0]) running,
    by decide +kernel⟩
theorem witness_UnusableStatus_interval : ∃ s : State, s.hears 0x20 (frameOf 0x20 0 [3, 2, 3, 0, 0, 0, 0]) [] ∧
    2 < (bodyOctet (frameBody (frameOf 0x20 0 [3, 2, 3, 0, 0, 0, 0])) 2).toNat :=
  ⟨hearing (frameOf 0x20 0 [3, 2, 3, 0, 0, 0, 0]) running, by decide +kernel⟩

/-- An answer too short, one whose verdict and one whose reason is just above the last code, and one with the last codes
whose tag nothing awaits. -/
theorem witness_UnusableAnswer :
    (∀ b ∈ ([[41, 0, 0, 0], [41, 3, 0, 0, 0], [41, 2, 0, 0, 2], [41, 2, 0, 0, 1]] : List (List Octet)),
      (answering b running).hears 0x21 (frameOf 0x21 0 b) [] ∧ frameBody (frameOf 0x21 0 b) = b) ∧
    ([41, 0, 0, 0] : List Octet).length ≠ 5 ∧ 2 < (bodyOctet [41, 3, 0, 0, 0] 1).toNat ∧
    1 < (bodyOctet [41, 2, 0, 0, 2] 4).toNat ∧ ([41, 2, 0, 0, 1] : List Octet).length = 5 ∧
    (bodyOctet [41, 2, 0, 0, 1] 1).toNat ≤ 2 ∧ (bodyOctet [41, 2, 0, 0, 1] 4).toNat ≤ 1 ∧
    (answering [41, 2, 0, 0, 1] running).planner.slot = none ∧ (answering [41, 2, 0, 0, 1] running).planner.lost = none := by
  decide +kernel

/-- A valid status: the highest phase, the last interval, a plan, flags and mask. -/
def status (plan flags : Octet) : List Octet := frameOf 0x20 0 [plan, 4, 2, 0, 50, flags, 0xFF]

theorem witness_ValidStatus : ∃ s : State, s.hears 0x20 (status 3 1) [] ∧
    frameBody (status 3 1) = [3, 4, 2, 0, 50, 1, 0xFF] ∧ 1 ≤ (4 : Octet).toNat ∧
    (4 : Octet).toNat ≤ s.config.phases.length ∧ (2 : Octet).toNat = Interval.redClear.code :=
  ⟨hearing (status 3 1) running, by decide +kernel⟩
theorem witness_CycleStart : ∃ s : State, s.hears 0x20 (status 3 1) [] ∧ (1 : Octet).getLsbD 0 = true ∧
    s.model.state ≠ .noStatus ∧ s.planner.refills.a + 1 < (s.config.approaches.get .a).refill :=
  ⟨hearing (status 3 1) running, by decide +kernel⟩
theorem witness_CycleStart_refill : ∃ s : State, s.hears 0x20 (status 3 1) [] ∧ s.model.state ≠ .noStatus ∧
    (s.config.approaches.get .a).refill ≤ s.planner.refills.a + 1 :=
  ⟨hearing (status 3 1) { running with planner := { running.planner with refills := .all 1 } }, by decide +kernel⟩
theorem witness_CycleStart_noStatus : ∃ s : State, s.hears 0x20 (status 3 1) [] ∧ (1 : Octet).getLsbD 0 = true ∧
    s.model.state = .noStatus :=
  ⟨hearing (status 3 1) { running with model := { state := .noStatus, anchor := none } }, by decide +kernel⟩
theorem witness_CycleStart_none : ∃ s : State, s.hears 0x20 (status 3 0) [] ∧ (0 : Octet).getLsbD 0 = false :=
  ⟨hearing (status 3 0) running, by decide +kernel⟩
theorem witness_StatusDecides_running : (hearing (status 3 0) (granted .running false)).hears 0x20 (status 3 0) [] ∧
    (granted .running false).planner.grant = some (grant .running false) ∧ (grant .running false).state = .running ∧
    ¬((4 : Octet).toNat = (grant .running false).phase ∧ Interval.redClear = .green) := by decide +kernel
theorem witness_StatusDecides_green : ∃ s : State, s.hears 0x20 (frameOf 0x20 0 [3, 2, 0, 0, 50, 0, 0]) [] ∧
    s.planner.grant = some (grant .running false) ∧
    frameBody (frameOf 0x20 0 [3, 2, 0, 0, 50, 0, 0]) = [3, 2, 0, 0, 50, 0, 0] ∧
    ((2 : Octet).toNat = (grant .running false).phase ∧ (0 : Octet).toNat = Interval.green.code) :=
  ⟨hearing (frameOf 0x20 0 [3, 2, 0, 0, 50, 0, 0]) (granted .running false), by decide +kernel⟩
theorem witness_StatusDecides_armed : ∃ s : State, s.hears 0x20 (status 3 2) [] ∧ s.planner.grant = some (grant .armed false) ∧
    (grant .armed false).state = .armed ∧ s.model.state = .tracking :=
  ⟨hearing (status 3 2) (granted .armed false), by decide +kernel⟩
/-- A status with the inhibit flag takes the model out of TRACKING; one without keeps it there. -/
theorem witness_StatusDecides_left :
    afterwards .phaseStatus (hearing (status 3 2) (granted .armed false)) (fun t => t.model.state) = some .inhibited ∧
      afterwards .phaseStatus (hearing (status 3 0) (granted .armed false)) (fun t => t.model.state) = some .tracking := by
  decide +kernel

/-- The stale timer at the instant T_sig, and one tenth before it. -/
theorem witness_StaleTimer : ∃ s r : State, (s.held = false ∧ s.model.anchor = some anchor ∧ s.model.state ≠ .noStatus ∧
    s.model.state ≠ .stale ∧
    (s.now - (anchor.arrival + BitVec.ofNat 32 (10 * s.config.general.tSig))).toNat < 2147483648) ∧
    (r.held = false ∧ r.model.anchor = some anchor ∧ r.model.state ≠ .noStatus ∧ r.model.state ≠ .stale ∧
    2147483648 ≤ (r.now - (anchor.arrival + BitVec.ofNat 32 (10 * r.config.general.tSig))).toNat) :=
  ⟨{ running with now := 30 }, { running with now := 29 }, by decide +kernel⟩
theorem witness_StaleTimer_grants : ∃ s r q : State,
    (s.held = false ∧ s.model.state = .tracking ∧ s.planner.grant = some (grant .armed false) ∧ s.now = 30) ∧
    (r.held = false ∧ r.model.state = .tracking ∧ r.planner.grant = some (grant .running false) ∧
      (grant .running false).state = .running ∧ r.now = 30) ∧
    (q.held = false ∧ q.model.anchor = some anchor ∧ q.model.state = .inhibited ∧ q.now = 30) :=
  ⟨{ granted .armed false with now := 30 }, { granted .running false with now := 30 },
    { running with now := 30, model := { state := .inhibited, anchor := some anchor } }, by decide⟩
theorem witness_ReviewTimer : ∃ s : State, s.held = false ∧ s.planner.review = some 10 ∧ (s.now - 10).toNat < 2147483648 ∧
    s.mode ≠ .standby ∧ s.planner.passRunning = false := ⟨{ running with now := 10 }, by decide⟩
theorem witness_LostTagForget : ∃ s : State, s.held = false ∧ s.planner.lost = some lost ∧
    (s.now - lost.forget).toNat < 2147483648 :=
  ⟨{ running with planner := { running.planner with lost := some lost } }, by decide⟩
theorem witness_SuspendedPass : ∃ s : State, s.held = false ∧ s.planner.passDue = true ∧ s.planner.passMark = false ∧
    s.mode ≠ .standby ∧ s.model.state ≠ .tracking :=
  ⟨{ passDue with model := { state := .inhibited, anchor := some anchor } }, by decide⟩

/-- A pending revise of grant 41. -/
def revise : Revise := { grantId := 41, phase := 2, total := 0, approach := .a, revoke := true }

theorem witness_Revise : ∃ s : State, s.held = false ∧ s.planner.passDue = true ∧ s.planner.passMark = false ∧
    s.mode ≠ .standby ∧ s.trackedPlan = some (anchor, plan3) ∧ s.planner.slot = none ∧ s.planner.revise = some revise :=
  ⟨{ passDue with planner := { passDue.planner with revise := some revise } }, by decide +kernel⟩
theorem witness_Revise_occupied : ∃ s : State, s.held = false ∧ s.planner.passDue = true ∧ s.planner.passMark = false ∧
    s.mode ≠ .standby ∧ s.trackedPlan = some (anchor, plan3) ∧ s.planner.slot = some slot :=
  ⟨{ commanded with planner := { commanded.planner with passDue := true } }, by decide +kernel⟩
theorem witness_PassSendsAtMostOneLead : passDue.held = false ∧ passDue.planner.passDue = true ∧
    passDue.planner.passMark = false ∧ passDue.mode = .run ∧ passDue.trackedPlan = some (anchor, plan3) ∧
    passDue.planner.slot = none ∧ passDue.planner.grant = none ∧ passDue.planner.revise = none := by decide +kernel

/-- A real grant of RUN; MONITOR with none, with a real and with a shadow grant. -/
theorem witness_PassSends_others :
    ∀ s ∈ [due (granted .running false), { passDue with mode := .monitor },
        { due (granted .running false) with mode := .monitor }, { due (granted .running true) with mode := .monitor }],
      s.held = false ∧ s.planner.passDue = true ∧ s.planner.passMark = false ∧ s.mode ≠ .standby ∧
        s.trackedPlan = some (anchor, plan3) ∧ s.planner.slot = none ∧ s.planner.revise = none ∧
        s.anchorGreen (grant .running true).phase = true := by decide +kernel

/-- Passes over a sound state: the slot occupied, and a revise pending. -/
theorem witness_PassClassifies : ∃ s r : State,
    (s.held = false ∧ s.planner.passDue = true ∧ s.planner.passMark = false ∧ s.trackedPlan = some (anchor, plan3) ∧
      s.RingSound ∧ (s.table.map Entry.bus).Nodup ∧ s.planner.slot.isSome = true) ∧
    (r.held = false ∧ r.planner.passDue = true ∧ r.trackedPlan = some (anchor, plan3) ∧ r.RingSound ∧
      (r.table.map Entry.bus).Nodup ∧ r.planner.slot = none ∧ r.planner.revise.isSome = true) := by
  refine ⟨due commanded, { passDue with planner := { passDue.planner with revise := some revise } }, ?_, ?_⟩
  · refine ⟨by decide, by decide, by decide, by decide +kernel, ⟨by decide, by decide, by decide, by decide, ?_, ?_, ?_, ?_⟩,
      by decide, by decide⟩ <;> intro x h <;> cases h <;> decide
  · refine ⟨by decide, by decide, by decide +kernel, ⟨by decide, by decide, by decide, by decide, ?_, ?_, ?_, ?_⟩,
      by decide, by decide, by decide⟩ <;> intro x h <;> cases h <;> decide

/-- A part in RUN or MONITOR with two buses asking for phase 2, whose windows end beyond the planned green. -/
def askers (m : Mode) : State :=
  { passDue with
    mode := m,
    table := [7, 8].map fun b => { entry b .waiting (some .limit) with distance := 220 + 10 * b } }

/-- Those buses as the pass evaluates them. -/
def evaluated (m : Mode) : List Entry := (askers m).table.map fun e => ((askers m).keepEvaluation e).placeAfterPass

/-- Both buses are candidates of one score, the first with the smaller window end; and with no bus there is none. -/
theorem witness_PassSends_chosen :
    (∀ m ∈ [Mode.run, .monitor], ∃ e f, evaluated m = [] ++ e :: [f] ∧
      (askers m).offers anchor plan3 (evaluated m) e .extend 104 ∧
      (askers m).offers anchor plan3 (evaluated m) f .advance 150 ∧ f.est.score = e.est.score ∧
      e.est.winEnd ≤ f.est.winEnd ∧ (askers m).trackedPlan = some (anchor, plan3) ∧
      ((askers m).table.map Entry.bus).Nodup) ∧
    ∀ e act n, ¬passDue.offers anchor plan3 [] e act n := by
  refine ⟨fun m hm => ?_, fun e act n h => by simpa using h.1⟩
  have : m = .run ∨ m = .monitor := by simpa using hm
  rcases this with rfl | rfl <;> exact ⟨_, _, rfl, by decide +kernel, by decide +kernel, by decide +kernel,
    by decide +kernel, by decide +kernel, by decide +kernel⟩

/-- Both amounts an acceptance may carry: ACCEPT, and a PARTIAL of 1. -/
theorem witness_LeadExtension : ∃ s r : State,
    (s.hears 0x21 (frameOf 0x21 0 [41, 0, 0, 0, 0]) [] ∧ frameBody (frameOf 0x21 0 [41, 0, 0, 0, 0]) = [41, 0, 0, 0, 0] ∧
      s.planner.slot = some slot ∧ s.findEntry 7 = some (entry 7 .commanded none) ∧ s.anchorGreen slot.phase = true) ∧
    (r.hears 0x21 (frameOf 0x21 0 [41, 1, 0, 1, 1]) [] ∧ frameBody (frameOf 0x21 0 [41, 1, 0, 1, 1]) = [41, 1, 0, 1, 1] ∧
      r.planner.slot = some slot ∧ r.findEntry 7 = some (entry 7 .commanded none) ∧ r.anchorGreen slot.phase = true) ∧
    slot.tag = (41 : Octet).toNat ∧ slot.action = .adjust .extend ∧ slot.role = .lead ∧ slot.bus = some 7 ∧
    (0 : Octet).toNat ≤ 1 ∧ (1 : Octet).toNat ≤ 1 ∧ 0 < (0 : Octet).toNat * 256 + (1 : Octet).toNat :=
  ⟨hearing (frameOf 0x21 0 [41, 0, 0, 0, 0]) commanded, hearing (frameOf 0x21 0 [41, 1, 0, 1, 1]) commanded,
    by decide +kernel⟩
theorem witness_CommandRefused : ∃ s r : State,
    (s.hears 0x21 (frameOf 0x21 0 [41, 2, 0, 0, 1]) [] ∧ frameBody (frameOf 0x21 0 [41, 2, 0, 0, 1]) = [41, 2, 0, 0, 1] ∧
      s.planner.slot = some slot ∧ s.findEntry 7 = some (entry 7 .commanded none)) ∧
    (r.hears 0x21 (frameOf 0x21 0 [41, 1, 0, 0, 0]) [] ∧ frameBody (frameOf 0x21 0 [41, 1, 0, 0, 0]) = [41, 1, 0, 0, 0] ∧
      r.planner.slot = some slot ∧ r.findEntry 7 = some (entry 7 .commanded none)) ∧
    slot.tag = (41 : Octet).toNat ∧ slot.action = .adjust .extend ∧ slot.bus = some 7 ∧
    (entry 7 .commanded none).state = .commanded ∧ (1 : Octet).toNat ≤ 1 :=
  ⟨hearing (frameOf 0x21 0 [41, 2, 0, 0, 1]) commanded, hearing (frameOf 0x21 0 [41, 1, 0, 0, 0]) commanded,
    by decide +kernel⟩
/-- The entry of the refused command has left. -/
theorem witness_CommandRefused_gone : ∃ s : State, s.hears 0x21 (frameOf 0x21 0 [41, 2, 0, 0, 1]) [] ∧
    s.planner.slot = some slot ∧ s.findEntry 7 = none :=
  ⟨answering [41, 2, 0, 0, 1] { commanded with table := [] }, by decide +kernel⟩

/-- R82: the taking of the last token latches TOKENS_EXHAUSTED, by an accepted lead; that of the last but one does not. -/
theorem test_tokensExhausted : ([1, 2].map fun n =>
    afterwards .commandAnswer
      (answering [41, 0, 0, 0, 0] { commanded with planner := { commanded.planner with tokens := ⟨n, 3, 3, 3⟩ } })
      fun t => t.notices.latches.tokensExhausted.a) = [some (some { detail := 0, time := 5 }), some none] := by
  decide +kernel

/-- Accepted leads: an extension in its green with its entry there and gone, an advance with a cycle length, an extension
whose green is not shown, and an advance without a cycle length. -/
theorem witness_Acceptances_lead :
    (∀ s ∈ [commanded, { commanded with table := [] }, inSlot { slot with action := .adjust .advance },
        inSlot { slot with phase := 3 },
        { inSlot { slot with action := .adjust .advance } with model := { state := .noStatus, anchor := none } }],
      (answering [41, 0, 0, 0, 0] s).hears 0x21 (frameOf 0x21 0 [41, 0, 0, 0, 0]) [] ∧
        (s.table.map Entry.bus).Nodup ∧ s.planner.slot.map (fun c => (c.tag, c.role, c.bus)) = some (41, .lead, some 7)) ∧
    frameBody (frameOf 0x21 0 [41, 0, 0, 0, 0]) = [41, 0, 0, 0, 0] ∧
    commanded.anchorGreen slot.phase = true ∧ commanded.cycleLength.isSome = true ∧ commanded.anchorGreen 3 = false ∧
    ({ commanded with model := { state := .noStatus, anchor := none } } : State).cycleLength = none := by decide +kernel

/-- A follower command for bus 7 under the grant of bus 8, the grant there and closed. -/
theorem witness_Acceptances_follower : ∃ (c : Slot) (s r : State),
    (c.tag = (41 : Octet).toNat ∧ c.action = .adjust .extend ∧ c.bus = some 7 ∧ c.role = .follower) ∧
    (s.hears 0x21 (frameOf 0x21 0 [41, 1, 0, 1, 0]) [] ∧ s.planner.slot = some c ∧ (s.table.map Entry.bus).Nodup ∧
      s.planner.grant.map (fun g => g.id) = some c.grantId ∧ s.findEntry 7 = some (entry 7 .commanded none)) ∧
    (r.hears 0x21 (frameOf 0x21 0 [41, 1, 0, 1, 0]) [] ∧ r.planner.slot = some c ∧ (r.table.map Entry.bus).Nodup ∧
      r.planner.grant = none ∧ r.findEntry 7 = some (entry 7 .commanded none)) ∧
    0 < (0 : Octet).toNat * 256 + (1 : Octet).toNat :=
  ⟨{ slot with role := .follower, grantId := 41 },
    answering [41, 1, 0, 1, 0]
      { inSlot { slot with role := .follower, grantId := 41 } with
        table := [entry 8 .granted none, entry 7 .commanded none],
        planner := { (inSlot { slot with role := .follower, grantId := 41 }).planner with
          grant := some { grant .running false with members := [8] } } },
    answering [41, 1, 0, 1, 0] (inSlot { slot with role := .follower, grantId := 41 }), by decide +kernel⟩

/-- A REVISE in the slot, to 0 and to 1, under no grant, a RUNNING and an ARMED one. -/
theorem witness_Acceptances_revise : ∃ z o : Slot,
    (z.action = .revise ∧ z.amount = 0 ∧ z.tag = (41 : Octet).toNat ∧ o.action = .revise ∧ o.amount = 1 ∧
      o.tag = (41 : Octet).toNat) ∧
    (∀ c ∈ [z, o], ∀ g ∈ [none, some (grant .running false), some (grant .armed false)],
      (answering [41, 0, 0, 0, 0]
          { running with planner := { running.planner with slot := some c, grant := g } }).hears 0x21
        (frameOf 0x21 0 [41, 0, 0, 0, 0]) []) ∧
    (grant .running false).id = z.grantId ∧ (grant .armed false).id = o.grantId ∧ (2 : Octet).toNat ≤ 2 :=
  ⟨{ slot with action := .revise, amount := 0, bus := none }, { slot with action := .revise, amount := 1, bus := none },
    by decide +kernel⟩

/-- The part with the lost tag 41 of bus 7, which waits. -/
def forgotten (m : LostTag) : State :=
  { running with table := [entry 7 .waiting (some .limit)], planner := { running.planner with lost := some m } }

/-- A late acceptance of a lead that meets every condition, in its green and not, and one that does not (MONITOR). -/
theorem witness_LateAnswer_lead :
    (∀ s ∈ [forgotten lost, forgotten { lost with phase := 3 }, { forgotten lost with mode := .monitor }],
      (answering [41, 0, 0, 0, 0] s).hears 0x21 (frameOf 0x21 0 [41, 0, 0, 0, 0]) [] ∧ s.planner.slot = none ∧
        s.planner.lost.map (fun m => (m.tag, m.role)) = some ((41 : Octet).toNat, .lead) ∧
        (s.table.map Entry.bus).Nodup) ∧
    (∀ s ∈ [forgotten lost, forgotten { lost with phase := 3 }],
      s.mode = .run ∧ s.planner.grant = none ∧ s.planner.ledger.leads < s.planner.ledger.grantLimit ∧
        lost.requested ≤ s.planner.ledger.timeLimit - s.planner.ledger.committed ∧
        (s.table.any fun e => e.bus == 7 && e.state == .waiting) = true) ∧
    (forgotten lost).anchorGreen lost.phase = true ∧ (forgotten lost).anchorGreen 3 = false ∧
    ({ forgotten lost with mode := .monitor } : State).mode ≠ .run := by decide +kernel

/-- A late acceptance of a follower whose grant runs, at the last amount its phase allows; and a late refusal. -/
theorem witness_LateAnswer_follower : ∃ (m : LostTag) (s : State),
    s.hears 0x21 (frameOf 0x21 0 [41, 0, 0, 0, 0]) [] ∧ s.planner.slot = none ∧ s.planner.lost = some m ∧
      m.tag = (41 : Octet).toNat ∧ m.role = .follower ∧ s.mode = .run ∧
      s.planner.grant = some { grant .running false with members := [8] } ∧ (grant .running false).id = m.grantId ∧
      (grant .running false).total + m.requested = (s.config.phase 2).maxExtend ∧
      m.requested ≤ s.planner.ledger.timeLimit - s.planner.ledger.committed ∧
      (s.table.any fun e => e.bus == m.bus && e.state == .waiting) = true ∧
      (answering [41, 2, 0, 0, 0] s).hears 0x21 (frameOf 0x21 0 [41, 2, 0, 0, 0]) [] :=
  ⟨{ lost with role := .follower, requested := 60 },
    answering [41, 0, 0, 0, 0]
      { forgotten { lost with role := .follower, requested := 60 } with
        table := [entry 8 .granted none, entry 7 .waiting (some .limit)],
        planner := { (forgotten { lost with role := .follower, requested := 60 }).planner with
          grant := some { grant .running false with members := [8] } } }, by decide +kernel⟩
theorem witness_AnswerTimeout : ∃ s r : State,
    (s.held = false ∧ s.planner.slot = some slot ∧ slot.due = some 5 ∧ (s.now - 5).toNat < 2147483648 ∧
      slot.action = .adjust .extend) ∧
    (r.held = false ∧ r.planner.slot = some { slot with action := .revise, bus := none } ∧
      (r.now - 5).toNat < 2147483648) :=
  ⟨commanded, { running with planner := { running.planner with slot := some { slot with action := .revise, bus := none } } },
    by decide⟩
theorem witness_ArmLimit : (granted .armed false).held = false ∧
    (granted .armed false).planner.grant = some (grant .armed false) ∧ (grant .armed false).state = .armed ∧
    (grant .armed false).armLimit = some 5 ∧ ((granted .armed false).now - 5).toNat < 2147483648 := by decide

/-- The part whose table holds bus 7. -/
def known (st : EntryState) : State := { running with table := [entry 7 st (if st = .waiting then some .limit else none)] }

theorem witness_KnownBusTelegramDiscarded : ∃ s r q : State,
    (s.serves (telegram .position 7 14) ∧ s.findEntry 7 = some (entry 7 .waiting (some .limit)) ∧
      (14 + 16 - (14 : Nat) % 16) % 16 = 0) ∧
    (r.serves (telegram .position 7 6) ∧ r.findEntry 7 = some (entry 7 .waiting (some .limit)) ∧
      8 ≤ (6 + 16 - (14 : Nat) % 16) % 16) ∧
    (q.serves { telegram .position 7 15 with approach := .b } ∧
      q.findEntry 7 = some (entry 7 .waiting (some .limit)) ∧ Approach.b ≠ (entry 7 .waiting (some .limit)).approach) :=
  ⟨serving (telegram .position 7 14) (known .waiting), serving (telegram .position 7 6) (known .waiting),
    serving { telegram .position 7 15 with approach := .b } (known .waiting), by decide +kernel⟩
/-- The newest and the oldest sequence that are newer than 14. -/
theorem witness_ReportUpdates : ∃ s r : State,
    (s.serves (telegram .position 7 15) ∧ s.findEntry 7 = some (entry 7 .waiting (some .limit)) ∧
      1 ≤ (15 + 16 - (14 : Nat) % 16) % 16) ∧
    (r.serves (telegram .checkIn 7 5) ∧ r.findEntry 7 = some (entry 7 .waiting (some .limit)) ∧
      (5 + 16 - (14 : Nat) % 16) % 16 ≤ 7) :=
  ⟨serving (telegram .position 7 15) (known .waiting), serving (telegram .checkIn 7 5) (known .waiting),
    by decide +kernel⟩
/-- A table of 32 entries of distinct buses, the first of them in a state given. -/
def crowd (first : Entry) : List Entry := first :: (List.range 31).map fun i => entry (100 + i) .waiting (some .limit)

/-- The last place of the table; the tenth at which the quiet time of a cached bus ends. -/
theorem witness_ReportAdmits : ∃ s r : State,
    (s.serves (telegram .checkIn 9 0) ∧ s.findEntry 9 = none ∧ s.findCached 9 = none ∧ s.table.length = 31) ∧
    (r.serves (telegram .position 9 0) ∧ r.findEntry 9 = none ∧
      r.findCached 9 = some { bus := 9, approach := .a, time := 0 } ∧
      10 * r.config.general.quietTime = (r.now - 0).toNat ∧ r.table.length < 32) :=
  ⟨serving (telegram .checkIn 9 0) { running with table := (crowd (entry 7 .far none)).tail },
    serving (telegram .position 9 0)
      { running with now := 900, cache := [{ bus := 9, approach := .a, time := 0 }] }, by decide +kernel⟩
/-- The evaluation of an entry, with its eligibility kept. -/
def revalued (s : State) (e : Entry) : Entry :=
  { e with est := evaluate s.config.general (s.config.approaches.get e.approach) (s.config.classes.get e.cls)
                    (s.linkAligned e.approach) s.now e.est.eligibility e }

/-- A full table with one entry that may be the victim: one in NEW, of the greatest value, and one in FAR whose estimate
comes to the newcomer's. -/
theorem witness_ReportEvicts : ∃ s r : State, ∃ v w : Estimate,
    (s.serves (telegram .checkIn 9 0) ∧ s.findEntry 9 = none ∧ s.findCached 9 = none ∧
      s.table = [] ++ entry 7 .new none :: s.table.tail ∧ s.table.length = 32 ∧
      (∀ e ∈ s.table.tail, ¬(e.state = .new ∨ e.state = .far ∨ e.state = .watch)) ∧
      s.estimates .neutral (s.newEntry (telegram .checkIn 9 0)) v ∧ v.eta < 2551) ∧
    (r.serves (telegram .checkIn 9 0) ∧ r.findEntry 9 = none ∧ r.findCached 9 = none ∧ r.table.length = 32 ∧
      (∀ e ∈ r.table.tail, ¬(e.state = .new ∨ e.state = .far ∨ e.state = .watch)) ∧
      r.table = { entry 7 .far none with distance := 289, ring := [110] } :: r.table.tail ∧
      r.estimates .neutral (r.newEntry (telegram .checkIn 9 0)) v ∧
      r.estimates .eligible { entry 7 .far none with distance := 289, ring := [110] } w ∧ w.eta = v.eta) := by
  refine ⟨serving (telegram .checkIn 9 0) { running with table := crowd (entry 7 .new none) },
    serving (telegram .checkIn 9 0)
      { running with table := crowd { entry 7 .far none with distance := 289, ring := [110] } },
    (revalued running (running.newEntry (telegram .checkIn 9 0))).est,
    (revalued running { entry 7 .far none with distance := 289, ring := [110] }).est,
    ⟨?_, ?_, ?_, ?_, ?_, ?_, ?_, ?_⟩, ?_, ?_, ?_, ?_, ?_, ?_, ?_, ?_, ?_⟩ <;> decide +kernel
theorem witness_KnownBusLeaves :
    (serving (telegram .checkOut 7 15) (known .spent)).serves (telegram .checkOut 7 15) ∧
      (serving (telegram .withdraw 7 5) (known .granted)).serves (telegram .withdraw 7 5) ∧
      (known .spent).findEntry 7 = some (entry 7 .spent none) := by decide +kernel
/-- GRANTED departures: the last member of a real and of a shadow grant in its green, and one of two members of each. -/
theorem witness_KnownBusLeaves_granted :
    ∀ sh ∈ [false, true],
      ((serving (telegram .withdraw 7 15) (granted .running sh)).serves (telegram .withdraw 7 15) ∧
        (granted .running sh).findEntry 7 = some (entry 7 .granted none) ∧
        (granted .running sh).planner.grant = some (grant .running sh) ∧
        ((grant .running sh).members.filter fun b => b != 7) = [] ∧ 0 < (grant .running sh).total ∧
        (granted .running sh).trackedPlan = some (anchor, plan3) ∧
        anchor.elapsedAt (granted .running sh).now < (granted .running sh).config.plannedGreen plan3 2) ∧
      ([7, 8].filter fun b : Nat => b != 7) ≠ [] := by decide +kernel
/-- A CHECK_OUT of an entry with a command time, at the clamp of the arrival error, and of one without; a cache of 16
whose second and third entries are the oldest. -/
theorem witness_KnownBusLeaves_checkOut : ∃ (e : Entry) (s : State) (front back : List CacheEntry) (old : CacheEntry),
    (s.serves (telegram .checkOut 7 15) ∧ s.findEntry 7 = some e ∧ e.commandTime = some 0 ∧
      ((s.now - 0).toNat : Int) - (e.etaAtCommand.getD 0 : Nat) = 1271) ∧
    s.cache = front ++ old :: back ∧ s.cache.length = 16 ∧ (s.cache.map CacheEntry.bus).Nodup ∧
      (∀ c ∈ s.cache, c.bus ≠ 7) ∧ (∀ c ∈ front, (s.now - c.time).toNat < (s.now - old.time).toNat) ∧
      (∀ c ∈ back, (s.now - c.time).toNat ≤ (s.now - old.time).toNat) ∧ old.bus = 101 ∧
      (entry 7 .waiting none).commandTime = none :=
  ⟨{ entry 7 .spent none with commandTime := some 0, etaAtCommand := some 29 },
    serving (telegram .checkOut 7 15)
      { running with
        now := 1300, table := [{ entry 7 .spent none with commandTime := some 0, etaAtCommand := some 29 }],
        cache := (List.range 16).map fun i =>
          { bus := 100 + i, approach := .a, time := if i = 1 ∨ i = 2 then 0 else 1 } },
    [{ bus := 100, approach := .a, time := 1 }],
    (List.range 14).map fun i => { bus := 102 + i, approach := .a, time := if i = 0 then 0 else 1 },
    { bus := 101, approach := .a, time := 0 }, by decide +kernel⟩
/-- The buffer with one place left and with none, at either mode. -/
theorem witness_OutcomeBuffer : ∃ (r : OutcomeRecord) (s : Nat → OutcomeMode → State),
    (∀ n ∈ [63, 64], ∀ m ∈ [OutcomeMode.wrap, .stop],
      (s n m).serves (telegram .withdraw 7 15) ∧ (s n m).findEntry 7 = some (entry 7 .waiting (some .limit)) ∧
        (s n m).outcomes.records.length = n ∧ (s n m).config.general.outcomeMode = m) ∧
    r.bus = 7 :=
  ⟨outcomeRecord (entry 7 .waiting (some .limit)) .withdrawn 0 false,
    fun n m => serving (telegram .withdraw 7 15) { known .waiting with
      outcomes := { records := List.replicate n (outcomeRecord (entry 7 .waiting (some .limit)) .withdrawn 0 false),
                    lost := 0 },
      config := { config with general := { config.general with outcomeMode := m } } }, by decide +kernel⟩
/-- One tenth before the quiet time ends. -/
theorem witness_UnknownBusNotAdmitted_quiet : ∃ s : State, s.serves (telegram .checkIn 9 0) ∧ s.findEntry 9 = none ∧
    s.findCached 9 = some { bus := 9, approach := .a, time := 0 } ∧ (s.now - 0).toNat < 10 * s.config.general.quietTime :=
  ⟨serving (telegram .checkIn 9 0) { known .waiting with
    now := 899, cache := [{ bus := 9, approach := .a, time := 0 }] }, by decide +kernel⟩
theorem witness_UnknownBusNotAdmitted_full : ∃ s : State, s.serves (telegram .checkIn 9 0) ∧ s.findEntry 9 = none ∧
    s.findCached 9 = none ∧ 32 ≤ s.table.length ∧ (∀ e ∈ s.table, e.state ≠ .new ∧ e.state ≠ .far ∧ e.state ≠ .watch) :=
  ⟨serving (telegram .checkIn 9 0) { running with table := List.replicate 32 (entry 7 .spent none) }, by decide +kernel⟩
theorem witness_UnknownBusNotAdmitted_exits : (serving (telegram .withdraw 9 0) running).serves (telegram .withdraw 9 0) ∧
    (serving (telegram .checkOut 9 0) running).serves (telegram .checkOut 9 0) ∧ running.findEntry 9 = none := by
  decide +kernel
/-- The tenth at which 15 s have passed since the last telegram. -/
theorem witness_EntriesExpire : ∃ s : State, s.held = false ∧ s.findEntry 7 = some (entry 7 .waiting (some .limit)) ∧
    (s.now - ((entry 7 .waiting (some .limit)).tLast +
      BitVec.ofNat 32 (10 * (s.config.approaches.get .a).tExpire))).toNat < 2147483648 :=
  ⟨{ known .waiting with now := 155 }, by decide +kernel⟩

theorem witness_ReadConfig : (asked 2 [2, 3] running).takes (message 2 [2, 3]) [] ∧ sectionOf 2 = some .approach ∧
    (sectionData running.config .approach 3).isSome = true ∧ sectionOf 8 = none ∧
    sectionData running.config .cls 4 = none := by decide +kernel
theorem witness_ReadStatus : (asked 4 [] running).takes (message 4 []) [] ∧ (message 4 []).kind = 4 ∧ (message 4 []).body = [] := by
  decide
/-- Start index and count at the ends of their ranges, and just outside. -/
theorem witness_ListRequests : (asked 5 [31, 16] running).takes (message 5 [31, 16]) [] ∧ (31 : Octet).toNat ≤ 31 ∧
    1 ≤ (1 : Octet).toNat ∧ (16 : Octet).toNat ≤ 16 ∧ 31 < (32 : Octet).toNat ∧ (0 : Octet).toNat = 0 ∧
    16 < (17 : Octet).toNat := by decide
theorem witness_ReadRequest : (asked 6 [0, 7] (known .waiting)).takes (message 6 [0, 7]) [] ∧
    (known .waiting).findEntry ((0 : Octet).toNat * 256 + (7 : Octet).toNat) = some (entry 7 .waiting (some .limit)) ∧
    (255 : Octet).toNat * 256 + (255 : Octet).toNat = 65535 ∧ running.findEntry 7 = none ∧ running.findCached 7 = none ∧
    ({ running with cache := [{ bus := 7, approach := .a, time := 0 }] } : State).findCached 7 =
      some { bus := 7, approach := .a, time := 0 } := by decide +kernel
theorem witness_ReadSummary : (asked 11 [] running).takes (message 11 []) [] ∧ (message 11 []).kind = 11 := by decide
theorem witness_CancelRequest : (asked 7 [0, 7] (known .granted)).takes (message 7 [0, 7]) [] ∧ (message 7 [0, 7]).kind = 7 ∧
    (known .granted).findEntry 7 = some (entry 7 .granted none) ∧ (0 : Octet).toNat * 256 + (7 : Octet).toNat = 7 := by
  decide +kernel
theorem witness_ReadOutcomes : (asked 8 [8] running).takes (message 8 [8]) [] ∧ 1 ≤ (1 : Octet).toNat ∧ (8 : Octet).toNat ≤ 8 ∧
    8 < (9 : Octet).toNat := by decide
theorem witness_ProgramCounter : (asked 9 [7, 17, 1, 255, 31] running).takes (message 9 [7, 17, 1, 255, 31]) [] ∧
    running.stats.counters.length = 8 ∧ (7 : Octet).toNat ≤ 7 ∧ (17 : Octet).toNat ≤ 17 ∧ 7 < (8 : Octet).toNat ∧
    17 < (18 : Octet).toNat := by decide
theorem witness_ReadCounters : (asked 10 [1] running).takes (message 10 [1]) [] ∧ (asked 10 [0] running).takes (message 10 [0]) [] ∧
    (asked 10 [2] running).takes (message 10 [2]) [] ∧ 1 < (2 : Octet).toNat := by decide
theorem witness_SetNoticeMask : (asked 12 (List.replicate 23 1) running).takes (message 12 (List.replicate 23 1)) [] ∧
    (message 12 (List.replicate 23 1)).body.length = 23 ∧ (∀ o ∈ List.replicate 23 (1 : Octet), o.toNat ≤ 1) ∧
    (∃ o ∈ List.replicate 23 (2 : Octet), 1 < o.toNat) := by decide +kernel
theorem witness_ClearNotices : (asked 13 [2, 0, 22] running).takes (message 13 [2, 0, 22]) [] ∧
    ([0, 22] : List Octet).length = (2 : Octet).toNat ∧ (∀ o ∈ ([0, 22] : List Octet), o.toNat < 23) ∧
    (∃ o ∈ ([23] : List Octet), 23 ≤ o.toNat) ∧ ([] : List Octet).length = (0 : Octet).toNat ∧
    23 < (List.replicate 24 (0 : Octet)).length := by decide +kernel
theorem witness_ClearNotices_length : (asked 13 [] running).takes (message 13 []) [] ∧
    (asked 13 [2, 0] running).takes (message 13 [2, 0]) [] ∧ ([0] : List Octet).length ≠ (2 : Octet).toNat := by decide
theorem witness_LinkControl : (asked 14 [3, 2, 1, 1] running).takes (message 14 [3, 2, 1, 1]) [] ∧
    Approach.index .d = (3 : Octet).toNat ∧ (2 : Octet).toNat ≤ 2 ∧ (1 : Octet).toNat ≤ 1 ∧
    (running.ports.get .d).framer ≠ .disabled ∧ (Port.atReset false).framer = .disabled ∧ 3 < (4 : Octet).toNat := by decide

/-- A slot that carries a POSITION of bus 7. -/
def slotOctets : List Octet := [2, 0, 7, 0, 0, 5, 0, 100, 90, 0, 0, 0, 0, 0, 0]

/-- The part with its cabinet queue full. -/
def full : State :=
  { running with intake := { running.intake with queues := { running.intake.queues with
      cabinet := List.replicate 8 (telegram .position 7 1) } } }

theorem witness_InjectTelegram : (asked 15 (3 :: slotOctets) running).takes (message 15 (3 :: slotOctets)) [] ∧
    slotOctets.length = 15 ∧ Approach.index .d = (3 : Octet).toNat ∧
    (match readSlot .cabinet .d slotOctets with | .telegram t => t.bus == 7 | .empty => false | .malformed => false) = true ∧
    readSlot .cabinet .d (0 :: slotOctets.tail) = .empty ∧ readSlot .cabinet .d (9 :: slotOctets.tail) = .malformed ∧
    3 < (4 : Octet).toNat := by decide +kernel
/-- A slot of fifteen octets with the last kind code and just above it, with the ends of the bus ids and just beyond, and
with the fourth movement code of a POSITION. -/
theorem witness_InjectTelegram_slot : slotOctets.length = 15 ∧ (4 : Octet) ≠ 0 ∧ ¬4 < (4 : Octet).toNat ∧
    4 < (5 : Octet).toNat ∧ (0 : Octet).toNat * 256 + (0 : Octet).toNat = 0 ∧
    (255 : Octet).toNat * 256 + (255 : Octet).toNat = 65535 ∧ (255 : Octet).toNat * 256 + (254 : Octet).toNat ≠ 65535 ∧
    (2 : Octet).toNat ≤ 2 ∧ (0x0C : Octet).getLsbD 3 = true ∧ (0x0C : Octet).getLsbD 2 = true := by decide
theorem witness_InjectTelegram_modes : ∃ s r q : State,
    (s.takes (message 15 (3 :: slotOctets)) [] ∧ s.mode = .standby) ∧
    (r.takes (message 15 (3 :: slotOctets)) [] ∧ r.mode ≠ .standby ∧ r.intake.queues.cabinet.length < 8) ∧
    (q.takes (message 15 (3 :: slotOctets)) [] ∧ q.mode ≠ .standby ∧ 8 ≤ q.intake.queues.cabinet.length) :=
  ⟨asked 15 (3 :: slotOctets) { State.reset with link := Link.atReset }, asked 15 (3 :: slotOctets) running,
    asked 15 (3 :: slotOctets) full, by decide +kernel⟩

theorem witness_ConfigureGeneral :
    clampFields generalRanges General.factory.fields = General.factory.fields ∧
      (asked 1 (1 :: 1 :: 0 :: writeFields generalWidths General.factory.fields) running).takes
        (message 1 (1 :: 1 :: 0 :: writeFields generalWidths General.factory.fields)) [] := by decide +kernel
/-- GENERAL data whose values are all out of range, and the outcome mode at the end of its set. -/
theorem witness_ConfigureGeneral_clamped :
    (List.replicate 17 (0 : Octet) ++ [1, 0]).length = 19 ∧
      (bodyOctet (List.replicate 17 (0 : Octet) ++ [1, 0]) 17).toNat ≤ 1 := by decide +kernel
/-- An APPROACH section with the enabled setting as given, at every framer state of the port. -/
theorem witness_ConfigureApproach : ∃ on off : ApproachConfig,
    (on.enabled = true ∧ off.enabled = false ∧ ∀ a ∈ [on, off], clampApproach a.fields = a.fields ∧ a.depth = 2) ∧
    ∀ a ∈ [on, off], ∀ st ∈ [FramerState.disabled, .hunt, .confirm, .aligned],
      (asked 1 (1 :: 2 :: 0 :: writeFields approachWidths a.fields) (aligned { port with framer := st })).takes
        (message 1 (1 :: 2 :: 0 :: writeFields approachWidths a.fields)) [] ∧ Approach.index .a = 0 :=
  ⟨{ running.config.approaches.a with enabled := true, depth := 2 },
    { running.config.approaches.a with enabled := false, depth := 2 }, by decide +kernel⟩
/-- Sections CLASS at the last class, ROUTE_MAP empty and at the ends of its ranges, MOVEMENT_MAP at the last phase. -/
theorem witness_ConfigureMaps :
    clampFields classRanges running.config.classes.c3.fields = running.config.classes.c3.fields ∧ 3 ≤ 3 ∧
    (∀ e ∈ [(⟨1, 0⟩ : RouteEntry), ⟨999, 3⟩], 1 ≤ e.route ∧ e.route ≤ 999 ∧ e.cls ≤ 3) ∧
    ([(⟨1, 0⟩ : RouteEntry), ⟨999, 3⟩].map RouteEntry.route).Nodup ∧ ([] : List RouteEntry).length ≤ 64 ∧
    State.reset.mode = .standby ∧ (∀ n ∈ mapPhases (.all ⟨4, 1, 0⟩), n ≤ State.reset.config.phases.length) ∧
    (asked 1 [1, 4, 0, 2, 0, 1, 0, 3, 231, 3] running).takes (message 1 [1, 4, 0, 2, 0, 1, 0, 3, 231, 3]) [] ∧
    ([1, 4, 0, 2, 0, 1, 0, 3, 231, 3] : List Octet) =
      1 :: 4 :: 0 :: octet 2 :: [(⟨1, 0⟩ : RouteEntry), ⟨999, 3⟩].flatMap
        (fun e => writeFields routeWidths [e.route, e.cls]) := by decide +kernel
/-- A PHASE_TABLE of two and of eight records, and a PLAN_TABLE of one plan, in STANDBY with nothing granted. -/
theorem witness_ConfigureTables :
    (∀ l ∈ [List.replicate 2 phaseRecord, List.replicate 8 phaseRecord],
      2 ≤ l.length ∧ l.length ≤ 8 ∧ (∀ r ∈ l, clampFields phaseRanges (r.fields 1) = r.fields 1) ∧
        (∀ n ∈ mapPhases (.all ⟨2, 1, 0⟩), n ≤ l.length)) ∧
    (plan3.splits.length = 8 ∧ clampFields planRanges plan3.fields = plan3.fields) ∧
    (asked 1 (1 :: 6 :: 0 :: octet 1 :: writeFields planWidths plan3.fields) { running with mode := .standby }).takes
      (message 1 (1 :: 6 :: 0 :: octet 1 :: writeFields planWidths plan3.fields)) [] ∧
    running.planner.grant = none := by decide +kernel
/-- A wrong length, a plan table outside STANDBY, a count of items at each end of its range and beyond, and an item with an
error of its own. -/
theorem witness_ConfigureRefused : ∃ s r q : State,
    (s.takes (message 1 [1, 1, 0]) [] ∧ walkItems 1 ([1, 0] : List Octet) = none) ∧
    (r.takes (message 1 [1, 6, 0, 0]) [] ∧ r.mode ≠ .standby ∧
      (walkItems 1 ([6, 0, 0] : List Octet)).any (fun w => w.items.any fun it => it.name == .planTable) = true) ∧
    (q.takes (message 1 [0]) [] ∧ walkItems 0 ([] : List Octet) = some { items := [], unknown := false } ∧
      Items.faulty q.config 0 { items := [], unknown := false } ∧
      Items.faulty q.config 8 { items := [], unknown := false } ∧
      ¬Items.faulty q.config 7 { items := [], unknown := false }) ∧
    walkItems 1 ([4, 0, 1, 3, 232, 0] : List Octet) =
      some { items := [{ name := .routeMap, place := 0, data := [1, 3, 232, 0] }], unknown := false } ∧
    Items.faulty q.config 1
      { items := [{ name := .routeMap, place := 0, data := [1, 3, 232, 0] }], unknown := false } ∧
    ¬Items.faulty q.config 1
      { items := [{ name := .routeMap, place := 0, data := [1, 3, 231, 0] }], unknown := false } :=
  ⟨asked 1 [1, 1, 0] running, asked 1 [1, 6, 0, 0] running, asked 1 [0] running, by decide +kernel, by decide +kernel,
    ⟨by decide +kernel, by decide +kernel, by decide +kernel, by decide +kernel, by decide +kernel⟩, by decide +kernel,
    by decide +kernel, by decide +kernel⟩
theorem witness_SetModeStandby : (asked 3 [0, 1] commanded).takes (message 3 [0, 1]) [] ∧ (1 : Octet).toNat ≤ 1 ∧
    commanded.mode ≠ .standby ∧ commanded.workInFlight = true ∧ running.workInFlight = false ∧
    commanded.outcomes.records.length + commanded.table.length ≤ 64 := by decide
/-- A change to STANDBY with telegrams queued, a command whose frame waits, and a buffer with no place, at either mode. -/
theorem witness_SetModeStandby_full : ∃ s : OutcomeMode → State, ∀ m ∈ [OutcomeMode.wrap, .stop],
    (s m).takes (message 3 [0, 1]) [] ∧ (s m).mode ≠ .standby ∧ (s m).outcomes.records.length = 64 ∧
      (s m).table ≠ [] ∧ (s m).intake.queues.cabinet ≠ [] ∧ (s m).planner.slot = some slot ∧
      (s m).config.general.outcomeMode = m :=
  ⟨fun m => asked 3 [0, 1] (serving (telegram .position 9 1) { commanded with
    outcomes := { records := List.replicate 64 (outcomeRecord (entry 7 .waiting none) .withdrawn 0 false), lost := 0 },
    config := { config with general := { config.general with outcomeMode := m } } }), by decide +kernel⟩
theorem witness_SetModeRun : (asked 3 [2, 0] running).takes (message 3 [2, 0]) [] ∧ (asked 3 [1, 0] running).takes (message 3 [1, 0]) [] ∧
    running.mode = .run ∧ State.reset.mode = .standby ∧ State.reset.config.plans = [] ∧
    (running.config.plans ≠ [] ∧ (running.config.plans.map Plan.id).Nodup ∧
      ∀ p ∈ running.config.plans,
        (∀ i ≤ running.config.phases.length, 1 ≤ i →
          (running.config.phase i).yellow + (running.config.phase i).redClear + (running.config.phase i).minGreen ≤
            p.split i) ∧
        ((List.range running.config.phases.length).map fun i => p.split (i + 1)).sum = p.cycle) := by decide +kernel
theorem witness_SetModeRun_shadow : ∃ s r : State,
    (s.takes (message 3 [2, 0]) [] ∧ s.mode = .monitor ∧ s.planner.grant = some (grant .running true) ∧
      (grant .running true).shadow = true) ∧
    (r.takes (message 3 [2, 0]) [] ∧ r.mode = .monitor ∧ r.planner.grant = some (grant .running false) ∧
      (grant .running false).shadow = false) :=
  ⟨asked 3 [2, 0] { granted .running true with mode := .monitor },
    asked 3 [2, 0] { granted .running false with mode := .monitor }, by decide⟩
theorem witness_SetModeRun_standby : ∃ s r : State,
    (s.takes (message 3 [1, 0]) [] ∧ s.mode = .standby ∧ s.config.plans = []) ∧
    (r.takes (message 3 [2, 1]) [] ∧ r.mode = .standby ∧ r.config.plans = running.config.plans ∧
      r.config.phases = running.config.phases ∧ r.planner.grant = none) :=
  ⟨asked 3 [1, 0] { State.reset with link := Link.atReset },
    asked 3 [2, 1] { running with mode := .standby }, by decide +kernel⟩
theorem witness_Restart : (asked 16 [0] running).takes (message 16 [0]) [] ∧ (asked 16 [1] running).takes (message 16 [1]) [] ∧
    1 < (2 : Octet).toNat := by decide
theorem witness_ResetTakesEffect : ∃ m : OutMessage, m.final = true ∧ m.kind = .reply ∧ (restarting .restart).held = false ∧
    (restarting .restart).link.outbound = [m] ∧ (restarting .restart).link.restart = some .restart ∧
    (restarting .factory).held = false ∧ (restarting .factory).link.outbound = [m] ∧
    (restarting .factory).link.restart = some .factory :=
  ⟨{ kind := .reply, tag := 9, body := [16, 0], final := true }, by decide⟩
/-- The first instant at which the feed is made. -/
theorem witness_OccupancyFeed : ∃ s : State, s.held = false ∧ s.now ≠ 0 ∧ s.now.toNat % 10 = 0 ∧ s.occupancyFed = false ∧
    ∀ c ∈ s.stats.counters, c.value ≤ 4294967295 := ⟨{ running with now := 10 }, by decide +kernel⟩

theorem witness_Hunt : running.held = false ∧ (running.ports.get .a).framer = .hunt ∧
    (1 : Nat) + 16 ≤ (true :: frameBits 2).length ∧ octetOfBits ((true :: frameBits 2).drop 1) = 0x6C ∧
    (∀ j, j < 1 → octetOfBits ((true :: frameBits 2).drop j) ≠ 0x6C) := by decide +kernel

/-- A marker with all but one of the bits of its control octet, a marker at the very end, and bits that hold none. -/
theorem witness_Hunt_none : ∃ l m n : Bits,
    (0 + 8 ≤ l.length ∧ l.length + 1 = 0 + 16 ∧ octetOfBits (l.drop 0) = 0x6C) ∧
    (1 + 8 = m.length ∧ octetOfBits (m.drop 1) = 0x6C ∧ (∀ j, j < 1 → octetOfBits (m.drop j) ≠ 0x6C)) ∧
    (n.length = 7 ∧ ∀ j, j + 8 ≤ n.length → octetOfBits (n.drop j) ≠ 0x6C) :=
  ⟨(frameBits 2).take 15, false :: (frameBits 2).take 8, (frameBits 2).take 7, by decide +kernel, by decide +kernel,
    by decide +kernel, fun j h => absurd h (by
      have : ((frameBits 2).take 7).length = 7 := by decide +kernel
      omega)⟩

/-- Four frames of rising position. -/
def fourFrames : Bits := frameBits 2 ++ frameBits 3 ++ frameBits 4 ++ frameBits 5

/-- The third test, with its slot complete; the bits of one test and no more; a test that fails. -/
theorem witness_ConfirmTest : ∃ s r q : State,
    (s.held = false ∧ (s.ports.get .a).framer = .confirm ∧ (s.ports.get .a).passed = 2 ∧
      (s.ports.get .a).bits ++ [] = fourFrames ∧ 264 * (2 + 1) + 16 ≤ fourFrames.length ∧ 1056 ≤ fourFrames.length ∧
      octetOfBits (fourFrames.drop 792) = 0x6C ∧
      controlPos (octetOfBits ((fourFrames.drop 792).drop 8)) =
        (controlPos (octetOfBits ((fourFrames.drop 528).drop 8)) + 1) % 16) ∧
    (r.held = false ∧ (r.ports.get .a).framer = .confirm ∧ (r.ports.get .a).passed = 0 ∧
      (r.ports.get .a).bits ++ [] = fourFrames.take 280 ∧ 264 * (0 + 1) + 16 ≤ (fourFrames.take 280).length ∧
      octetOfBits ((fourFrames.take 280).drop 264) = 0x6C ∧
      controlPos (octetOfBits (((fourFrames.take 280).drop 264).drop 8)) = 3) ∧
    (q.held = false ∧ (q.ports.get .a).framer = .confirm ∧ (q.ports.get .a).passed = 0 ∧
      (q.ports.get .a).bits ++ [] = frameBits 2 ++ frameBits 9 ∧
      controlPos (octetOfBits (((frameBits 2 ++ frameBits 9).drop 264).drop 8)) ≠ 3) :=
  ⟨aligned { port with framer := .confirm, passed := 2, bits := fourFrames },
    aligned { port with framer := .confirm, bits := fourFrames.take 280 },
    aligned { port with framer := .confirm, bits := frameBits 2 ++ frameBits 9 }, by decide +kernel⟩
/-- One bit too few for the first test; the third pass with one bit of its slot to come; after it, one bit too few and the
last bit of the slot. -/
theorem witness_ConfirmTest_slot : ∃ s : Nat → Bits → State,
    (∀ n b, (s n b).held = false ∧ (s n b).ports.get .a = { port with framer := .confirm, passed := n, bits := b }) ∧
    (fourFrames.take 279).length < 264 * (0 + 1) + 16 ∧
    (264 * (2 + 1) + 16 ≤ (fourFrames.take 1055).length ∧ (fourFrames.take 1055).length < 1056 ∧
      octetOfBits ((fourFrames.take 1055).drop 792) = 0x6C ∧
      controlPos (octetOfBits (((fourFrames.take 1055).drop 792).drop 8)) =
        (controlPos (octetOfBits (((fourFrames.take 1055).drop 528).drop 8)) + 1) % 16) ∧
    fourFrames.length = 1056 :=
  ⟨fun n b => aligned { port with framer := .confirm, passed := n, bits := b }, fun _ _ => ⟨rfl, rfl⟩,
    by decide +kernel, by decide +kernel, by decide +kernel⟩
/-- A slot of exactly 264 bits; three errors among the last sixteen, and a fourth. -/
theorem witness_FrameSlot : ∃ s r q : State,
    (s.held = false ∧ (s.ports.get .a).framer = .aligned ∧ (s.ports.get .a).bits ++ frameBits 6 = frameBits 6 ∧
      264 ≤ (frameBits 6).length ∧ ((s.ports.get .a).judged ++ [false]).count true < 4 ∧ (s.ports.get .a).store.length < 4) ∧
    (r.held = false ∧ (r.ports.get .a).framer = .aligned ∧
      4 ≤ ((r.ports.get .a).judged ++ [true]).count true ∧ (r.ports.get .a).expected ≠ 7) ∧
    (q.held = false ∧ (q.ports.get .a).framer = .aligned ∧ ((q.ports.get .a).judged ++ [false]).count true < 4 ∧
      (q.ports.get .a).store = [storeFrame 2 false, storeFrame 3 false, storeFrame 4 false, storeFrame 5 false]) :=
  ⟨aligned { port with judged := [true, true, true] }, aligned { port with judged := [true, true, true] },
    aligned { port with store := [storeFrame 2 false, storeFrame 3 false, storeFrame 4 false, storeFrame 5 false] },
    by decide +kernel⟩
theorem witness_FrameSlot_few : port.framer = .aligned ∧ port.bits ++ (frameBits 6).take 263 = (frameBits 6).take 263 ∧
    ((frameBits 6).take 263).length < 264 := by decide +kernel
theorem witness_LocalFrame_limits : ∃ s r q v : State,
    (s.held = false ∧ (s.ports.get .a).framer = .aligned ∧ (s.ports.get .a).centring = true ∧
      (s.ports.get .a).centringIdle < 15) ∧
    (r.held = false ∧ (r.ports.get .a).framer = .aligned ∧ (r.ports.get .a).centring = true ∧
      15 ≤ (r.ports.get .a).centringIdle) ∧
    (q.held = false ∧ (q.ports.get .a).framer = .aligned ∧ (q.ports.get .a).centring = false ∧
      (q.ports.get .a).store = [] ∧ (q.ports.get .a).repeats < 15) ∧
    (v.held = false ∧ (v.ports.get .a).framer = .aligned ∧ (v.ports.get .a).centring = false ∧
      (v.ports.get .a).store = [] ∧ 15 ≤ (v.ports.get .a).repeats) :=
  ⟨aligned { port with centring := true, centringIdle := 14 }, aligned { port with centring := true, centringIdle := 15 },
    aligned { port with repeats := 14 }, aligned { port with repeats := 15 }, by decide⟩
theorem witness_LocalFrame_marked : ∃ s : State, s.held = false ∧ (s.ports.get .a).framer = .aligned ∧
    (s.ports.get .a).centring = false ∧ (s.ports.get .a).store = [storeFrame 6 true] ∧ (storeFrame 6 true).marked = true ∧
    (s.ports.get .a).quarter = none := ⟨aligned { port with store := [storeFrame 6 true] }, by decide⟩
/-- A quarter of three empty payloads, each zero but for the slots given, and the fourth. -/
def quarter (offset : Nat) (complete : Bool) : Quarter :=
  { offset := offset, payloads := List.replicate (offset + 1) (List.replicate 30 0), complete := complete }

/-- A port about to read a frame of position 4 with a check octet, a quarter under assembly and failures before. -/
def reading (aux : Octet) (q : Quarter) (failed : Nat) : Port :=
  { port with store := [{ storeFrame 4 false with aux := aux }], quarter := some q,
              history := List.replicate failed true }

theorem witness_LocalFrame_agrees : crc8 (quarter 3 true).payloads.flatten = 0 := by
  have zeros : ∀ n, crc8 (List.replicate n 0) = 0 := by
    intro n
    induction n with
    | zero => rfl
    | succ n ih => exact ih
  exact zeros 120
/-- The clauses of the quarter checker: none held, one that the frame joins, one that is incomplete, one that agrees, one
that fails the seventh and one that fails the eighth time. -/
theorem witness_LocalFrame_quarter :
    (∀ p ∈ [{ port with store := [storeFrame 4 false] }, reading 0 (quarter 2 true) 0, reading 0 (quarter 3 false) 0,
        reading 0 (quarter 3 true) 0,
        reading 1 (quarter 3 true) 6, reading 1 (quarter 3 true) 7],
      (aligned p).held = false ∧ p.framer = .aligned ∧ p.centring = false ∧ p.store.length = 1 ∧
        p.store.all (fun f => !f.marked && f.lost == 0) = true) ∧
    (quarter 2 true).offset + 1 + 0 ≤ 3 ∧ 3 < (quarter 3 false).offset + 1 + 0 ∧ (quarter 3 false).complete = false ∧
    (quarter 3 true).complete = true ∧ (quarter 3 true).offset = 3 ∧
    (List.replicate 6 true ++ [true]).count true < 8 ∧ 8 ≤ (List.replicate 7 true ++ [true]).count true := by
  decide +kernel
/-- The slots of a good quarter: an empty one, one below the strength threshold, one malformed at it; and a telegram, in
STANDBY, at a full queue and at one with a place. -/
theorem witness_LocalFrame_slots : ∃ (os : Octet → Octet → List Octet) (q : Nat → State),
    (running.config.approaches.get .a).strength = 40 ∧
    (∀ k g, ((os k g)[0]?).getD 0 = k ∧ ((os k g)[13]?).getD 0 = g) ∧ (39 : Octet).toNat < 40 ∧ 40 ≤ (40 : Octet).toNat ∧
    readSlot (.port .a) .a (os 9 40) = .malformed ∧
    (match readSlot (.port .a) .a (os 2 40) with | .telegram t => t.bus == 7 | .empty => false | .malformed => false) =
      true ∧
    State.reset.mode = .standby ∧ ∀ n ∈ [7, 8], (q n).mode ≠ .standby ∧ ((q n).intake.queues.ports.get .a).length = n :=
  ⟨fun k g => k :: slotOctets.tail.take 12 ++ [g, 0],
    fun n => { running with intake := { running.intake with queues := { running.intake.queues with
      ports := { running.intake.queues.ports with a := List.replicate n (telegram .position 7 1) } } } },
    by decide, fun _ _ => ⟨rfl, rfl⟩, by decide, by decide, by decide +kernel, by decide +kernel, by decide, by decide⟩
theorem witness_ReturnFrame : ∃ s r : State,
    (s.held = false ∧ (s.ports.get .a).returnPos ≤ 15 ∧ (s.ports.get .a).returnPos % 4 = 0 ∧
      (s.ports.get .a).framer ≠ .disabled ∧ (s.ports.get .a).crcInsertion = .aimed ∧ (s.ports.get .a).sending = none ∧
      s.mode = .run ∧ (s.table.filter fun e => e.approach == .a && e.indication != .none).length = 6) ∧
    (r.held = false ∧ (r.ports.get .a).returnPos ≤ 15 ∧ (r.ports.get .a).framer = .disabled) :=
  ⟨{ aligned { port with returnPos := 12, crcInsertion := .aimed } with
      table := (List.range 6).map fun i => entry (10 + i) .waiting (some .limit) },
    aligned { Port.atReset false with returnPos := 15 }, by decide +kernel⟩
/-- A loop-timed frame with one bit to send, and with none, at an ALIGNED and at a DISABLED port. -/
theorem witness_ReturnFrame_due : ∃ f : Nat → ReturnFrame,
    (∀ n ∈ [0, 1], ∀ st ∈ [FramerState.aligned, .disabled], (f n).timing = .loop ∧ (f n).unsent = n ∧
      (aligned { port with framer := st, sending := some (f n) }).held = false) :=
  ⟨fun n => { octets := List.replicate 33 0, unsent := n, timing := .loop }, by decide⟩

/-- A step answers a next state from states that are sound in every sense. -/
theorem witness_EveryStepKeeps : (∃ t, step { State.reset with pending := [.rstnLow] } = .next t) ∧
    State.reset.TableSound ∧ State.reset.QueuesSound ∧ State.reset.PassSound ∧ State.reset.RingSound := by
  refine ⟨⟨_, rfl⟩, by decide, by decide, by decide, by decide, by decide, by decide, by decide, ?_, ?_, ?_, ?_⟩ <;>
    intro x h <;> cases h
theorem witness_EveryCommandKeepsAdmissionOrder :
    (∃ t, exec .checkIn (serving (telegram .checkIn 9 0) running) = .next t) ∧
      ∃ t, exec .outboundFrameSent (restarting .restart) = .next t := ⟨⟨_, rfl⟩, ⟨_, rfl⟩⟩

end Sys2Proof.Tests
end

section
/-! SUPPORT. What the request table does with the telegram it takes next (R5), and the discards of a telegram for a
known bus (R11, R12). -/

namespace Sys2Proof.Machine

/-! ### The telegram taken next (R5) -/

/-- The row of a telegram takes a telegram of its kind. -/
theorem exec_telegramRow (t : Telegram) (s : State) :
    exec (telegramRow t) s = whenRunning s (takeTelegram t.kind) := by
  unfold telegramRow
  cases t.kind <;> rfl

/-- The next telegram of the rotation, taken by a row of its own kind, leaves its queue and is applied. -/
theorem takeTelegram_of_next {t : Telegram} {s : State} (next : s.nextTelegram = some t) :
    takeTelegram t.kind s = applyTelegram t { s with intake := s.intake.serve } := by
  simp [takeTelegram, next]

/-- A part that can take a telegram next takes it from its queue and applies it. -/
theorem exec_telegramRow_of_serves {t : Telegram} {s : State} (serves : s.serves t) :
    exec (telegramRow t) s = .next (applyTelegram t { s with intake := s.intake.serve }) := by
  obtain ⟨running, next⟩ := serves
  rw [exec_telegramRow, whenRunning_running running, takeTelegram_of_next next]

/-- A telegram whose bus has an entry is judged against that entry. -/
theorem applyTelegram_known {t : Telegram} {e : Entry} {s : State} (known : s.findEntry t.bus = some e) :
    applyTelegram t s = takeKnown t e s := by
  simp [applyTelegram, known]

theorem exec_telegramRow_of_known {t : Telegram} {e : Entry} {s : State} (serves : s.serves t)
    (known : s.findEntry t.bus = some e) :
    exec (telegramRow t) s = .next (takeKnown t e { s with intake := s.intake.serve }) := by
  rw [exec_telegramRow_of_serves serves]
  exact congrArg _ (applyTelegram_known known)

/-! ### Discards of a telegram for a known bus (R11, R12) -/

/-- The approach is compared before the sequence (R11). -/
theorem takeKnown_crossApproach {t : Telegram} {e : Entry} (other : t.approach ≠ e.approach) (s : State) :
    takeKnown t e s = countDiscard .crossApproach t.source s := by
  simp [takeKnown, other]

theorem takeKnown_duplicate {t : Telegram} {e : Entry} (same : t.approach = e.approach)
    (again : sequenceDifference t.seq e.seq = 0) (s : State) :
    takeKnown t e s = countDiscard .duplicate t.source s := by
  simp [takeKnown, same, again]

theorem takeKnown_outOfOrder {t : Telegram} {e : Entry} (same : t.approach = e.approach)
    (older : 8 ≤ sequenceDifference t.seq e.seq) (s : State) :
    takeKnown t e s = countDiscard .outOfOrder t.source s := by
  have new : sequenceDifference t.seq e.seq ≠ 0 := by omega
  simp [takeKnown, same, new, older]

/-- A discard reaches the counters, and latching is all it does besides (R3, R162). -/
theorem countDiscard_sameBut (why : Discard) (src : Source) (s : State) :
    (countDiscard why src s).sameButNotices { s with stats := s.counted .telegramDiscard why.index (some src) } :=
  countEvent_sameBut .telegramDiscard why.index (some src) s

/-- Settles O28: each of the three cases is one discard, and a discard does no more than count. -/
theorem knownBusTelegramDiscarded : Obligations.KnownBusTelegramDiscarded := by
  unfold Obligations.KnownBusTelegramDiscarded
  intro t e s serves known w why
  have discarded : ∀ served, takeKnown t e served = countDiscard w t.source served := by
    rcases why with ⟨other, rfl⟩ | ⟨same, again, rfl⟩ | ⟨same, older, rfl⟩
    · exact takeKnown_crossApproach other
    · exact takeKnown_duplicate same again
    · exact takeKnown_outOfOrder same older
  refine ⟨_, ?_, countDiscard_sameBut w t.source { s with intake := s.intake.serve }⟩
  rw [exec_telegramRow_of_known serves known, discarded]

end Sys2Proof.Machine
end

section
/-! SUPPORT. PHASE_STATUS (R47 to R54): what the change of model state, the cycle start, the life of the grant and the
pass trigger of a valid status leave standing, what they write, and the statement that a valid status replaces the
anchor whole (R48). -/

namespace Sys2Proof.Machine

/-! ### What stands in the planner and the table through a status -/

/-- The command exchange, the review timer, the running pass, and the buses of the table in their order. -/
structure Standing where
  slot : Option Slot
  lost : Option LostTag
  tagCounter : Nat
  review : Option PartTime
  passRunning : Bool
  buses : List Nat

def State.standing (s : State) : Standing :=
  { slot := s.planner.slot, lost := s.planner.lost, tagCounter := s.planner.tagCounter, review := s.planner.review,
    passRunning := s.planner.passRunning, buses := s.table.map Entry.bus }

/-- What it says of two states that one stands as the other but for its review timer. -/
theorem State.standing_eq_iff {t s : State} {review : Option PartTime} :
    t.standing = { s.standing with review := review } ↔
      t.planner.slot = s.planner.slot ∧ t.planner.lost = s.planner.lost ∧
        t.planner.tagCounter = s.planner.tagCounter ∧ t.planner.review = review ∧
        t.planner.passRunning = s.planner.passRunning ∧ t.table.map Entry.bus = s.table.map Entry.bus := by
  simp [State.standing]

@[simp] theorem Entry.spend_bus (now : PartTime) (ran : Bool) (e : Entry) : (e.spend now ran).bus = e.bus := rfl

/-- A close rewrites the members where they stand and touches the grant and its pending revise alone (R101). -/
@[simp] theorem closeGrant_standing (s : State) : (closeGrant s).standing = s.standing := by
  unfold closeGrant
  split
  · rfl
  · simp only [State.standing, State.onPlanner_table, State.onPlanner_planner, List.map_map]
    congr 1
    refine List.map_congr_left fun e _ => ?_
    rw [Function.comp_apply]
    split <;> simp

@[simp] theorem State.onGrant_standing (f : Grant → Grant) (s : State) : (s.onGrant f).standing = s.standing := rfl

/-- What a status can do to the grant: leave it, close it, or rewrite it (R99, R100). -/
theorem grantStatus_cases (p : Nat) (i : Interval) (s : State) :
    grantStatus p i s = s ∨ grantStatus p i s = closeGrant s ∨ ∃ f, grantStatus p i s = s.onGrant f := by
  unfold grantStatus
  cases s.planner.grant with
  | none => exact .inl rfl
  | some g =>
    dsimp only
    cases g.state with
    | running =>
      dsimp only
      split
      · exact .inl rfl
      · exact .inr (.inl rfl)
    | armed =>
      dsimp only
      split
      · split
        · exact .inr (.inr ⟨_, rfl⟩)
        · exact .inl rfl
      · exact .inr (.inr ⟨_, rfl⟩)

@[simp] theorem grantStatus_standing (p : Nat) (i : Interval) (s : State) :
    (grantStatus p i s).standing = s.standing := by
  obtain same | closed | ⟨f, rewritten⟩ := grantStatus_cases p i s
  · rw [same]
  · rw [closed, closeGrant_standing]
  · rw [rewritten, State.onGrant_standing]

@[simp] theorem refillOne_standing (s : State) (x : Approach) : (refillOne s x).standing = s.standing := by
  unfold refillOne
  dsimp only
  split <;> rfl

/-- A cycle start is about tokens and the ledger (R53). -/
@[simp] theorem cycleStart_standing (s : State) : (cycleStart s).standing = s.standing := by
  have renewed : ∀ t : State, (renewLedger t).standing = t.standing := fun _ => rfl
  rw [cycleStart, renewed]
  exact foldl_keeps State.standing refillOne refillOne_standing allApproaches s

@[simp] theorem triggerPass_standing (s : State) : (triggerPass s).standing = s.standing := by
  unfold triggerPass
  split
  · rfl
  · split <;> rfl

/-- A trigger makes a pass due when none runs, except in STANDBY (R65, R66). -/
theorem triggerPass_due {s : State} (mode : s.mode ≠ .standby) (idle : s.planner.passRunning = false) :
    (triggerPass s).planner.passDue = true := by
  simp [triggerPass_planner, mode, idle]

/-! ### The change of model state (R52, R67) -/

/-- The review timer once the model has gone from one state to another: started on entering TRACKING, stopped on
leaving it (R67). -/
def reviewAfter (old new : ModelState) (now : PartTime) (review : Option PartTime) : Option PartTime :=
  if old = new then review
  else if new = .tracking then some (now + 10)
  else if old = .tracking then none
  else review

theorem signalPlanner_standing {m n : ModelState} (change : m ≠ n) (s : State) :
    (signalPlanner m n s).standing =
      { s.standing with review := reviewAfter m n s.now s.planner.review } := by
  unfold signalPlanner reviewAfter
  rw [if_neg change]
  by_cases entered : n = .tracking
  · simp only [if_pos entered]
    rfl
  · by_cases left : m = .tracking
    · simp only [if_neg entered, if_pos left]
      split
      · split
        · rw [closeGrant_standing]
          rfl
        · rfl
      · rfl
    · simp only [if_neg entered, if_neg left]
      rfl

theorem setModelState_standing (m : ModelState) (s : State) :
    (setModelState m s).standing =
      { s.standing with review := reviewAfter s.model.state m s.now s.planner.review } := by
  unfold setModelState
  split
  · next same => simp [reviewAfter, same, State.standing]
  · next change =>
    rw [signalPlanner_standing change]
    simp [State.standing]

/-- A change of model state is SIGNAL_MODEL's latching event and nothing more to the notice unit (R52). -/
theorem setModelState_noticed (m : ModelState) (s : State) : (setModelState m s).noticedFrom s := by
  unfold setModelState
  split
  · exact noticedFrom_of_eq rfl rfl
  · exact noticedFrom_trans (noticedFrom_of_eq (signalPlanner_notices _ _ _) (signalPlanner_link _ _ _))
      (noticedFrom_trans (latchNotice_noticed _ _ _) (noticedFrom_of_eq rfl rfl))

/-- SIGNAL_MODEL is latched on a change, and a set latch keeps what it holds (R52, R166). -/
theorem setModelState_signalLatch (m : ModelState) (s : State) :
    (setModelState m s).notices.latches.signalModel =
      if s.model.state = m ∨ s.notices.latches.signalModel.isSome then s.notices.latches.signalModel
      else some { detail := m.code, time := s.now } := by
  unfold setModelState
  split
  · next same => rw [if_pos (.inl same)]
  · next change =>
    rw [signalPlanner_notices, latchNotice_latches]
    change PerLatch.signalModel (if s.notices.latches.signalModel.isSome = true then _ else _) = _
    split
    · next held => rw [if_pos (.inr held)]
    · next clear => rw [if_neg (not_or.mpr ⟨change, clear⟩)]; rfl

/-! ### Reading a status (R47, R48, R50) -/

theorem intervalOf_eq_of_code {o : Octet} {i : Interval} (code : o.toNat = i.code) : intervalOf o = some i := by
  cases i with
  | green => obtain rfl : o = 0 := BitVec.eq_of_toNat_eq code; rfl
  | yellow => obtain rfl : o = 1 := BitVec.eq_of_toNat_eq code; rfl
  | redClear => obtain rfl : o = 2 := BitVec.eq_of_toNat_eq code; rfl

/-- The fields of a status, as Table 10-5 lays them out for `n` phases. -/
def statusOf (n : Nat) (plan phase : Octet) (i : Interval) (hi lo flags mask : Octet) : Status :=
  { plan := plan.toNat, phase := phase.toNat, interval := i, elapsed := hi.toNat * 256 + lo.toNat,
    cycleStart := flags.getLsbD 0, inhibit := flags.getLsbD 1,
    pedCalls := mask &&& BitVec.ofNat 8 (2 ^ n - 1) }

/-- A body of seven octets is a valid status when its phase and its interval exist (R47). -/
theorem readStatusBody_valid {n : Nat} {phase interval : Octet} {i : Interval} (plan hi lo flags mask : Octet)
    (least : 1 ≤ phase.toNat) (most : phase.toNat ≤ n) (code : interval.toNat = i.code) :
    readStatusBody n [plan, phase, interval, hi, lo, flags, mask] =
      some (statusOf n plan phase i hi lo flags mask) := by
  simp [readStatusBody, statusOf, intervalOf_eq_of_code code, least, most, number]

theorem Configuration.plan_isNone (c : Configuration) (id : Nat) :
    (c.plan id).isNone = !c.plans.any fun p => p.id == id := by
  rw [Configuration.plan, ← Option.not_isSome, List.isSome_find?]

/-- The state of the model by the plans of the table (R50). -/
theorem Status.modelState_eq (t : Status) (c : Configuration) :
    t.modelState c =
      if t.inhibit then .inhibited
      else if c.plans.any (fun p => p.id == t.plan) then .tracking else .unknownPlan := by
  unfold Status.modelState
  rw [Configuration.plan_isNone]
  cases c.plans.any fun p => p.id == t.plan <;> rfl

theorem exec_phaseStatus (s : State) : exec .phaseStatus s = execPhaseStatus s := rfl

/-- The row of a status takes the frame and lets its body arrive (R54). -/
theorem exec_phaseStatus_of_hears {s : State} {f : List Octet} {rest : List (List Octet)} (h : s.hears 0x20 f rest) :
    exec .phaseStatus s = .next (statusArrives (frameBody f) (s.heard rest)) := by
  obtain ⟨running, received, passes, kind⟩ := h
  rw [exec_phaseStatus, execPhaseStatus, whenRunning_running running, takeReceived, received]
  simp only [passes, kind]
  rfl

theorem statusArrives_valid {body : List Octet} {t : Status} {s : State}
    (valid : readStatusBody s.phaseCount body = some t) : statusArrives body s = validStatus t s := by
  simp [statusArrives, valid]

/-! ### A valid status (R54) -/

/-- The first of the steps of R54: the anchor is replaced and the model takes its state. -/
def modelTaken (t : Status) (s : State) : State :=
  setModelState (t.modelState s.config) { s with model := { s.model with anchor := some (t.anchor s.now) } }

/-- The steps of R54 before the pass trigger. -/
def statusTaken (t : Status) (s : State) : State :=
  grantStatus t.phase t.interval
    (if t.cycleStart && s.model.state != .noStatus then cycleStart (modelTaken t s) else modelTaken t s)

theorem validStatus_eq (t : Status) (s : State) : validStatus t s = triggerPass (statusTaken t s) := rfl

theorem modelTaken_standing (t : Status) (s : State) :
    (modelTaken t s).standing =
      { s.standing with
        review := reviewAfter s.model.state (t.modelState s.config) s.now s.planner.review } :=
  setModelState_standing _ _

theorem statusTaken_standing (t : Status) (s : State) : (statusTaken t s).standing = (modelTaken t s).standing := by
  rw [statusTaken, grantStatus_standing]
  split <;> simp

theorem validStatus_standing (t : Status) (s : State) :
    (validStatus t s).standing =
      { s.standing with
        review := reviewAfter s.model.state (t.modelState s.config) s.now s.planner.review } := by
  rw [validStatus_eq, triggerPass_standing, statusTaken_standing, modelTaken_standing]

/-- The anchor is replaced whole and the model takes the state of the status (R48, R50). -/
theorem validStatus_model (t : Status) (s : State) :
    (validStatus t s).model = { state := t.modelState s.config, anchor := some (t.anchor s.now) } := by
  rw [validStatus_eq, triggerPass_model, statusTaken, grantStatus_model]
  split <;> simp [modelTaken]

theorem validStatus_notices (t : Status) (s : State) : (validStatus t s).notices = (modelTaken t s).notices := by
  rw [validStatus_eq, triggerPass_notices, statusTaken, grantStatus_notices]
  split <;> simp

theorem validStatus_link (t : Status) (s : State) : (validStatus t s).link = (modelTaken t s).link := by
  rw [validStatus_eq, triggerPass_link, statusTaken, grantStatus_link]
  split <;> simp

theorem validStatus_noticed (t : Status) (s : State) : (validStatus t s).noticedFrom s :=
  noticedFrom_trans (noticedFrom_of_eq (validStatus_notices t s) (validStatus_link t s))
    (noticedFrom_trans (setModelState_noticed _ _) (noticedFrom_of_eq rfl rfl))

/-- Beside the model, the planner and the table, a valid status changes nothing but what latching does. -/
theorem validStatus_sameBut (t : Status) (s : State) :
    (validStatus t s).sameButNotices { s with
      table := (validStatus t s).table, planner := (validStatus t s).planner, model := (validStatus t s).model } := by
  refine sameButNotices_of
    (base := { s with table := (validStatus t s).table, planner := (validStatus t s).planner,
                      model := (validStatus t s).model })
    (noticedFrom_trans (validStatus_noticed t s) (noticedFrom_of_eq rfl rfl)) ?_ ?_ ?_ ?_ ?_ ?_ ?_ rfl ?_ ?_ rfl rfl
    ?_ ?_ ?_ ?_ ?_
  all_goals
    simp only [validStatus_eq, statusTaken]
    split <;> simp [modelTaken]

theorem validStatus_signalLatch (t : Status) (s : State) :
    (validStatus t s).notices.latches.signalModel =
      if s.model.state = t.modelState s.config ∨ s.notices.latches.signalModel.isSome then
        s.notices.latches.signalModel
      else some { detail := (t.modelState s.config).code, time := s.now } := by
  rw [validStatus_notices]
  exact setModelState_signalLatch _ _

/-- A valid status is a pass trigger (R54, R65). -/
theorem validStatus_due {t : Status} {s : State} (mode : s.mode ≠ .standby) (idle : s.planner.passRunning = false) :
    (validStatus t s).planner.passDue = true := by
  have sameMode : (statusTaken t s).mode = s.mode := by
    rw [statusTaken, grantStatus_mode]
    split <;> simp [modelTaken]
  obtain ⟨_, _, _, _, sameRunning, _⟩ := State.standing_eq_iff.1
    ((statusTaken_standing t s).trans (modelTaken_standing t s))
  rw [validStatus_eq]
  exact triggerPass_due (sameMode ▸ mode) (sameRunning.trans idle)

/-- Settles O15: the row reads the status, and each clause is what a valid status does to one part of the state. -/
theorem validStatusAnchors : Obligations.ValidStatusAnchors := by
  unfold Obligations.ValidStatusAnchors
  intro f rest plan phase interval hi lo flags mask i m s hears body least most code state
  let t := statusOf s.config.phases.length plan phase i hi lo flags mask
  have read : readStatusBody (s.heard rest).phaseCount (frameBody f) = some t := by
    rw [body]
    exact readStatusBody_valid plan hi lo flags mask least most code
  have row : exec .phaseStatus s = .next (validStatus t (s.heard rest)) := by
    rw [exec_phaseStatus_of_hears hears, statusArrives_valid read]
  have takes : t.modelState (s.heard rest).config = m := (Status.modelState_eq t s.config).trans state.symm
  have model := validStatus_model t (s.heard rest)
  have standing := validStatus_standing t (s.heard rest)
  have latch := validStatus_signalLatch t (s.heard rest)
  have same := validStatus_sameBut t (s.heard rest)
  have due := @validStatus_due t (s.heard rest)
  rw [takes] at model standing latch
  rw [model] at same
  obtain ⟨slot, lost, tagCounter, review, _, buses⟩ := State.standing_eq_iff.1 standing
  exact ⟨validStatus t (s.heard rest), row, same, latch, review, due, slot, lost, tagCounter, buses⟩

end Sys2Proof.Machine
end

section
/-! SUPPORT. The cabinet line (chapter 7): what an octet does in each state of the receive framer (R134), and how an
asked message that passes its check joins the queue or overruns it (R136). -/

namespace Sys2Proof.Machine

/-! ### The receive framer (R132, R134) -/

theorem takeOctet_idle {k : Link} (idle : k.framer = .idle) (o : Octet) :
    takeOctet o k = { k with framer := if o = 0xA5 then .receiving [] else .idle } := by
  rw [takeOctet, idle]
  by_cases start : o = 0xA5
  · simp only [if_pos start]
  · simp only [if_neg start, ← idle]

theorem takeOctet_length {k : Link} (started : k.framer = .receiving []) (o : Octet) :
    takeOctet o k = { k with framer := if 2 ≤ o.toNat ∧ o.toNat ≤ 250 then .receiving [o] else .idle } := by
  rw [takeOctet, started]
  by_cases outside : o.toNat < 2 ∨ 250 < o.toNat
  · have notInside : ¬(2 ≤ o.toNat ∧ o.toNat ≤ 250) := by omega
    simp only [if_pos outside, if_neg notInside]
  · have inside : 2 ≤ o.toNat ∧ o.toNat ≤ 250 := by omega
    simp only [if_neg outside, if_pos inside]

theorem takeOctet_last {k : Link} {len : Octet} {got : List Octet} (receiving : k.framer = .receiving (len :: got))
    (last : got.length + 1 = len.toNat + 2) (o : Octet) :
    takeOctet o k = { k with framer := .idle, received := k.received ++ [len :: (got ++ [o])] } := by
  simp only [takeOctet, receiving, if_pos last, List.cons_append]

theorem takeOctet_more {k : Link} {len : Octet} {got : List Octet} (receiving : k.framer = .receiving (len :: got))
    (more : got.length + 1 ≠ len.toNat + 2) (o : Octet) :
    takeOctet o k = { k with framer := .receiving (len :: (got ++ [o])) } := by
  simp only [takeOctet, receiving, if_neg more, List.cons_append]

/-- The row of an octet reads it back from its line form and lets the framer take it. -/
theorem exec_octetReceived {s : State} (running : s.held = false) (o : Octet) :
    exec (.octetReceived o) s = .next { s with link := takeOctet o s.link } := by
  rw [← takeCharacter_lineForm]
  exact whenRunning_running running fun st => st.onLink (takeCharacter (lineForm o))

/-- A framing fault abandons the frame being received (R132). -/
theorem exec_framingFault {s : State} (running : s.held = false) :
    exec .framingFault s = .next { s with link := { s.link with framer := .idle } } :=
  whenRunning_running running fun st => st.onLink abandonFrame

/-- The gap timeout abandons the frame being received (R134). -/
theorem exec_frameGapTimeout {s : State} (running : s.held = false) :
    exec .frameGapTimeout s = .next { s with link := { s.link with framer := .idle } } :=
  whenRunning_running running fun st => st.onLink abandonFrame

/-- Settles O7: one clause for each state of the framer, and the two events that abandon a frame. -/
theorem receiveFramerTakesOctets : Obligations.ReceiveFramerTakesOctets := by
  unfold Obligations.ReceiveFramerTakesOctets
  intro o s running
  refine ⟨fun idle => ?_, fun started => ?_, fun len got receiving last => ?_, fun len got receiving more => ?_,
    exec_framingFault running, exec_frameGapTimeout running⟩
  · rw [exec_octetReceived running, takeOctet_idle idle]
  · rw [exec_octetReceived running, takeOctet_length started]
  · rw [exec_octetReceived running, takeOctet_last receiving last]
  · rw [exec_octetReceived running, takeOctet_more receiving more]

/-! ### Notices, written out (R138, R166) -/

/-- A NOTICE offered, as one state: it joins below 10 queued messages, and is dropped and tallied otherwise (R138). -/
theorem offerNotice_eq (l : Latch) (d : Nat) (s : State) :
    offerNotice l d s =
      { s with link := { s.link with
          outbound :=
            if s.link.outbound.length < 10 then
              s.link.outbound ++ [{ kind := .notice, tag := 0,
                                    body := octet l.kindCode :: octet l.approachOctet :: octet d :: octets4 s.now.toNat,
                                    final := false }]
            else s.link.outbound,
          noticesDropped :=
            if 10 ≤ s.link.outbound.length then tally16 s.link.noticesDropped else s.link.noticesDropped } } := by
  unfold offerNotice
  by_cases room : s.link.outbound.length < 10
  · simp only [if_pos room, if_neg (Nat.not_le.2 room)]
    rfl
  · simp only [if_neg room, if_pos (Nat.not_lt.1 room)]
    rfl

/-- A latching event whose latch is clear sets it, and offers a NOTICE when its mask is open (R166). -/
theorem latchNotice_of_clear {l : Latch} {s : State} (clear : s.notices.latches.get l = none) (d : Nat) :
    latchNotice l d s =
      let latched : State := { s with notices := { s.notices with
        latches := s.notices.latches.set l (some { detail := d, time := s.now }) } }
      if s.notices.mask.get l = true then offerNotice l d latched else latched := by
  simp [latchNotice, clear]

/-! ### Asked messages (R135, R136, R145) -/

/-- The asked message a frame handed over carries (Table 7-2). -/
def frameMessage (f : List Octet) : AskedMessage := { kind := frameKind f, tag := frameTag f, body := frameBody f }

/-- The row of an asked message takes a frame that passes its check and is neither told kind (R135). -/
theorem exec_askedMessageArrival {f : List Octet} {rest : List (List Octet)} {s : State} (running : s.held = false)
    (received : s.link.received = f :: rest) (passes : framePasses f = true) (notStatus : frameKind f ≠ 0x20)
    (notAnswer : frameKind f ≠ 0x21) :
    exec .askedMessageArrival s = .next (askedArrives (frameMessage f) (s.heard rest)) := by
  have row : exec .askedMessageArrival s = .next (askedMessageArrival s) :=
    whenRunning_running running askedMessageArrival
  have asked : (framePasses f && !toldKind (frameKind f)) = true := by
    rw [passes, toldKind, beq_false_of_ne notStatus, beq_false_of_ne notAnswer]
    rfl
  rw [row, askedMessageArrival, takeReceived, received]
  simp only [asked, if_true]
  rfl

theorem askedArrives_restarting {s : State} (restarting : s.link.restart.isSome = true) (m : AskedMessage) :
    askedArrives m s = s := by
  simp [askedArrives, restarting]

theorem askedArrives_joins {s : State} (staying : s.link.restart = none) (few : s.unanswered < 4) (m : AskedMessage) :
    askedArrives m s = s.onLink fun k => { k with asked := k.asked ++ [m] } := by
  simp [askedArrives, staying, Nat.not_le.2 few]

theorem askedArrives_overruns {s : State} (staying : s.link.restart = none) (many : 4 ≤ s.unanswered)
    (m : AskedMessage) :
    askedArrives m s = latchNotice .hostOverrun 0 (s.onLink fun k => { k with overruns := tally16 k.overruns }) := by
  simp [askedArrives, staying, many]

/-- HOST_OVERRUN on a clear latch, as one state (R166, R138). -/
theorem latchNotice_hostOverrun {s : State} (clear : s.notices.latches.hostOverrun = none) :
    latchNotice .hostOverrun 0 s =
      { s with
        notices := { s.notices with latches := { s.notices.latches with
          hostOverrun := some { detail := 0, time := s.now } } },
        link := { s.link with
          outbound :=
            if s.notices.mask.hostOverrun = true ∧ s.link.outbound.length < 10 then
              s.link.outbound ++ [{ kind := .notice, tag := 0, body := 9 :: 255 :: 0 :: octets4 s.now.toNat,
                                    final := false }]
            else s.link.outbound,
          noticesDropped :=
            if s.notices.mask.hostOverrun = true ∧ 10 ≤ s.link.outbound.length then
              min 65535 (s.link.noticesDropped + 1)
            else s.link.noticesDropped } } := by
  rw [latchNotice_of_clear (l := .hostOverrun) clear]
  by_cases opened : s.notices.mask.hostOverrun = true
  · simp only [PerLatch.get, opened, if_true, true_and, offerNotice_eq]
    rfl
  · simp only [PerLatch.get, opened]
    rfl

/-- An overrun on a set latch does no more than count (R136, R166). -/
theorem askedArrives_overruns_again {s : State} (staying : s.link.restart = none) (many : 4 ≤ s.unanswered)
    (latched : s.notices.latches.hostOverrun.isSome = true) (m : AskedMessage) :
    askedArrives m s = s.onLink fun k => { k with overruns := tally16 k.overruns } := by
  rw [askedArrives_overruns staying many]
  exact latchNotice_of_set (l := .hostOverrun) latched

/-- Settles O10: the message is discarded, joins, or overruns, and an overrun latches when the latch is clear. -/
theorem askedMessageQueuedOrOverrun : Obligations.AskedMessageQueuedOrOverrun := by
  unfold Obligations.AskedMessageQueuedOrOverrun
  intro f rest s running received passes notStatus notAnswer
  rw [exec_askedMessageArrival running received passes notStatus notAnswer]
  refine ⟨fun restarting => ?_, fun staying few => ?_, fun staying many => ⟨fun latched => ?_, fun clear => ?_⟩⟩
  · exact congrArg _ (askedArrives_restarting (s := s.heard rest) restarting _)
  · exact congrArg _ (askedArrives_joins (s := s.heard rest) staying few _)
  · exact congrArg _ (askedArrives_overruns_again (s := s.heard rest) staying many latched _)
  · rw [askedArrives_overruns (s := s.heard rest) staying many]
    exact congrArg _ (latchNotice_hostOverrun (s := (s.heard rest).onLink _) clear)

end Sys2Proof.Machine
end

section
/-! SUPPORT. INJECT_TELEGRAM (R144): how a slot is read (Table 10-3, R1, R2), what the intake does with a slot of the
cabinet source (R3, R4), and the reply that carries it. -/

namespace Sys2Proof.Machine

/-! ### Codes and numbers of two octets (Table 10-1, R169) -/

theorem approachOf_index {o : Octet} {x : Approach} (code : Approach.index x = o.toNat) : approachOf o = some x := by
  cases x with
  | a => obtain rfl : o = 0 := BitVec.eq_of_toNat_eq code.symm; rfl
  | b => obtain rfl : o = 1 := BitVec.eq_of_toNat_eq code.symm; rfl
  | c => obtain rfl : o = 2 := BitVec.eq_of_toNat_eq code.symm; rfl
  | d => obtain rfl : o = 3 := BitVec.eq_of_toNat_eq code.symm; rfl

theorem approachOf_outside {o : Octet} (outside : 3 < o.toNat) : approachOf o = none := by
  have other : ∀ c : Octet, c.toNat ≤ 3 → o ≠ c := fun c small same => by subst same; omega
  rw [approachOf, if_neg (other 0 (by decide)), if_neg (other 1 (by decide)), if_neg (other 2 (by decide)),
    if_neg (other 3 (by decide))]

theorem number_pair (hi lo : Octet) : number [hi, lo] = hi.toNat * 256 + lo.toNat := by
  simp [number]

theorem toNat_append_octets (hi lo : Octet) : (hi ++ lo).toNat = hi.toNat * 256 + lo.toNat := by
  rw [BitVec.toNat_append, ← Nat.shiftLeft_add_eq_or_of_lt lo.isLt, Nat.shiftLeft_eq]

/-- Two octets read as a signed number are the two's complement of their sixteen bits. -/
theorem signedNumber_pair (hi lo : Octet) : signedNumber [hi, lo] = (hi ++ lo).toInt := by
  rw [signedNumber, BitVec.toInt_eq_toNat_cond, toNat_append_octets, number_pair]
  have := hi.isLt
  have := lo.isLt
  split <;> split <;> omega

/-- The movement field of the fourth octet of a slot, by its two bits (Table 10-3). -/
theorem movement_field (q : Octet) : q.toNat / 4 % 4 = 2 * (q.getLsbD 3).toNat + (q.getLsbD 2).toNat := by
  simp only [BitVec.getLsbD, Nat.toNat_testBit]
  omega

/-- The fourth movement code names no movement (R1). -/
theorem movementOf_field_none (q : Octet) :
    movementOf (q.toNat / 4 % 4) = none ↔ q.getLsbD 3 = true ∧ q.getLsbD 2 = true := by
  rw [movement_field]
  cases q.getLsbD 3 <;> cases q.getLsbD 2 <;> decide

theorem movementOf_field_some {q : Octet} (readable : ¬(q.getLsbD 3 = true ∧ q.getLsbD 2 = true)) :
    (movementOf (q.toNat / 4 % 4)).getD .through =
      if q.getLsbD 3 = true then .right else if q.getLsbD 2 = true then .left else .through := by
  rw [movement_field]
  cases right : q.getLsbD 3 <;> cases left : q.getLsbD 2
  case true.true => exact absurd ⟨right, left⟩ readable
  all_goals rfl

/-- The kind a code of 1 to 4 names (Table 10-1). -/
def namedKind (k : Octet) : TelegramKind :=
  if k = 1 then .checkIn else if k = 2 then .position else if k = 3 then .checkOut else .withdraw

theorem telegramKindOf_outside {k : Octet} (outside : 4 < k.toNat) : telegramKindOf k = none := by
  have other : ∀ c : Octet, c.toNat ≤ 4 → k ≠ c := fun c small same => by subst same; omega
  rw [telegramKindOf, if_neg (other 1 (by decide)), if_neg (other 2 (by decide)), if_neg (other 3 (by decide)),
    if_neg (other 4 (by decide))]

theorem telegramKindOf_named {k : Octet} (nonzero : k ≠ 0) (inside : k.toNat ≤ 4) :
    telegramKindOf k = some (namedKind k) ∧ ((namedKind k).full = true ↔ k.toNat ≤ 2) := by
  have positive : k.toNat ≠ 0 := fun zero => nonzero (BitVec.eq_of_toNat_eq zero)
  obtain one | two | three | four : k.toNat = 1 ∨ k.toNat = 2 ∨ k.toNat = 3 ∨ k.toNat = 4 := by omega
  · obtain rfl : k = 1 := BitVec.eq_of_toNat_eq one; decide
  · obtain rfl : k = 2 := BitVec.eq_of_toNat_eq two; decide
  · obtain rfl : k = 3 := BitVec.eq_of_toNat_eq three; decide
  · obtain rfl : k = 4 := BitVec.eq_of_toNat_eq four; decide

/-! ### Reading a slot (R1, R2) -/

/-- The telegram of a kind that a slot which is neither empty nor malformed carries (Table 10-3). -/
def slotTelegram (src : Source) (x : Approach) (kind : TelegramKind) (os : List Octet) : Telegram :=
  let b3 := (slotOctet os 3).toNat
  let route := number [slotOctet os 4, slotOctet os 5]
  { source := src, approach := x, kind := kind, bus := number [slotOctet os 1, slotOctet os 2], seq := b3 / 16,
    movement := (movementOf (b3 / 4 % 4)).getD .through,
    atStop := (slotOctet os 3).getLsbD 1, doorOpen := (slotOctet os 3).getLsbD 0,
    route := if route = 0 ∨ 999 < route then 0 else route,
    distance := number [slotOctet os 6, slotOctet os 7] % 1024,
    speed := min 250 (slotOctet os 8).toNat, dwell := (slotOctet os 9).toNat,
    lateness := max (-600) (min 600 (signedNumber [slotOctet os 10, slotOctet os 11])),
    load := (slotOctet os 12).toNat % 4, age := (slotOctet os 14).toNat }

/-- A slot that names no kind, no usable bus, or no movement where its kind reads one (R1, Table 10-3). -/
def slotBad (os : List Octet) : Prop :=
  let bus := (slotOctet os 1).toNat * 256 + (slotOctet os 2).toNat
  4 < (slotOctet os 0).toNat ∨ bus = 0 ∨ bus = 65535 ∨
    (slotOctet os 0).toNat ≤ 2 ∧ (slotOctet os 3).getLsbD 3 = true ∧ (slotOctet os 3).getLsbD 2 = true

theorem readSlot_empty {os : List Octet} (empty : slotEmpty os = true) (src : Source) (x : Approach) :
    readSlot src x os = .empty := by
  rw [readSlot, if_pos empty]

theorem readSlot_malformed {os : List Octet} (nonzero : slotOctet os 0 ≠ 0) (bad : slotBad os) (src : Source)
    (x : Approach) : readSlot src x os = .malformed := by
  have full : slotEmpty os = false := beq_false_of_ne nonzero
  by_cases outside : 4 < (slotOctet os 0).toNat
  · simp [readSlot, full, telegramKindOf_outside outside]
  · obtain ⟨known, reads⟩ := telegramKindOf_named nonzero (Nat.not_lt.1 outside)
    obtain zero | unused | ⟨small, unreadable⟩ := bad.resolve_left outside
    · simp only [readSlot, full, known, number_pair, zero, true_or, if_true, Bool.false_eq_true, if_false]
    · simp only [readSlot, full, known, number_pair, unused, or_true, if_true, Bool.false_eq_true, if_false]
    · simp [readSlot, full, known, reads.2 small, (movementOf_field_none _).2 unreadable]

theorem readSlot_telegram {os : List Octet} (nonzero : slotOctet os 0 ≠ 0) (good : ¬slotBad os) (src : Source)
    (x : Approach) : readSlot src x os = .telegram (slotTelegram src x (namedKind (slotOctet os 0)) os) := by
  have full : slotEmpty os = false := beq_false_of_ne nonzero
  obtain ⟨inside, usable⟩ := not_or.1 good
  obtain ⟨known, reads⟩ := telegramKindOf_named nonzero (Nat.not_lt.1 inside)
  obtain ⟨bus, readable⟩ := or_assoc.not.2 usable |> not_or.1
  rw [← reads, ← movementOf_field_none] at readable
  rw [← number_pair] at bus
  simp only [readSlot, full, known, if_neg bus, if_neg readable]
  rfl

/-- A telegram read carries the source and approach of its slot (R2). -/
theorem readSlot_origin {src : Source} {x : Approach} {os : List Octet} {t : Telegram}
    (reading : readSlot src x os = .telegram t) : t.source = src ∧ t.approach = x := by
  by_cases empty : slotOctet os 0 = 0
  · simp [readSlot_empty (beq_iff_eq.2 empty)] at reading
  · by_cases bad : slotBad os
    · simp [readSlot_malformed empty bad] at reading
    · rw [readSlot_telegram empty bad] at reading
      cases reading
      exact ⟨rfl, rfl⟩

/-- A slot that is read as anything but empty does not carry the empty-slot code (R2). -/
theorem slotEmpty_of_reading {src : Source} {x : Approach} {os : List Octet} (reading : readSlot src x os ≠ .empty) :
    slotEmpty os = false :=
  Bool.eq_false_iff.2 fun empty => reading (readSlot_empty empty src x)

/-! ### The fields of a telegram read (R1, Table 10-3) -/

/-- The movement of a telegram that reads it (R1). -/
theorem slotTelegram_movement {os : List Octet} (good : ¬slotBad os) (reads : (slotOctet os 0).toNat ≤ 2) (src : Source)
    (x : Approach) (kind : TelegramKind) :
    (slotTelegram src x kind os).movement =
      if (slotOctet os 3).getLsbD 3 = true then .right
      else if (slotOctet os 3).getLsbD 2 = true then .left else .through := by
  have readable : ¬((slotOctet os 3).getLsbD 3 = true ∧ (slotOctet os 3).getLsbD 2 = true) :=
    fun both => good (.inr (.inr (.inr ⟨reads, both⟩)))
  exact movementOf_field_some readable

/-- A route outside 1 to 999 is read as 0 (R1). -/
theorem slotTelegram_route (src : Source) (x : Approach) (kind : TelegramKind) (os : List Octet) :
    (slotTelegram src x kind os).route =
      if 1 ≤ (slotOctet os 4).toNat * 256 + (slotOctet os 5).toNat ∧
          (slotOctet os 4).toNat * 256 + (slotOctet os 5).toNat ≤ 999 then
        (slotOctet os 4).toNat * 256 + (slotOctet os 5).toNat
      else 0 := by
  simp only [slotTelegram, number_pair]
  split <;> split <;> omega

/-- The distance is read from the low ten bits of its field (Table 10-3). -/
theorem slotTelegram_distance (src : Source) (x : Approach) (kind : TelegramKind) (os : List Octet) :
    (slotTelegram src x kind os).distance = ((slotOctet os 6).toNat * 256 + (slotOctet os 7).toNat) % 1024 := by
  rw [slotTelegram, number_pair (slotOctet os 6)]

/-- The lateness is a signed field, clamped to ±600 (R1). -/
theorem slotTelegram_lateness (src : Source) (x : Approach) (kind : TelegramKind) (os : List Octet) :
    (slotTelegram src x kind os).lateness = max (-600) (min 600 (slotOctet os 10 ++ slotOctet os 11).toInt) := by
  rw [slotTelegram, signedNumber_pair]

/-! ### A slot of the cabinet source reaches the intake (R2 to R4) -/

theorem takeSlot_cabinet_empty {x : Approach} {os : List Octet} (reading : readSlot .cabinet x os = .empty)
    (s : State) : takeSlot .cabinet x os s = (s, .empty) := by
  simp [takeSlot, State.weakSlot, reading]

theorem takeSlot_cabinet_malformed {x : Approach} {os : List Octet} (reading : readSlot .cabinet x os = .malformed)
    (s : State) : takeSlot .cabinet x os s = (countDiscard .malformed .cabinet s, .malformed) := by
  have full : slotEmpty os = false := slotEmpty_of_reading (x := x) (by rw [reading]; simp)
  simp [takeSlot, State.weakSlot, full, reading]

/-- A telegram of the cabinet source meets the last two checks of R3 and joins its queue (R4). -/
theorem takeSlot_cabinet_telegram {x : Approach} {os : List Octet} {t : Telegram}
    (reading : readSlot .cabinet x os = .telegram t) (s : State) :
    takeSlot .cabinet x os s =
      if s.mode = .standby then (countDiscard .notRunning .cabinet s, .notRunning)
      else if 8 ≤ s.intake.queues.cabinet.length then (countDiscard .intakeFull .cabinet s, .intakeFull)
      else
        (countEvent .telegramIn t.kind.index (some .cabinet)
          { s with intake := { s.intake with queues := { s.intake.queues with
              cabinet := s.intake.queues.cabinet ++ [t] } } }, .queued) := by
  have full : slotEmpty os = false := slotEmpty_of_reading (x := x) (by rw [reading]; simp)
  simp only [takeSlot, State.weakSlot, full, reading, PerSource.get, PerSource.set]
  rfl

/-! ### The reply (R137, R144) -/

/-- The state with the head asked message taken from its queue. -/
def State.asking (s : State) (rest : List AskedMessage) : State := s.onLink fun k => { k with asked := rest }

/-- The row of INJECT_TELEGRAM: a message of the right length goes to its owner, and the REPLY is queued. -/
theorem exec_injectTelegram {m : AskedMessage} {rest : List AskedMessage} {s : State} (takes : s.takes m rest)
    (kind : m.kind = 15) (length : m.body.length = 16) :
    exec .injectTelegram s =
      .next (queueMessage (replyMessage m (injectTelegramOwner m.body (s.asking rest)).2)
        (injectTelegramOwner m.body (s.asking rest)).1) := by
  have row := takeFixed_run takes 0x0F 16 injectTelegramOwner kind
  rw [withLength, if_pos length] at row
  exact row

/-- A message that names an approach hands its slot to the intake, and the handling is the reply. -/
theorem injectTelegramOwner_handled {a : Octet} {x : Approach} (names : approachOf a = some x) (os : List Octet)
    (s : State) :
    injectTelegramOwner (a :: os) s =
      ((takeSlot .cabinet x os s).1, .ok [octet (takeSlot .cabinet x os s).2.code]) := by
  have approach : approachOf (bodyOctet (a :: os) 0) = some x := names
  rw [injectTelegramOwner, approach]
  rfl

theorem injectTelegramOwner_outside {a : Octet} (outside : approachOf a = none) (os : List Octet) (s : State) :
    injectTelegramOwner (a :: os) s = (s, .bare .badValue) := by
  have approach : approachOf (bodyOctet (a :: os) 0) = none := outside
  rw [injectTelegramOwner, approach]

/-- A reply queued after an owner that did no more than latch, beside what it did to `base`: taking the message and
queueing the reply commute with that. -/
theorem answered_of_sameButNotices {v base : State} {rest : List AskedMessage}
    (same : v.sameButNotices (base.asking rest)) (m : AskedMessage) (r : Reply) :
    ∃ u : State, queueMessage (replyMessage m r) v = u.answered m rest r.code.code r.data ∧ u.sameButNotices base := by
  obtain ⟨latches, out, dropped, rfl, notices, kept⟩ := same
  exact ⟨{ base with
      notices := { base.notices with latches := latches },
      link := { base.link with outbound := base.link.outbound ++ out, noticesDropped := dropped } },
    rfl, latches, out, dropped, rfl, notices, kept⟩

/-- What an injection comes to, by what the intake does with the slot. -/
theorem exec_injectTelegram_handled {m : AskedMessage} {rest : List AskedMessage} {a : Octet} {x : Approach}
    {os : List Octet} {s v base : State} {h : Handling} (takes : s.takes m rest) (kind : m.kind = 15)
    (body : m.body = a :: os) (length : os.length = 15) (names : approachOf a = some x)
    (handled : takeSlot .cabinet x os (s.asking rest) = (v, h)) (same : v.sameButNotices (base.asking rest)) :
    ∃ u : State, exec .injectTelegram s = .next (u.answered m rest 0 [octet h.code]) ∧ u.sameButNotices base := by
  obtain ⟨u, answered, sameAs⟩ := answered_of_sameButNotices same m (.ok [octet h.code])
  refine ⟨u, ?_, sameAs⟩
  rw [exec_injectTelegram takes kind (by simp [body, length]), body, injectTelegramOwner_handled names, handled]
  exact congrArg _ answered

/-- An injected telegram by the mode and the room of the cabinet's queue (R3, R4, R144). -/
theorem exec_injectTelegram_telegram {m : AskedMessage} {rest : List AskedMessage} {a : Octet} {x : Approach}
    {os : List Octet} {s : State} {t : Telegram} (takes : s.takes m rest) (kind : m.kind = 15)
    (body : m.body = a :: os) (length : os.length = 15) (names : approachOf a = some x)
    (reading : readSlot .cabinet x os = .telegram t) :
    (s.mode = .standby →
      ∃ u : State, exec .injectTelegram s = .next (u.answered m rest 0 [3]) ∧
        u.sameButNotices { s with stats := s.counted .telegramDiscard 2 (some .cabinet) }) ∧
    (s.mode ≠ .standby → 8 ≤ s.intake.queues.cabinet.length →
      ∃ u : State, exec .injectTelegram s = .next (u.answered m rest 0 [4]) ∧
        u.sameButNotices { s with stats := s.counted .telegramDiscard 3 (some .cabinet) }) ∧
    (s.mode ≠ .standby → s.intake.queues.cabinet.length < 8 →
      ∃ u : State, exec .injectTelegram s = .next (u.answered m rest 0 [0]) ∧
        u.sameButNotices { s with
          intake := { s.intake with queues := { s.intake.queues with
            cabinet := s.intake.queues.cabinet ++ [t] } },
          stats := s.counted .telegramIn t.kind.index (some .cabinet) }) := by
  have taken := takeSlot_cabinet_telegram reading (s.asking rest)
  refine ⟨fun standby => ?_, fun running many => ?_, fun running few => ?_⟩
  · exact exec_injectTelegram_handled takes kind body length names (taken.trans (if_pos standby))
      (countDiscard_sameBut .notRunning .cabinet (s.asking rest))
  · exact exec_injectTelegram_handled takes kind body length names
      (taken.trans ((if_neg running).trans (if_pos many)))
      (countDiscard_sameBut .intakeFull .cabinet (s.asking rest))
  · exact exec_injectTelegram_handled takes kind body length names
      (taken.trans ((if_neg running).trans (if_neg (Nat.not_le.2 few))))
      (countEvent_sameBut .telegramIn t.kind.index (some .cabinet) _)

/-- Settles O40: the owner's answer is the handling of the slot, case by case of its reading; the last clause is what a
slot is read as. -/
theorem injectTelegramReportsHandling : Obligations.InjectTelegramReportsHandling := by
  unfold Obligations.InjectTelegramReportsHandling
  intro m rest a os s takes kind body length
  refine ⟨fun outside => ?_, fun x code => ?_, ?_⟩
  · rw [exec_injectTelegram takes kind (by simp [body, length]), body,
      injectTelegramOwner_outside (approachOf_outside outside)]
    rfl
  · have names := approachOf_index code
    refine ⟨fun empty => ?_, fun malformed => ?_, fun t reading => ?_⟩
    · rw [exec_injectTelegram takes kind (by simp [body, length]), body, injectTelegramOwner_handled names,
        takeSlot_cabinet_empty empty]
      rfl
    · exact exec_injectTelegram_handled takes kind body length names
        (takeSlot_cabinet_malformed malformed (s.asking rest))
        (countDiscard_sameBut .malformed .cabinet (s.asking rest))
    · obtain ⟨standby, full, room⟩ := exec_injectTelegram_telegram takes kind body length names reading
      obtain ⟨source, approach⟩ := readSlot_origin reading
      exact ⟨standby, full, fun running few =>
        let ⟨u, next, same⟩ := room running few
        ⟨u, next, source, approach, same⟩⟩
  · rintro src x k b1 b0 q r1 r0 d1 d0 speed dwell l1 l0 load strength age rfl
    let slot : List Octet := [k, b1, b0, q, r1, r0, d1, d0, speed, dwell, l1, l0, load, strength, age]
    refine ⟨fun zero => readSlot_empty (os := slot) (beq_iff_eq.2 zero) src x,
      fun nonzero bad => readSlot_malformed (os := slot) nonzero bad src x,
      fun nonzero good => ⟨_, readSlot_telegram (os := slot) nonzero good src x, rfl, rfl, rfl, number_pair b1 b0, rfl,
        fun reads => slotTelegram_movement (os := slot) good reads src x _, rfl, rfl, slotTelegram_route src x _ slot,
        slotTelegram_distance src x _ slot, rfl, rfl, slotTelegram_lateness src x _ slot, rfl, rfl⟩⟩

end Sys2Proof.Machine
end

section
/-! SUPPORT. READ_OUTCOMES and READ_COUNTERS (R160, R164): the reply of a row of fixed length, the octets of an
outcome record against the fields of Table 10-9, and what each of the two owners answers. -/

namespace Sys2Proof.Machine

/-! ### The reply of a row of fixed length (R137) -/

/-- A row of fixed length whose owner takes the state to `base`, the message being out of its queue, answers with `base`
and the owner's reply. -/
theorem takeFixed_answered {s base : State} {m : AskedMessage} {rest : List AskedMessage} {kind : Octet} {n : Nat}
    {os : List Octet} {owner : List Octet → State → State × Reply} {r : Reply} (takes : s.takes m rest)
    (named : m.kind = kind) (body : m.body = os) (length : os.length = n)
    (owned : owner os (s.asking rest) = (base.asking rest, r)) :
    whenRunning s (takeFixed kind n owner) = .next (base.answered m rest r.code.code r.data) := by
  have judged : withLength n owner m (s.onLink fun k => { k with asked := rest }) = (base.asking rest, r) := by
    rw [withLength, body, if_pos length]
    exact owned
  rw [takeFixed_run takes kind n owner named, judged]
  exact congrArg _ (queueReply_answered base m rest r)

/-! ### Fields laid out one after another (Tables 10-7 to 10-9) -/

theorem laidOut_octet (v : Nat) (fields : List (Nat × Nat)) :
    laidOut ((1, v) :: fields) = octet v :: laidOut fields := by
  simp [laidOut, octet]

theorem laidOut_octets2 (v : Nat) (fields : List (Nat × Nat)) :
    laidOut ((2, v) :: fields) = octets2 v ++ laidOut fields := by
  simp [laidOut, octets2, octet, List.range_succ]

theorem laidOut_octets4 (v : Nat) (fields : List (Nat × Nat)) :
    laidOut ((4, v) :: fields) = octets4 v ++ laidOut fields := by
  simp [laidOut, octets4, octet, List.range_succ]

/-- The 27 octets of a record are the fields of Table 10-9, laid out. -/
theorem OutcomeRecord.octets_eq_laidOut (r : OutcomeRecord) : r.octets = laidOut r.fields := by
  simp only [OutcomeRecord.fields, laidOut_octet, laidOut_octets2, laidOut_octets4]
  rfl

/-! ### READ_OUTCOMES (R160) -/

/-- The state with the oldest `n` outcome records, or all when fewer stand, out of the buffer. -/
def State.withoutOldest (s : State) (n : Nat) : State :=
  { s with outcomes := { s.outcomes with records := s.outcomes.records.drop n } }

theorem readOutcomesOwner_outside {n : Octet} (outside : n.toNat = 0 ∨ 8 < n.toNat) (s : State) :
    readOutcomesOwner [n] s = (s, .bare .badValue) :=
  if_pos outside

/-- A count of 1 to 8 takes the oldest records from the buffer into the reply. -/
theorem readOutcomesOwner_gives {n : Octet} (positive : 1 ≤ n.toNat) (small : n.toNat ≤ 8) (s : State) :
    readOutcomesOwner [n] s =
      (s.withoutOldest n.toNat,
       .ok (octet (s.outcomes.records.length - n.toNat) :: octets2 s.outcomes.lost ++
        octet (min n.toNat s.outcomes.records.length) ::
          (s.outcomes.records.take n.toNat).flatMap fun r => laidOut r.fields)) := by
  have inside : ¬(n.toNat = 0 ∨ 8 < n.toNat) := by omega
  rw [← List.length_drop, ← List.length_take, ← funext OutcomeRecord.octets_eq_laidOut]
  exact if_neg inside

/-- Settles O35: the owner's two branches, each answered as a row of one octet. -/
theorem readOutcomesRemovesOldest : Obligations.ReadOutcomesRemovesOldest := by
  unfold Obligations.ReadOutcomesRemovesOldest
  intro m rest n s takes kind body
  refine ⟨fun outside => ?_, fun positive small => ?_⟩
  · exact takeFixed_answered takes kind body rfl (readOutcomesOwner_outside outside (s.asking rest))
  · exact takeFixed_answered (base := s.withoutOldest n.toNat) takes kind body rfl
      (readOutcomesOwner_gives positive small (s.asking rest))

/-! ### READ_COUNTERS (R164) -/

/-- An octet above 1 is no flag (R169). -/
theorem readFlag_outside {o : Octet} (outside : 1 < o.toNat) : readFlag o = none := by
  have notClear : o ≠ 0 := fun zero => by subst zero; exact absurd outside (by decide)
  have notSet : o ≠ 1 := fun one => by subst one; exact absurd outside (by decide)
  rw [readFlag, if_neg notClear, if_neg notSet]

theorem readCountersOwner_outside {clear : Octet} (outside : 1 < clear.toNat) (s : State) :
    readCountersOwner [clear] s = (s, .bare .badValue) := by
  have flagless : readFlag (bodyOctet [clear] 0) = none := readFlag_outside outside
  rw [readCountersOwner, flagless]

/-- The octets of the counters' readings, each one's value before its programming (R164). -/
def countersRead (counters : List Counter) : List Octet :=
  counters.flatMap fun c => octets4 c.value ++ octet (eventCode c.event) ::
    octets2 c.subMask.toNat ++ [octet c.sourceMask.toNat]

/-- The state with the value of every counter at 0. -/
def State.countersCleared (s : State) : State :=
  { s with stats := { s.stats with counters := s.stats.counters.map fun c => { c with value := 0 } } }

theorem readCountersOwner_reads (s : State) : readCountersOwner [0] s = (s, .ok (countersRead s.stats.counters)) :=
  rfl

/-- The reading is of the counters as they stand before the clearing. -/
theorem readCountersOwner_clears (s : State) :
    readCountersOwner [1] s = (s.countersCleared, .ok (countersRead s.stats.counters)) :=
  rfl

/-- Settles O37: the owner's answer to each value of the flag octet, as a row of one octet. -/
theorem readCountersReadsAndClears : Obligations.ReadCountersReadsAndClears := by
  unfold Obligations.ReadCountersReadsAndClears
  intro m rest clear s takes kind body
  refine ⟨fun outside => ?_, fun zero => ?_, fun one => ?_⟩
  · exact takeFixed_answered takes kind body rfl (readCountersOwner_outside outside (s.asking rest))
  · subst zero
    exact takeFixed_answered takes kind body rfl (readCountersOwner_reads (s.asking rest))
  · subst one
    exact takeFixed_answered (base := s.countersCleared) takes kind body rfl (readCountersOwner_clears (s.asking rest))

end Sys2Proof.Machine
end

section
/-! SUPPORT. What a command does, as a function of the state, and what a step does: the shape every statement about all
commands, or about all steps, is proved in. -/

namespace Sys2Proof.Machine

/-! ### Commands as functions of the state -/

/-- The commands that act while RSTn is low too (R171, log entry 7). -/
def Instr.always : Instr → Bool
  | .powerOnReset _ => true
  | .rstnLow => true
  | _ => false

/-- What a command does to a part that is out of reset. -/
def effect : Instr → State → State
  | .powerOnReset straps => powerOn straps
  | .framingFault => fun s => s.onLink abandonFrame
  | .frameGapTimeout => fun s => s.onLink abandonFrame
  | .cabinetCrc => discardBadFrame
  | .askedMessageArrival => askedMessageArrival
  | .unknownKind => unknownKind
  | .phaseStatus => takeReceived (fun f => framePasses f && frameKind f == 0x20) fun f => statusArrives (frameBody f)
  | .commandAnswer => takeReceived (fun f => framePasses f && frameKind f == 0x21) fun f => commandAnswered (frameBody f)
  | .configure => takeAsked (fun m => m.kind == 0x01) configureOwner
  | .readConfig => takeFixed 0x02 2 readConfigOwner
  | .setModeStandby => setMode .standby
  | .setModeMonitor => setMode .monitor
  | .setModeRun => setMode .run
  | .readStatus => takeFixed 0x04 0 readStatusOwner
  | .listRequests => takeFixed 0x05 2 listRequestsOwner
  | .readRequest => takeFixed 0x06 2 readRequestOwner
  | .cancelRequest => takeFixed 0x07 2 cancelRequestOwner
  | .readOutcomes => takeFixed 0x08 1 readOutcomesOwner
  | .programCounter => takeFixed 0x09 5 programCounterOwner
  | .readCounters => takeFixed 0x0A 1 readCountersOwner
  | .readSummary => takeFixed 0x0B 0 readSummaryOwner
  | .setNoticeMask => takeFixed 0x0C 23 setNoticeMaskOwner
  | .clearNotices => takeAsked (fun m => m.kind == 0x0D) clearNoticesOwner
  | .linkControl => takeFixed 0x0E 4 linkControlOwner
  | .injectTelegram => takeFixed 0x0F 16 injectTelegramOwner
  | .restart => askRestart .restart
  | .factory => askRestart .factory
  | .restartTakesEffect => finalReplySent .restart
  | .factoryTakesEffect => finalReplySent .factory
  | .outboundFrameSent => frameSent
  | .commandTransmitted => takeReport
  | .checkIn => takeTelegram .checkIn
  | .position => takeTelegram .position
  | .checkOut => takeTelegram .checkOut
  | .withdraw => takeTelegram .withdraw
  | .entryExpiry bus => expireEntry bus
  | .cacheAgeOut bus => ageOutCache bus
  | .planningPass => planningPass
  | .reviewTimer => reviewExpires
  | .answerTimeout => answerTimeout
  | .lostTagForget => forgetLost
  | .armLimit => armLimitDue
  | .staleTimer => staleExpires
  | .tableOccupancy => feedOccupancy
  | .candidateMarker x bits => candidateMarker x bits
  | .confirmTest x bits => confirmTest x bits
  | .frameSlot x bits => frameSlot x bits
  | .localFrameRead x => localFrameRead x
  | .centringTimeout x => centringTimeout x
  | .consecutiveRepeatLimit x => consecutiveRepeatLimit x
  | .returnFrame x => returnFrame x
  | .rstnLow => fun s => { s with held := true }
  | .octetReceived o => fun s => s.onLink (takeCharacter (lineForm o))

/-- The state a command leaves: its effect, or, while RSTn is low and the command waits for its rise, the same state. -/
def State.ran (s : State) (c : Instr) : State := if !Instr.always c && s.held then s else effect c s

/-- Every command answers a next state. -/
theorem exec_eq_ran (c : Instr) (s : State) : exec c s = .next (s.ran c) := by cases c <;> rfl

theorem State.ran_running {s : State} (running : s.held = false) (c : Instr) : s.ran c = effect c s := by
  simp [State.ran, running]

theorem exec_running {s : State} (running : s.held = false) (c : Instr) : exec c s = .next (effect c s) := by
  rw [exec_eq_ran, State.ran_running running]

theorem State.ran_held {s : State} (held : s.held = true) {c : Instr} (waits : Instr.always c = false) : s.ran c = s := by
  simp [State.ran, held, waits]

/-! ### Steps -/

/-- Every step answers a next state: the front command's, run on the rest of the queue, or the idle step's. -/
theorem step_eq (s : State) :
    step s = .next (match s.pending with | [] => idle s | c :: rest => State.ran { s with pending := rest } c) := by
  unfold step
  cases s.pending with
  | nil => rfl
  | cons c rest => exact exec_eq_ran c _

/-- The idle step moves part time, or only the commands that wait and the count of free choices. -/
theorem idle_cases (s : State) :
    idle s = tick s ∨ ∃ pending choices, idle s = { s with pending := pending, choices := choices } := by
  unfold idle
  split
  · exact .inr ⟨s.pending, s.choices, rfl⟩
  · split
    · exact .inl rfl
    · exact .inr ⟨_, _, rfl⟩

/-- What is to be shown of a property that every step keeps: neither part time nor the waiting commands matter to it, and
every effect keeps it. -/
structure StepKept (P : State → Prop) : Prop where
  waiting : ∀ pending choices s, P s → P { s with pending := pending, choices := choices }
  tick : ∀ s, P s → P (tick s)
  effect : ∀ c s, P s → P (effect c s)

theorem StepKept.step {P : State → Prop} (kept : StepKept P) {s t : State} (next : step s = .next t) (h : P s) : P t := by
  rw [step_eq] at next
  cases next
  split
  · rcases idle_cases s with hi | ⟨pending, choices, hi⟩ <;> rw [hi]
    · exact kept.tick s h
    · exact kept.waiting pending choices s h
  · next c rest _ =>
    have h' : P { s with pending := rest } := kept.waiting rest s.choices s h
    unfold State.ran
    split
    · exact h'
    · exact kept.effect c _ h'

end Sys2Proof.Machine
end

section
/-! SUPPORT. Changes of the reporting blocks: outcome buffer, statistics, notices and link, with everything else left
standing and every tally kept within its limit (R139, R159, R161, R165). -/

namespace Sys2Proof.Machine

/-! ### Limits of the tallies -/

/-- The tallies of the link port are within 16 bits (R139). -/
abbrev Link.Within (k : Link) : Prop := k.crcErrors ≤ 65535 ∧ k.overruns ≤ 65535 ∧ k.noticesDropped ≤ 65535

/-- The fixed totals are within 32 bits (R165). -/
abbrev Totals.Within (t : Totals) : Prop :=
  t.sent ≤ 4294967295 ∧ t.accepted ≤ 4294967295 ∧ t.answeredPartly ≤ 4294967295 ∧ t.refused ≤ 4294967295 ∧
    t.lost ≤ 4294967295

/-- Eight counters, each within 32 bits (R161). -/
abbrev countersWithin (cs : List Counter) : Prop := cs.length = 8 ∧ ∀ c ∈ cs, c.value ≤ 4294967295

/-- The outcome buffer holds at most 64 records and a lost count of 16 bits (R159). -/
abbrev OutcomeBuffer.Within (b : OutcomeBuffer) : Prop := b.records.length ≤ 64 ∧ b.lost ≤ 65535

theorem State.reportsSound_iff (s : State) :
    s.ReportsSound ↔
      s.outcomes.Within ∧ countersWithin s.stats.counters ∧ s.link.Within ∧ s.stats.totals.Within := by
  simp only [State.ReportsSound, OutcomeBuffer.Within, Link.Within, Totals.Within, countersWithin]
  tauto

theorem tally16_le (n : Nat) : tally16 n ≤ 65535 := Nat.min_le_left _ _

theorem tally32_le (n : Nat) : tally32 n ≤ 4294967295 := Nat.min_le_left _ _

/-! ### The relation -/

/-- `t` is `s` but for the reporting blocks, whose tallies stay within their limits. -/
structure State.reportedFrom (t s : State) : Prop where
  frame : t = { s with outcomes := t.outcomes, stats := t.stats, notices := t.notices, link := t.link }
  within : s.ReportsSound → t.ReportsSound

namespace State.reportedFrom

protected theorem refl (s : State) : s.reportedFrom s := ⟨rfl, id⟩

protected theorem trans {r t s : State} (h : r.reportedFrom t) (h' : t.reportedFrom s) : r.reportedFrom s := by
  refine ⟨?_, h.within ∘ h'.within⟩
  rw [h.frame, h'.frame]

section
variable {t s : State} (h : t.reportedFrom s)
include h

theorem mode : t.mode = s.mode := by rw [h.frame]
theorem config : t.config = s.config := by rw [h.frame]
theorem intake : t.intake = s.intake := by rw [h.frame]
theorem table : t.table = s.table := by rw [h.frame]
theorem planner : t.planner = s.planner := by rw [h.frame]
theorem model : t.model = s.model := by rw [h.frame]
theorem ports : t.ports = s.ports := by rw [h.frame]
theorem cache : t.cache = s.cache := by rw [h.frame]
theorem admissions : t.admissions = s.admissions := by rw [h.frame]
theorem pending : t.pending = s.pending := by rw [h.frame]
theorem now : t.now = s.now := by rw [h.frame]
theorem held : t.held = s.held := by rw [h.frame]
end

end State.reportedFrom

/-- `t` is `s` but for the reporting blocks, and no message came to the link or left it but for notices that joined the
outbound queue while fewer than 10 messages stood there (R138). -/
structure State.toldFrom (t s : State) : Prop where
  reported : t.reportedFrom s
  asked : t.link.asked = s.link.asked
  joined : ∃ out, t.link.outbound = s.link.outbound ++ out ∧ ∀ m ∈ out, m.kind = .notice
  room : countKind .notice s.link.outbound ≤ 10 → countKind .notice t.link.outbound ≤ 10

namespace State.toldFrom

/-- A change of the reporting blocks in which the two queues of the link stay. -/
theorem of_queues {t s : State} (reported : t.reportedFrom s) (asked : t.link.asked = s.link.asked)
    (outbound : t.link.outbound = s.link.outbound) : t.toldFrom s :=
  ⟨reported, asked, ⟨[], by simp [outbound]⟩, by rw [outbound]; exact id⟩

protected theorem refl (s : State) : s.toldFrom s := of_queues (.refl s) rfl rfl

protected theorem trans {r t s : State} (h : r.toldFrom t) (h' : t.toldFrom s) : r.toldFrom s := by
  obtain ⟨out, behind, notices⟩ := h.joined
  obtain ⟨out', behind', notices'⟩ := h'.joined
  refine ⟨h.reported.trans h'.reported, h.asked.trans h'.asked, ⟨out' ++ out, ?_, ?_⟩, h.room ∘ h'.room⟩
  · rw [behind, behind', List.append_assoc]
  · intro m hm
    rcases List.mem_append.1 hm with hm | hm
    · exact notices' m hm
    · exact notices m hm

end State.toldFrom

/-! ### The operations -/

theorem State.onLink_reported {f : Link → Link} {s : State} (within : s.link.Within → (f s.link).Within) :
    (s.onLink f).reportedFrom s := by
  refine ⟨rfl, fun h => ?_⟩
  rw [State.reportsSound_iff] at h ⊢
  exact ⟨h.1, h.2.1, within h.2.2.1, h.2.2.2⟩

theorem State.onLink_told {f : Link → Link} {s : State} (within : s.link.Within → (f s.link).Within)
    (asked : (f s.link).asked = s.link.asked) (outbound : (f s.link).outbound = s.link.outbound) :
    (s.onLink f).toldFrom s := .of_queues (State.onLink_reported within) asked outbound

theorem State.onTotals_told {f : Totals → Totals} {s : State} (within : s.stats.totals.Within → (f s.stats.totals).Within) :
    (s.onTotals f).toldFrom s := by
  refine .of_queues ⟨rfl, fun h => ?_⟩ rfl rfl
  rw [State.reportsSound_iff] at h ⊢
  exact ⟨h.1, h.2.1, h.2.2.1, within h.2.2.2⟩

theorem State.counters_told {cs : List Counter} {s : State}
    (within : countersWithin s.stats.counters → countersWithin cs) :
    State.toldFrom { s with stats := { s.stats with counters := cs } } s := by
  refine .of_queues ⟨rfl, fun h => ?_⟩ rfl rfl
  rw [State.reportsSound_iff] at h ⊢
  exact ⟨h.1, within h.2.1, h.2.2⟩

theorem State.outcomes_told {b : OutcomeBuffer} {s : State} (within : s.outcomes.Within → b.Within) :
    State.toldFrom { s with outcomes := b } s := by
  refine .of_queues ⟨rfl, fun h => ?_⟩ rfl rfl
  rw [State.reportsSound_iff] at h ⊢
  exact ⟨within h.1, h.2⟩

theorem State.notices_told (n : NoticeUnit) (s : State) : State.toldFrom { s with notices := n } s :=
  .of_queues ⟨rfl, id⟩ rfl rfl

theorem queueMessage_reported (m : OutMessage) (s : State) : (queueMessage m s).reportedFrom s :=
  State.onLink_reported id

theorem countKind_le_length (k : OutKind) (l : List OutMessage) : countKind k l ≤ l.length := List.length_filter_le _ _

theorem countKind_append (k : OutKind) (l l' : List OutMessage) : countKind k (l ++ l') = countKind k l + countKind k l' := by
  simp [countKind]

/-- The NOTICE of a latch, as it is offered (Table 10-5). -/
def noticeOf (l : Latch) (detail : Nat) (s : State) : OutMessage :=
  { kind := .notice, tag := 0, body := [octet l.kindCode, octet l.approachOctet, octet detail] ++ octets4 s.now.toNat,
    final := false }

theorem offerNotice_told (l : Latch) (d : Nat) (s : State) : (offerNotice l d s).toldFrom s := by
  unfold offerNotice
  split
  · next few =>
    refine ⟨queueMessage_reported _ s, rfl, ⟨_, rfl, by simp⟩, fun _ => ?_⟩
    have most := countKind_le_length .notice s.link.outbound
    show countKind .notice (s.link.outbound ++ [noticeOf l d s]) ≤ 10
    rw [countKind_append]
    have one := countKind_le_length .notice [noticeOf l d s]
    exact Nat.le_of_lt_succ (by rw [List.length_singleton] at one; omega)
  · exact State.onLink_told (fun h => ⟨h.1, h.2.1, tally16_le _⟩) rfl rfl

theorem latchNotice_told (l : Latch) (d : Nat) (s : State) : (latchNotice l d s).toldFrom s := by
  unfold latchNotice
  split
  · exact .refl s
  · dsimp only
    split
    · exact (offerNotice_told l d _).trans (State.notices_told _ s)
    · exact State.notices_told _ s

theorem foldl_told {β : Type} {f : State → β → State} (each : ∀ s b, (f s b).toldFrom s) :
    ∀ (l : List β) (s : State), (l.foldl f s).toldFrom s
  | [], s => .refl s
  | b :: l, s => (foldl_told each l (f s b)).trans (each s b)

theorem addToCounters_told (f : Counter → Nat) (s : State) : (addToCounters f s).toldFrom s := by
  unfold addToCounters
  refine (foldl_told (fun st i => latchNotice_told .counterSaturated i st) _ _).trans
    (State.counters_told fun h => ⟨by simpa using h.1, ?_⟩)
  simp only [List.mem_map, Counter.add]
  rintro _ ⟨c, -, rfl⟩
  exact Nat.min_le_left _ _

theorem countEvent_told (ev : EventKind) (sub : Nat) (src : Option Source) (s : State) :
    (countEvent ev sub src s).toldFrom s := addToCounters_told _ s

theorem countDiscard_told (why : Discard) (src : Source) (s : State) : (countDiscard why src s).toldFrom s :=
  countEvent_told _ _ _ s

theorem countAnswer_told (ev : AnswerEvent) (x : Option Approach) (s : State) :
    (countAnswer ev x s).toldFrom s := countEvent_told _ _ _ s

theorem outcomeArrives_told (r : OutcomeRecord) (s : State) : (outcomeArrives r s).toldFrom s := by
  unfold outcomeArrives
  dsimp only
  split
  · next room =>
    have joined : State.toldFrom
        { s with outcomes := { s.outcomes with records := s.outcomes.records ++ [r] } } s :=
      State.outcomes_told fun h => ⟨by simp; omega, h.2⟩
    split
    · exact (latchNotice_told _ _ _).trans joined
    · exact joined
  · refine (latchNotice_told _ _ _).trans (State.outcomes_told fun h => ⟨?_, tally16_le _⟩)
    obtain ⟨full, -⟩ := h
    cases s.config.general.outcomeMode
    · exact full
    · simp only [List.length_append, List.length_tail, List.length_singleton]; omega

end Sys2Proof.Machine
end

section
/-! SUPPORT. A property that the small operations of the command exchange keep is kept by every operation built from
them: sending, answers, late answers, timeouts, the life of grants, and the body of a planning pass. -/

namespace Sys2Proof.Machine

/-! ### Entries stay sound (R13, R78, R79) -/

/-- A rewriting of entries that keeps the bus, and the agreement of state, reason and indication. -/
structure KeepsEntry (f : Entry → Entry) : Prop where
  bus : ∀ e, (f e).bus = e.bus
  sound : ∀ e, e.Sound → (f e).Sound

theorem Entry.place_sound {e : Entry} {st : EntryState} {why : Option WaitReason} (sound : e.Sound)
    (agree : why.isSome = true ↔ st = .waiting) : (e.place st why).Sound := ⟨agree, rfl, sound.2.2⟩

theorem keepsEntry_id : KeepsEntry fun e => e := ⟨fun _ => rfl, fun _ h => h⟩

theorem keepsEntry_ite {f g : Entry → Entry} {p : Entry → Prop} [DecidablePred p] (hf : KeepsEntry f)
    (hg : KeepsEntry g) : KeepsEntry fun e => if p e then f e else g e := by
  constructor
  · intro e
    split
    · exact hf.bus e
    · exact hg.bus e
  · intro e h
    split
    · exact hf.sound e h
    · exact hg.sound e h

/-- A rewriting that places the entry and then writes fields beside bus, state, reason, indication and ring. -/
theorem keepsEntry_place {st : EntryState} {why : Option WaitReason} (agree : why.isSome = true ↔ st = .waiting)
    {f : Entry → Entry} (bus : ∀ e, (f e).bus = e.bus) (state : ∀ e, (f e).state = st) (reason : ∀ e, (f e).reason = why)
    (indication : ∀ e, (f e).indication = indicationOf st (f e).est.eligibility) (ring : ∀ e, (f e).ring = e.ring) :
    KeepsEntry f := by
  refine ⟨bus, fun e h => ⟨?_, ?_, ?_⟩⟩
  · rw [reason, state]; exact agree
  · rw [indication, state]
  · rw [ring]; exact h.2.2

theorem keepsEntry_spend (now : PartTime) (ran : Bool) : KeepsEntry (Entry.spend now ran) :=
  keepsEntry_place (st := .spent) (why := none) (by simp) (fun _ => rfl) (fun _ => rfl) (fun _ => rfl) (fun _ => rfl)
    fun _ => rfl

theorem keepsEntry_join (role : Role) (n : Nat) (shadow : Bool) : KeepsEntry (Entry.join role n shadow) :=
  keepsEntry_place (st := .granted) (why := none) (by simp) (fun _ => rfl) (fun _ => rfl) (fun _ => rfl) (fun _ => rfl)
    fun _ => rfl

theorem keepsEntry_adopt (m : LostTag) (n : Nat) : KeepsEntry (Entry.adopt m n) :=
  keepsEntry_place (st := .granted) (why := none) (by simp) (fun _ => rfl) (fun _ => rfl) (fun _ => rfl) (fun _ => rfl)
    fun _ => rfl

theorem keepsEntry_command (act : Action) (n : Nat) (now : PartTime) : KeepsEntry (Entry.command act n now) :=
  keepsEntry_place (st := .commanded) (why := none) (by simp) (fun _ => rfl) (fun _ => rfl) (fun _ => rfl) (fun _ => rfl)
    fun _ => rfl

theorem keepsEntry_waits (why : WaitReason) : KeepsEntry fun e => e.place .waiting (some why) :=
  keepsEntry_place (st := .waiting) (why := some why) (by simp) (fun _ => rfl) (fun _ => rfl) (fun _ => rfl)
    (fun _ => rfl) fun _ => rfl

theorem keepsEntry_waitsApplied (why : WaitReason) (n : Nat) :
    KeepsEntry fun e => { e.place .waiting (some why) with applied := some n } :=
  keepsEntry_place (st := .waiting) (why := some why) (by simp) (fun _ => rfl) (fun _ => rfl) (fun _ => rfl)
    (fun _ => rfl) fun _ => rfl

theorem keepsEntry_refuse (firm : Bool) (most : Nat) : KeepsEntry (Entry.refuse firm most) := by
  constructor <;> intro e <;> unfold Entry.refuse <;> dsimp only
  · split
    · rfl
    · split <;> rfl
  · intro h
    split
    · exact Entry.place_sound (e := { e with attempts := e.attempts + 1 }) h (by simp)
    · split
      · exact Entry.place_sound (e := { e with attempts := e.attempts + 1 }) h (by simp)
      · exact Entry.place_sound (e := { e with attempts := e.attempts + 1 }) h (by simp)

theorem Entry.placeByEstimate_bus (e : Entry) : e.placeByEstimate.bus = e.bus := by
  unfold Entry.placeByEstimate
  split
  · rfl
  · split
    · rfl
    · split <;> rfl

/-- Every branch of the placement places anew, but the one that keeps a COVERED or WAITING entry, whose indication does
not rest on the estimate (R10, R79). -/
theorem Entry.placeByEstimate_sound {e : Entry} (agree : e.reason.isSome = true ↔ e.state = .waiting)
    (ring : e.ring.length ≤ 8)
    (shows : e.state ≠ .far → e.state ≠ .watch → e.indication = indicationOf e.state e.est.eligibility) :
    e.placeByEstimate.Sound := by
  unfold Entry.placeByEstimate
  split
  · exact ⟨by simp, rfl, ring⟩
  · split
    · exact ⟨by simp, rfl, ring⟩
    · cases state : e.state <;> dsimp only
      case new | far | watch => exact ⟨by simp, rfl, ring⟩
      all_goals exact ⟨agree, shows (by simp [state]) (by simp [state]), ring⟩

/-- Only the indication of a WATCH entry rests on its eligibility (R79). -/
theorem indicationOf_eq {st : EntryState} (h : st ≠ .watch) (a b : Eligibility) : indicationOf st a = indicationOf st b := by
  cases st <;> first | rfl | exact absurd rfl h

/-- A sound entry whose estimate is replaced shows what its state asks for, but in WATCH. -/
theorem Entry.Sound.shows {e : Entry} (sound : e.Sound) (el : Eligibility) (h : e.state ≠ .watch) :
    e.indication = indicationOf e.state el := by
  obtain ⟨-, shown, -⟩ := sound
  rw [shown, indicationOf_eq h]

theorem Entry.placeAfterUpdate_bus (e : Entry) : e.placeAfterUpdate.bus = e.bus := by
  unfold Entry.placeAfterUpdate
  cases e.state <;> dsimp only
  case new =>
    split
    · rfl
    · exact e.placeByEstimate_bus
  all_goals first | rfl | exact e.placeByEstimate_bus

theorem Entry.placeAfterPass_bus (e : Entry) : e.placeAfterPass.bus = e.bus := by
  unfold Entry.placeAfterPass
  cases e.state <;> first | rfl | exact e.placeByEstimate_bus

theorem Entry.placeAfterUpdate_sound {e : Entry} (agree : e.reason.isSome = true ↔ e.state = .waiting)
    (ring : e.ring.length ≤ 8) (shows : e.state ≠ .watch → e.indication = indicationOf e.state e.est.eligibility) :
    e.placeAfterUpdate.Sound := by
  have placed : e.placeByEstimate.Sound := Entry.placeByEstimate_sound agree ring fun _ => shows
  unfold Entry.placeAfterUpdate
  cases state : e.state <;> dsimp only
  case new =>
    split
    · exact ⟨agree, shows (by simp [state]), ring⟩
    · exact placed
  all_goals first | exact placed | exact ⟨agree, shows (by simp [state]), ring⟩

theorem Entry.placeAfterPass_sound {e : Entry} (agree : e.reason.isSome = true ↔ e.state = .waiting)
    (ring : e.ring.length ≤ 8) (shows : e.state ≠ .watch → e.indication = indicationOf e.state e.est.eligibility) :
    e.placeAfterPass.Sound := by
  have placed : e.placeByEstimate.Sound := Entry.placeByEstimate_sound agree ring fun _ => shows
  unfold Entry.placeAfterPass
  cases state : e.state <;> dsimp only
  all_goals first | exact placed | exact ⟨agree, shows (by simp [state]), ring⟩

theorem keepsEntry_passEvaluation (s : State) : KeepsEntry fun e => (s.keepEvaluation e).placeAfterPass := by
  refine ⟨fun e => (s.keepEvaluation e).placeAfterPass_bus, fun e h => ?_⟩
  obtain ⟨agree, shown, ring⟩ := h
  exact Entry.placeAfterPass_sound (e := s.keepEvaluation e) agree ring fun _ => shown

/-! ### The properties in question -/

/-- What a rewriting of the planner leaves that also moves tokens and the ledger. -/
def Planner.timers (p : Planner) : Option PartTime × Bool × Bool × Bool := (p.review, p.passDue, p.passMark, p.passRunning)

/-- A command in the slot without its answer due time. -/
def Slot.undated (c : Slot) : Slot := { c with due := none }

/-- A rewriting of the planner brings no pass and no command, and a grant or a lost tag only of a phase in `N` or of one
that the grant, or the lost tag, names already. -/
structure PlannerStep (N : Nat → Prop) (p q : Planner) : Prop where
  timers : q.timers = p.timers
  slot : q.slot.map Slot.undated = p.slot.map Slot.undated
  grant : ∀ g, q.grant = some g → N g.phase ∨ ∃ g', p.grant = some g' ∧ g'.phase = g.phase
  lost : ∀ m, q.lost = some m → N m.phase ∨ p.lost = some m

/-- Changes of the reporting blocks by latching and counting keep a property. -/
structure ReportKept (P : State → Prop) : Prop where
  reports : ∀ {s t : State}, t.toldFrom s → P s → P t

/-- The small operations of the command exchange and of the planner keep a property. A command, a grant or a lost tag
that is new names a phase in `N`. -/
structure WorkKept (N : Nat → Prop) (P : State → Prop) : Prop extends ReportKept P where
  allowance : ∀ (f : Planner → Planner) (s : State), PlannerStep N s.planner (f s.planner) →
    (s.AllowanceSound → (s.onPlanner f).AllowanceSound) → P s → P (s.onPlanner f)
  rewritten : ∀ (f : Entry → Entry) (s : State), (∀ e, (f e).bus = e.bus) →
    (s.EntriesSound → ∀ e ∈ s.table, (f e).Sound) → P s → P { s with table := s.table.map f }
  emptySlot : ∀ s, P s → P (emptySlot s)
  sendCommand : ∀ c s, s.planner.slot = none → (c.action ≠ .revise → N c.phase) → P s → P (sendCommand c s)
  slotNamed : ∀ s c, s.planner.slot = some c → c.action ≠ .revise → P s → N c.phase
  lostNamed : ∀ s m, s.planner.lost = some m → P s → N m.phase
  projected : ∀ s a p adj w, s.trackedPlan = some (a, p) → w ∈ s.config.project p a s.now adj → P s → N w.phase

/-- Any change of the reporting blocks keeps a property. -/
structure WideKept (P : State → Prop) : Prop where
  reports : ∀ {s t : State}, t.reportedFrom s → P s → P t

theorem WideKept.report {P : State → Prop} (K : WideKept P) : ReportKept P := ⟨fun r h => K.reports r.reported h⟩

/-- Any change of the reporting blocks keeps a property, and so does any rewriting of the planner that leaves its timers
and keeps the allowance. -/
structure PlainKept (P : State → Prop) : Prop extends WideKept P where
  allowance : ∀ (f : Planner → Planner) (s : State), (f s.planner).timers = s.planner.timers →
    (s.AllowanceSound → (s.onPlanner f).AllowanceSound) → P s → P (s.onPlanner f)
  rewritten : ∀ (f : Entry → Entry) (s : State), (∀ e, (f e).bus = e.bus) →
    (s.EntriesSound → ∀ e ∈ s.table, (f e).Sound) → P s → P { s with table := s.table.map f }

/-- Every phase may be named. -/
abbrev anyPhase : Nat → Prop := fun _ => True

namespace ReportKept
variable {P : State → Prop} (K : ReportKept P)
include K

theorem latch (l : Latch) (d : Nat) (s : State) (h : P s) : P (latchNotice l d s) :=
  K.reports (latchNotice_told l d s) h

theorem answerCounted (ev : AnswerEvent) (x : Option Approach) (s : State) (h : P s) : P (countAnswer ev x s) :=
  K.reports (countAnswer_told ev x s) h

theorem totals {f : Totals → Totals} (within : ∀ t, t.Within → (f t).Within) (s : State) (h : P s) : P (s.onTotals f) :=
  K.reports (State.onTotals_told (within _)) h

theorem discarded (why : Discard) (src : Source) (s : State) (h : P s) : P (countDiscard why src s) :=
  K.reports (countDiscard_told why src s) h

theorem counted (ev : EventKind) (sub : Nat) (src : Option Source) (s : State) (h : P s) : P (countEvent ev sub src s) :=
  K.reports (countEvent_told ev sub src s) h

end ReportKept

namespace WorkKept
variable {N : Nat → Prop} {P : State → Prop} (K : WorkKept N P)
include K

/-! ### Parts of the planner and of the table -/

theorem entries {f : Entry → Entry} (s : State) (hf : KeepsEntry f) (h : P s) : P { s with table := s.table.map f } :=
  K.rewritten f s hf.bus (fun sound e he => hf.sound e (sound e he)) h

theorem planner {f : Planner → Planner} {s : State} (h : P s)
    (step : PlannerStep N s.planner (f s.planner) := by
      exact ⟨rfl, rfl, fun _ h => .inr ⟨_, h, rfl⟩, fun _ h => .inr h⟩)
    (tokens : (f s.planner).tokens = s.planner.tokens := by exact rfl)
    (ledger : (f s.planner).ledger = s.planner.ledger := by exact rfl) : P (s.onPlanner f) := by
  refine K.allowance f s step (fun sound => ?_) h
  simpa only [State.AllowanceSound, State.onPlanner_planner, State.onPlanner_config, tokens, ledger] using sound

/-- The grant is replaced, or the record is removed. -/
theorem grants {f : Planner → Planner} {s : State} (h : P s)
    (grant : ∀ g, (f s.planner).grant = some g → N g.phase ∨ ∃ g', s.planner.grant = some g' ∧ g'.phase = g.phase)
    (rest : f s.planner = { s.planner with grant := (f s.planner).grant, revise := (f s.planner).revise } := by
      exact rfl) : P (s.onPlanner f) := by
  refine K.planner h ⟨?_, ?_, grant, fun m hm => .inr ?_⟩ ?_ ?_
  · rw [rest]; rfl
  · rw [rest]
  · rw [rest] at hm; exact hm
  · rw [rest]
  · rw [rest]

theorem ledger {f : Ledger → Ledger} {s : State}
    (within : s.planner.ledger.committed ≤ s.planner.ledger.timeLimit →
      s.planner.ledger.leads ≤ s.planner.ledger.grantLimit →
      (f s.planner.ledger).committed ≤ (f s.planner.ledger).timeLimit ∧
        (f s.planner.ledger).leads ≤ (f s.planner.ledger).grantLimit) (h : P s) : P (s.onLedger f) :=
  K.allowance _ s ⟨rfl, rfl, fun _ h => .inr ⟨_, h, rfl⟩, fun _ h => .inr h⟩
    (fun ⟨tokens, time, leads⟩ => ⟨tokens, within time leads⟩) h

theorem convert (n : Nat) (s : State) (h : P s) : P (s.onLedger fun l => l.convert n) := by
  refine K.ledger (fun time leads => ?_) h
  unfold Ledger.convert
  split
  · exact ⟨(Nat.sub_le _ _).trans time, leads⟩
  · exact ⟨time, leads⟩

theorem release (s : State) (h : P s) : P (s.onLedger Ledger.release) := by
  refine K.ledger (fun time leads => ?_) h
  unfold Ledger.release
  split
  · refine ⟨(Nat.sub_le _ _).trans time, ?_⟩
    dsimp only
    split
    · exact (Nat.sub_le _ _).trans leads
    · exact leads
  · exact ⟨time, leads⟩

/-- A charge that the ledger has room for keeps it within its limits (R85, R86). -/
theorem charge {n : Nat} {role : Role} {s : State} (room : n ≤ s.planner.ledger.remaining)
    (lead : role = .lead → s.planner.ledger.leads < s.planner.ledger.grantLimit) (h : P s) :
    P (s.onLedger fun l => l.charge n role) := by
  refine K.ledger (fun time leads => ?_) h
  unfold Ledger.remaining at room
  unfold Ledger.charge
  refine ⟨by dsimp only; omega, ?_⟩
  dsimp only
  split
  · exact lead ‹_›
  · exact leads

theorem reserve {n : Nat} {role : Role} {s : State} (room : n ≤ s.planner.ledger.remaining)
    (lead : role = .lead → s.planner.ledger.leads < s.planner.ledger.grantLimit) (h : P s) :
    P (s.onLedger fun l => l.reserve n role) := by
  refine K.ledger (fun time leads => ?_) h
  unfold Ledger.remaining at room
  unfold Ledger.reserve
  refine ⟨by dsimp only; omega, ?_⟩
  dsimp only
  split
  · exact lead ‹_›
  · exact leads

theorem takeToken (x : Approach) (s : State) (h : P s) : P (takeToken x s) := by
  have taken : P (s.onPlanner fun p => { p with tokens := p.tokens.set x (s.planner.tokens.get x - 1) }) := by
    refine K.allowance _ s ⟨rfl, rfl, fun _ h => .inr ⟨_, h, rfl⟩, fun _ h => .inr h⟩
      (fun ⟨tokens, rest⟩ => ⟨fun y hy => ?_, rest⟩) h
    by_cases same : y = x
    · subst same
      simpa using (Nat.sub_le _ _).trans (tokens y hy)
    · simpa [PerApproach.get_set_other _ _ _ _ same] using tokens y hy
  unfold Machine.takeToken
  dsimp only
  split
  · exact K.latch _ _ _ taken
  · exact taken

theorem updateEntry {f : Entry → Entry} (bus : Nat) (hf : KeepsEntry f) (s : State) (h : P s) : P (updateEntry bus f s) :=
  K.entries s (keepsEntry_ite hf keepsEntry_id) h

theorem updateCommanded {f : Entry → Entry} (bus : Nat) (hf : KeepsEntry f) (s : State) (h : P s) :
    P (updateCommanded bus f s) :=
  K.updateEntry bus (keepsEntry_ite hf keepsEntry_id) s h

theorem onGrant {f : Grant → Grant} {s : State} (h : P s) (phase : ∀ g, (f g).phase = g.phase := by exact fun _ => rfl) :
    P (s.onGrant f) := by
  refine K.grants h fun g hg => .inr ?_
  obtain ⟨g', old, rfl⟩ := Option.map_eq_some_iff.1 hg
  exact ⟨g', old, (phase g').symm⟩

/-! ### The life of grants (R98 to R107) -/

theorem closeGrant (s : State) (h : P s) : P (closeGrant s) := by
  unfold Machine.closeGrant
  split
  · exact h
  · next g _ =>
    exact K.grants (K.entries s
      (keepsEntry_ite (p := fun e => g.members.contains e.bus = true) (keepsEntry_spend _ _) keepsEntry_id) h) nofun

theorem makePending (r : Revise) (s : State) (h : P s) : P (makePending r s) := K.planner h

theorem callRevise (g : Grant) (total : Nat) (s : State) (h : P s) : P (callRevise g total s) := by
  unfold Machine.callRevise
  split
  · split
    · exact K.closeGrant s h
    · exact K.onGrant h
  · exact K.makePending _ s h

theorem trimTest (s : State) (h : P s) : P (trimTest s) := by
  unfold Machine.trimTest
  split
  · split
    · dsimp only
      split
      · exact K.callRevise _ _ s h
      · exact h
    · exact h
  · exact h

theorem tellDeparture (e : Entry) (s : State) (h : P s) : P (tellDeparture e s) := by
  unfold Machine.tellDeparture
  split
  · split
    · exact h
    · next g active =>
      have left : P (s.onPlanner fun p =>
          { p with grant := some { g with members := g.members.filter fun b => b != e.bus } }) := by
        refine K.grants h fun _ hg => .inr ⟨g, active, ?_⟩
        cases hg
        rfl
      dsimp only
      split
      · split
        · exact K.callRevise _ _ _ left
        · exact left
      · exact K.trimTest _ left
  · exact h

theorem closeIfVain (s : State) (h : P s) : P (closeIfVain s) := by
  unfold Machine.closeIfVain
  split
  · exact h
  · split <;> split
    · exact h
    · exact K.closeGrant s h
    · exact h
    · exact K.closeGrant s h

theorem raiseTotal (n : Nat) (s : State) (h : P s) : P (raiseTotal n s) := by
  unfold Machine.raiseTotal
  split
  · exact h
  · next g active =>
    refine K.trimTest _ (K.grants h fun _ hg => .inr ⟨g, active, ?_⟩)
    cases hg
    rfl

theorem grantStatus (p : Nat) (i : Interval) (s : State) (h : P s) : P (grantStatus p i s) := by
  unfold Machine.grantStatus
  split
  · exact h
  · dsimp only
    split
    · split
      · exact h
      · exact K.closeGrant s h
    · split
      · split
        · exact K.onGrant h
        · exact h
      · exact K.onGrant h

/-! ### The command exchange (chapter 5) -/

theorem sendRevise {r : Revise} {s : State} (free : s.planner.slot = none) (h : P s) : P (sendRevise r s) := by
  have dropped : P (s.onPlanner fun p => { p with revise := none }) := K.planner h
  unfold Machine.sendRevise
  exact K.sendCommand _ (s.onPlanner fun p => { p with revise := none }) free (fun adjusts => absurd rfl adjusts) dropped

theorem takeReport (s : State) (h : P s) : P (takeReport s) := by
  unfold Machine.takeReport
  split
  · exact h
  · next r rest _ =>
    have taken := K.reports (State.onLink_told (s := s) (f := fun k => { k with reports := rest }) id rfl rfl) h
    dsimp only
    split
    · next c held =>
      split
      · exact K.planner taken ⟨rfl, by simp [held, Slot.undated], fun _ h => .inr ⟨_, h, rfl⟩, fun _ h => .inr h⟩
      · exact taken
    · exact taken

theorem acceptLead {c : Slot} {act : Action} {n : Nat} {p : Bool} {s : State} (named : N c.phase) (h : P s) :
    P (acceptLead c act n p s) := by
  have taken := K.takeToken c.approach _ (K.convert n _ (K.emptySlot s h))
  have granted : ∀ g : Grant, g.phase = c.phase → P (State.onPlanner (Machine.takeToken c.approach
      ((Machine.emptySlot s).onLedger fun l => l.convert n)) fun p => { p with grant := some g }) := by
    intro g phase
    refine K.grants taken fun _ hg => .inl ?_
    cases hg
    rw [phase]
    exact named
  unfold Machine.acceptLead
  refine K.closeIfVain _ (K.totals (fun t ht => ?_) _ ?_)
  · obtain ⟨sent, accepted, partly, refused, lost⟩ := ht
    split
    · exact ⟨sent, accepted, tally32_le _, refused, lost⟩
    · exact ⟨sent, tally32_le _, partly, refused, lost⟩
  · split
    · exact K.updateCommanded _ (keepsEntry_join _ _ _) _ (granted _ rfl)
    · exact K.makePending _ _ (granted _ rfl)

theorem acceptFollower (c : Slot) (n : Nat) (s : State) (h : P s) : P (acceptFollower c n s) := by
  have freed := K.convert n _ (K.emptySlot s h)
  unfold Machine.acceptFollower
  dsimp only
  split
  · split
    · split
      · exact K.raiseTotal _ _ (K.onGrant (K.updateCommanded _ (keepsEntry_join _ _ _) _ freed))
      · exact K.raiseTotal _ _ freed
    · exact K.updateCommanded _ (keepsEntry_waitsApplied _ _) _ freed
  · exact K.updateCommanded _ (keepsEntry_waitsApplied _ _) _ freed

theorem refuseCommand (c : Slot) (firm : Bool) (s : State) (h : P s) : P (refuseCommand c firm s) :=
  K.updateCommanded _ (keepsEntry_refuse _ _) _ (K.release _ (K.emptySlot s h))

theorem settleRevise (c : Slot) (v : VerdictCode) (s : State) (h : P s) : P (settleRevise c v s) := by
  have freed := K.emptySlot s h
  unfold Machine.settleRevise
  dsimp only
  split
  · exact freed
  · split
    · split
      · split
        · exact K.closeGrant _ freed
        · split
          · exact K.onGrant freed
          · exact freed
      · exact freed
    · exact freed

theorem adoptLead {m : LostTag} {n : Nat} {s : State} (named : N m.phase) (adopts : s.adoptsLead m n = true) (h : P s) :
    P (adoptLead m n s) := by
  simp only [State.adoptsLead, Bool.and_eq_true, decide_eq_true_eq] at adopts
  obtain ⟨⟨⟨-, room⟩, leads⟩, -⟩ := adopts
  unfold Machine.adoptLead
  refine K.closeIfVain _ (K.updateEntry _ (keepsEntry_adopt _ _) _ (K.grants (K.takeToken _ _
    (K.charge room (fun _ => leads) h)) fun _ hg => .inl ?_))
  cases hg
  exact named

theorem adoptFollower {m : LostTag} {n : Nat} {s : State} (adopts : s.adoptsFollower m n = true) (h : P s) :
    P (adoptFollower m n s) := by
  have room : n ≤ s.planner.ledger.remaining := by
    unfold State.adoptsFollower at adopts
    split at adopts
    · simp only [Bool.and_eq_true, decide_eq_true_eq] at adopts
      obtain ⟨⟨⟨-, room⟩, -⟩, -⟩ := adopts
      exact room
    · cases adopts
  exact K.raiseTotal _ _ (K.onGrant (K.updateEntry _ (keepsEntry_adopt _ _) _ (K.charge room nofun h)))

theorem revokeLate (m : LostTag) (s : State) (h : P s) : P (revokeLate m s) := K.makePending _ s h

/-! ### The body of a pass (R68 to R81) -/

theorem suspendedPass (s : State) (h : P s) : P (suspendedPass s) :=
  K.entries s (keepsEntry_ite (keepsEntry_waits _) keepsEntry_id) h

theorem evaluateAll (s : State) (h : P s) : P (evaluateAll s) :=
  K.entries s (keepsEntry_ite keepsEntry_id (keepsEntry_passEvaluation s)) h

theorem coverOne (ws : List Window) (s : State) (e : Entry) (h : P s) : P (coverOne ws s e) := by
  have covers : KeepsEntry fun q : Entry => { q.place .covered none with classified := true } :=
    keepsEntry_place (st := .covered) (why := none) (by simp) (fun _ => rfl) (fun _ => rfl) (fun _ => rfl) (fun _ => rfl)
      fun _ => rfl
  have marks : KeepsEntry fun q : Entry => { q with classified := true } := ⟨fun _ => rfl, fun _ sound => sound⟩
  unfold Machine.coverOne
  split
  · have written := K.updateEntry e.bus (keepsEntry_ite
      (p := fun _ => coveredBy ws s.config.general.clearance e = true) covers marks) s h
    dsimp only
    split
    · exact K.reports (countEvent_told _ _ _ _) written
    · exact written
  · exact h

theorem testOne (v : PassView) (s : State) (e : Entry) (h : P s) : P (testOne v s e) := by
  unfold Machine.testOne
  split
  · have written := K.updateEntry e.bus (keepsEntry_waits (s.finding v e).reason) s h
    dsimp only
    split
    · exact K.reports (countEvent_told _ _ _ _) written
    · exact written
  · exact h

theorem shadowLead {tag : Nat} {k : Candidate} {s : State} (named : N k.entry.phase) (h : P s) :
    P (shadowLead tag k s) := by
  unfold Machine.shadowLead
  refine K.closeIfVain _ (K.updateEntry _ (keepsEntry_join _ _ _) _ (K.grants (K.takeToken _ _ (K.convert _ s h))
    fun _ hg => .inl ?_))
  cases hg
  exact named

theorem shadowFollower (k : Candidate) (s : State) (h : P s) : P (shadowFollower k s) :=
  K.raiseTotal _ _ (K.onGrant (K.updateEntry _ (keepsEntry_join _ _ _) _ (K.convert _ s h)))

/-- A command that the ledger has room for is handed over (R80, R85). -/
theorem handOver {k : Candidate} {s : State} (free : s.planner.slot = none) (named : N k.entry.phase)
    (room : k.amount ≤ s.planner.ledger.remaining)
    (lead : s.planner.grant = none → s.planner.ledger.leads < s.planner.ledger.grantLimit) (h : P s) :
    P (handOver k s) := by
  have reserved := K.reserve (n := k.amount) (role := if s.planner.grant.isSome then Role.follower else Role.lead)
    (s := Machine.updateEntry k.entry.bus (Entry.command k.action k.amount s.now) s) room (fun hl => lead (by
      cases hg : s.planner.grant with
      | none => rfl
      | some g => simp [hg] at hl)) (K.updateEntry _ (keepsEntry_command _ _ _) s h)
  unfold Machine.handOver
  dsimp only
  split
  · exact K.sendCommand _ _ free (fun _ => named) reserved
  · split
    · exact K.shadowLead named (K.planner reserved)
    · exact K.shadowFollower _ _ (K.planner reserved)

end WorkKept

/-! ### What a candidate is (R72, R73, R76, R77) -/

theorem extendVerdict_none {need total most remaining : Nat} (h : extendVerdict need total most remaining = none) :
    total + need ≤ most ∧ need ≤ remaining := by
  unfold extendVerdict at h
  split at h
  · cases h
  · split at h
    · cases h
    · omega

theorem advanceVerdict_ok {need available most remaining aMin x : Nat}
    (h : advanceVerdict need available most remaining aMin = .ok x) :
    x = min (min (min need available) most) remaining ∧ aMin ≤ x := by
  unfold advanceVerdict at h
  dsimp only at h
  split at h
  · cases h; exact ⟨rfl, ‹_›⟩
  · split at h <;> cases h

theorem leadFinding_candidate {s : State} {v : PassView} {e : Entry} {act act' : Action} {n n' : Nat} {adj : Adjustment}
    (h : s.leadFinding v e act n adj = .candidate act' n') :
    act = act' ∧ n = n' ∧ s.planner.ledger.leads < s.planner.ledger.grantLimit ∧ s.planner.tokens.get e.approach ≠ 0 ∧
      s.protectedAgainst v adj e = false := by
  unfold State.leadFinding at h
  split at h
  · cases h
  · next leads =>
    split at h
    · cases h
    · next token =>
      split at h
      · cases h
      · next safe =>
        cases h
        exact ⟨rfl, rfl, Nat.lt_of_not_le leads, token, by simpa using safe⟩

/-- The ledger has room for a candidate: for its amount, and for a lead also in the count of leads (R72, R73, R76). -/
theorem finding_candidate {s : State} {v : PassView} {e : Entry} {act : Action} {n : Nat}
    (h : s.finding v e = .candidate act n) :
    n ≤ s.planner.ledger.remaining ∧ (s.planner.grant = none → s.planner.ledger.leads < s.planner.ledger.grantLimit) := by
  unfold State.finding at h
  split at h
  · cases h
  · split at h
    · cases h
    · split at h
      · next g hg =>
        refine ⟨?_, by simp [hg]⟩
        unfold State.testFollower at h
        split at h
        · cases h
        · dsimp only at h
          split at h
          · cases h
          · split at h
            · cases h
            · split at h
              · cases h
              · split at h
                · cases h
                · next feasible =>
                  split at h
                  · cases h
                  · cases h; exact (extendVerdict_none feasible).2
      · unfold State.testLead at h
        dsimp only at h
        split at h
        · split at h
          · cases h
          · next feasible =>
            obtain ⟨-, rfl, leads, -⟩ := leadFinding_candidate h
            exact ⟨(extendVerdict_none feasible).2, fun _ => leads⟩
        · split at h
          · cases h
          · next feasible =>
            obtain ⟨-, rfl, leads, -⟩ := leadFinding_candidate h
            obtain ⟨rfl, -⟩ := advanceVerdict_ok feasible
            exact ⟨Nat.min_le_right _ _, fun _ => leads⟩

/-- A candidate's phase has a window in the projection (R70, R71). -/
theorem finding_candidate_window {s : State} {v : PassView} {e : Entry} {act : Action} {n : Nat}
    (h : s.finding v e = .candidate act n) : ∃ w ∈ v.windows, w.phase = e.phase := by
  have window : ∀ {a : Action} {w : Window}, neededAction v.windows e.phase e.est.winStart = some (a, w) →
      ∃ w ∈ v.windows, w.phase = e.phase := by
    intro a w needed
    unfold neededAction firstWindow at needed
    split at needed
    · cases needed
    · next w' first =>
      refine ⟨w', List.mem_of_find?_eq_some first, ?_⟩
      have phase := List.find?_some first
      simp only [Bool.and_eq_true, beq_iff_eq] at phase
      exact phase.1
  unfold State.finding at h
  split at h
  · cases h
  · next needed => exact window needed

theorem chooseCandidate_mem : ∀ {l : List Candidate} {k : Candidate}, chooseCandidate l = some k → k ∈ l
  | [], _, h => by cases h
  | c :: cs, k, h => by
    unfold chooseCandidate at h
    split at h
    · cases h; simp
    · next d hd =>
      have hmem := chooseCandidate_mem hd
      cases h
      unfold betterCandidate
      split
      · exact List.mem_cons_of_mem _ hmem
      · split
        · exact List.mem_cons_of_mem _ hmem
        · simp

/-- A candidate is an entry that the pass classifies, that is not covered, and for which its action and amount were
found. -/
theorem mem_candidates {s : State} {v : PassView} {entries : List Entry} {k : Candidate} :
    k ∈ s.candidates v entries ↔
      k.entry ∈ entries ∧ k.entry.state.classifiable = true ∧
        coveredBy v.windows s.config.general.clearance k.entry = false ∧
        s.finding v k.entry = .candidate k.action k.amount := by
  unfold State.candidates
  simp only [List.mem_filterMap]
  constructor
  · rintro ⟨e, he, h⟩
    split at h
    · next hc =>
      split at h
      · next act n hf =>
        cases h
        simp only [Bool.and_eq_true, Bool.not_eq_true'] at hc
        exact ⟨he, hc.1, hc.2, hf⟩
      · cases h
    · cases h
  · rintro ⟨he, hs, hc, hf⟩
    exact ⟨k.entry, he, by simp [hs, hc, hf]⟩

@[simp] theorem coverOne_planner (ws : List Window) (s : State) (e : Entry) :
    (coverOne ws s e).planner = s.planner := by
  unfold coverOne
  split
  · dsimp only; split <;> simp
  · rfl

@[simp] theorem testOne_planner (v : PassView) (s : State) (e : Entry) : (testOne v s e).planner = s.planner := by
  unfold testOne
  split
  · dsimp only; split <;> simp
  · rfl

/-- What a property says of a state it says after each of a list of operations that keep it. -/
theorem foldl_kept {P : State → Prop} {β : Type} {f : State → β → State} (each : ∀ s b, P s → P (f s b)) :
    ∀ (l : List β) (s : State), P s → P (l.foldl f s)
  | [], _, h => h
  | b :: l, s, h => foldl_kept each l (f s b) (each s b h)

/-- The windows of a view name phases of `N`. -/
abbrev PassView.named (N : Nat → Prop) (v : PassView) : Prop := ∀ w ∈ v.windows, N w.phase

namespace WorkKept
variable {N : Nat → Prop} {P : State → Prop} (K : WorkKept N P)
include K

theorem chooseAndSend {v : PassView} {entries : List Entry} {before s : State} (named : v.named N)
    (same : s.planner = before.planner) (h : P s) : P (chooseAndSend v entries before s) := by
  unfold Machine.chooseAndSend
  split
  · exact h
  · next free =>
    split
    · exact K.sendRevise free h
    · split
      · next k hk =>
        obtain ⟨-, -, -, found⟩ := mem_candidates.1 (chooseCandidate_mem hk)
        obtain ⟨room, lead⟩ := finding_candidate found
        obtain ⟨w, hw, phase⟩ := finding_candidate_window found
        exact K.handOver free (phase ▸ named w hw) (by rw [same]; exact room) (by rw [same]; exact lead) h
      · exact h

theorem classifyAll {a : Anchor} {p : Plan} {s : State} (tracked : s.trackedPlan = some (a, p)) (h : P s) :
    P (classifyAll a p s) := by
  unfold Machine.classifyAll
  refine K.chooseAndSend (fun w hw => K.projected s a p _ w tracked hw h) ?_
    (foldl_kept (K.testOne _) _ _ (foldl_kept (K.coverOne _) _ _ h))
  rw [foldl_keeps (fun t : State => t.planner) _ (testOne_planner _),
    foldl_keeps (fun t : State => t.planner) _ (coverOne_planner _)]

theorem passBody (s : State) (h : P s) : P (passBody s) := by
  unfold Machine.passBody
  split
  · next a p tracked => exact K.classifyAll (a := a) (p := p) tracked (K.evaluateAll s h)
  · exact K.suspendedPass s h

end WorkKept

/-- A property that any rewriting of the planner within the allowance keeps is kept by the small operations of the
exchange, whatever phases they name. -/
theorem PlainKept.work {P : State → Prop} (K : PlainKept P) : WorkKept anyPhase P where
  toReportKept := K.report
  allowance := fun f s step allowed h => K.allowance f s step.timers allowed h
  rewritten := K.rewritten
  emptySlot := fun s h => by
    unfold Machine.emptySlot
    split
    · exact h
    · exact K.reports (State.onLink_reported id) (K.allowance _ s rfl id h)
  sendCommand := fun c s _ _ h => by
    have sent : P (countEvent .commandSent (sentIndex c) (some (.port c.approach))
        (queueMessage (commandMessage c) (s.onPlanner fun p => { p with slot := some c, tagCounter := c.tag }))) :=
      K.reports (countEvent_told _ _ _ _).reported <| K.reports (queueMessage_reported _ _) <| K.allowance _ s rfl id h
    unfold Machine.sendCommand
    dsimp only
    split
    · exact K.reports (State.onTotals_told fun ⟨_, rest⟩ => ⟨tally32_le _, rest⟩).reported sent
    · exact sent
  slotNamed := fun _ _ _ _ _ => trivial
  lostNamed := fun _ _ _ _ => trivial
  projected := fun _ _ _ _ _ _ _ _ => trivial

end Sys2Proof.Machine
end

section
/-! SUPPORT. A property that the small operations of the ports, of the intake and of the reports keep is kept by the
commands built from them alone, and by the messages that read. -/

namespace Sys2Proof.Machine

/-! ### The properties in question -/

/-- A rewriting of one port keeps its sizes, and whether it is DISABLED. -/
structure KeepsPort (f : Port → Port) (p : Port) : Prop where
  sound : p.Sound → (f p).Sound
  disabled : (f p).framer = .disabled ↔ p.framer = .disabled

/-- The small operations of the ports, of the intake and of the messages that read keep a property. -/
structure QuietKept (P : State → Prop) : Prop extends ReportKept P where
  uncache : ∀ (keep : CacheEntry → Bool) s, P s → P { s with cache := s.cache.filter keep }
  push : ∀ q t s, s.mode ≠ .standby → (s.intake.queues.get q).length < 8 → P s →
    P { s with intake := { s.intake with queues := s.intake.queues.set q (s.intake.queues.get q ++ [t]) } }
  port : ∀ x f s, KeepsPort f (s.ports.get x) → P s → P (s.onPort x f)
  fed : ∀ s, P s → P { s with occupancyFed := true }
  hold : ∀ s, P s → P { s with held := true }

/-- The messages that come and go at the cabinet link keep a property. -/
structure LineKept (P : State → Prop) : Prop extends ReportKept P where
  asks : ∀ m s, s.unanswered < 4 → P s → P (s.onLink fun k => { k with asked := k.asked ++ [m] })
  taken : ∀ s, P s → P (s.onLink fun k => { k with asked := k.asked.tail })
  reply : ∀ m s, m.kind = .reply → P s → P (queueMessage m s)
  restarts : ∀ r s, P s → P (s.onLink fun k => { k with restart := some r, asked := [] })
  sent : ∀ m rest s, s.link.outbound = m :: rest → P s → P (s.onLink fun k => { k with outbound := rest })

theorem WideKept.line {P : State → Prop} (K : WideKept P) : LineKept P where
  toReportKept := K.report
  asks := fun _ _ _ h => K.reports (State.onLink_reported id) h
  taken := fun _ h => K.reports (State.onLink_reported id) h
  reply := fun _ _ _ h => K.reports (queueMessage_reported _ _) h
  restarts := fun _ _ h => K.reports (State.onLink_reported id) h
  sent := fun _ _ _ _ h => K.reports (State.onLink_reported id) h

/-! ### What the ports' operations leave -/

@[simp] theorem discardSlots_ports (why : Discard) (x : Approach) (payloads : List (List Octet)) (s : State) :
    (discardSlots why x payloads s).ports = s.ports := by
  refine foldl_keeps (fun t : State => t.ports) _ (fun t os => ?_) _ s
  split
  · rfl
  · simp

@[simp] theorem leaveAligned_framer (x : Approach) (s : State) :
    ((leaveAligned x s).ports.get x).framer = (s.ports.get x).framer := by
  simp [leaveAligned]

theorem newest_length {α : Type} (n : Nat) (l : List α) : (newest n l).length ≤ n := by
  simp [newest]; omega

@[simp] theorem readFrameBits_framer (x : Approach) (f : Frame) (s : State) :
    ((readFrameBits x f s).ports.get x).framer = (s.ports.get x).framer := by
  unfold readFrameBits
  dsimp only
  repeat' split
  all_goals simp

@[simp] theorem takeSlot_ports (src : Source) (x : Approach) (os : List Octet) (s : State) :
    (takeSlot src x os s).1.ports = s.ports := by
  unfold takeSlot
  repeat' split
  all_goals simp

@[simp] theorem settleQuarter_framer (x : Approach) (q : Quarter) (f : Frame) (s : State) :
    ((settleQuarter x q f s).ports.get x).framer = (s.ports.get x).framer := by
  have delivered : ∀ t : State, (deliverQuarter x q.payloads t).ports = t.ports := fun t =>
    foldl_keeps (fun t : State => t.ports) _ (fun t os => takeSlot_ports _ _ os t) _ t
  unfold settleQuarter
  split
  · split
    · simp [delivered, recordResult]
    · simp [recordResult]
  · simp

/-- The payload of a return frame is thirty octets: at most five places of six, and zeros (R123, Table 10-4). -/
theorem returnPayload_length (s : State) (x : Approach) : (s.returnPayload x).length = 30 := by
  have five : ∀ l : List Entry, (rotated l (s.ports.get x).rotation).length ≤ 5 := fun l => by simp [rotated]
  have six : ∀ (ws : Option (List Window)) (l : List Entry), (l.flatMap (indicationPlace ws)).length = 6 * l.length := by
    intro ws l
    induction l with
    | nil => rfl
    | cons e l ih => simp [indicationPlace, octets2, ih]; omega
  have few : (if s.mode = .run then rotated (s.indicationList x) (s.ports.get x).rotation else []).length ≤ 5 := by
    split
    · exact five _
    · simp
  unfold State.returnPayload
  dsimp only
  rw [List.length_append, List.length_replicate, six]
  omega

/-! ### Entries of the table and the cache -/

theorem findEntry_mem {s : State} {bus : Nat} {e : Entry} (h : s.findEntry bus = some e) : e ∈ s.table :=
  List.mem_of_find?_eq_some h

theorem findEntry_bus {s : State} {bus : Nat} {e : Entry} (h : s.findEntry bus = some e) : e.bus = bus := by
  simpa using List.find?_some h

theorem findEntry_none {s : State} {bus : Nat} (h : s.findEntry bus = none) : ∀ e ∈ s.table, e.bus ≠ bus := by
  simpa [State.findEntry] using h

theorem findCached_none {s : State} {bus : Nat} (h : s.findCached bus = none) : ∀ c ∈ s.cache, c.bus ≠ bus := by
  simpa [State.findCached] using h

theorem keepsEntry_victimEvaluation (s : State) : KeepsEntry s.victimEvaluation := by
  constructor <;> intro e <;> unfold State.victimEvaluation
  · split <;> rfl
  · intro h
    split <;> exact h

theorem chooseVictim_mem : ∀ {l : List Entry} {e : Entry} {v : Nat}, chooseVictim l = some (e, v) → e ∈ l
  | [], _, _, h => by cases h
  | q :: l, e, v, h => by
    unfold chooseVictim at h
    split at h
    · exact List.mem_cons_of_mem _ (chooseVictim_mem h)
    · cases h; simp
    · next f w hf =>
      split at h
      · cases h; simp
      · cases h; exact List.mem_cons_of_mem _ (chooseVictim_mem hf)

theorem pushSample_length {ring : List Nat} (v : Nat) : (pushSample ring v).length ≤ 8 := by
  simp [pushSample]; omega

/-- An accepted update leaves a sound entry: its motion fields and its estimate are new, and it is placed by them. -/
theorem updated_sound (t : Telegram) (s : State) {e : Entry} (sound : e.Sound) :
    (s.updateEvaluation (e.move t s.now)).placeAfterUpdate.Sound := by
  refine Entry.placeAfterUpdate_sound (e := s.updateEvaluation (e.move t s.now)) sound.1 ?_ (Entry.Sound.shows sound _)
  show (if t.atStop then e.ring else pushSample e.ring t.speed).length ≤ 8
  split
  · exact sound.2.2
  · exact pushSample_length _

/-- A newcomer is sound: it has at most one sample, and it is placed by its first estimate (R8, R16). -/
theorem newcomer_sound (t : Telegram) (s : State) : (s.updateEvaluation (s.newEntry t)).placeAfterUpdate.Sound := by
  refine Entry.placeAfterUpdate_sound (e := s.updateEvaluation (s.newEntry t))
    (by simp [State.updateEvaluation, State.evaluateWith, State.newEntry]) ?_ (fun _ => rfl)
  show (if t.atStop then [] else [t.speed]).length ≤ 8
  split <;> simp

/-! ### Taking what the link holds -/

theorem withLength_kept {P : State → Prop} {n : Nat} {owner : List Octet → State → State × Reply}
    (owns : ∀ b s, P s → P (owner b s).1) (m : AskedMessage) (s : State) (h : P s) : P (withLength n owner m s).1 := by
  unfold withLength
  split
  · exact owns _ s h
  · exact h

@[simp] theorem readConfigOwner_state (b : List Octet) (s : State) : (readConfigOwner b s).1 = s := by
  unfold readConfigOwner
  split
  · rfl
  · split <;> rfl

@[simp] theorem listRequestsOwner_state (b : List Octet) (s : State) : (listRequestsOwner b s).1 = s := by
  unfold listRequestsOwner
  dsimp only
  split <;> rfl

@[simp] theorem readRequestOwner_state (b : List Octet) (s : State) : (readRequestOwner b s).1 = s := by
  unfold readRequestOwner
  split
  · rfl
  · split
    · rfl
    · split <;> rfl

theorem takeOctet_within (o : Octet) {k : Link} (within : k.Within) : (takeOctet o k).Within := by
  unfold takeOctet
  split
  · split <;> exact within
  · split <;> exact within
  · split <;> exact within

/-- An octet from the line reaches neither the asked messages nor the outbound queue (R134). -/
theorem takeOctet_queues (o : Octet) (k : Link) :
    (takeOctet o k).asked = k.asked ∧ (takeOctet o k).outbound = k.outbound := by
  unfold takeOctet
  split
  · split <;> exact ⟨rfl, rfl⟩
  · split <;> exact ⟨rfl, rfl⟩
  · split <;> exact ⟨rfl, rfl⟩

namespace ReportKept
variable {P : State → Prop} (K : ReportKept P)
include K

theorem link {f : Link → Link} {s : State} (h : P s) (within : s.link.Within → (f s.link).Within := by exact fun w => w)
    (asked : (f s.link).asked = s.link.asked := by exact rfl)
    (outbound : (f s.link).outbound = s.link.outbound := by exact rfl) : P (s.onLink f) :=
  K.reports (State.onLink_told within asked outbound) h

theorem takeReceived {want : List Octet → Bool} {act : List Octet → State → State}
    (acts : ∀ f s, P s → P (act f s)) (s : State) (h : P s) : P (takeReceived want act s) := by
  unfold Machine.takeReceived
  split
  · exact h
  · split
    · exact acts _ _ (K.link h)
    · exact h

theorem discardBadFrame (s : State) (h : P s) : P (discardBadFrame s) :=
  K.takeReceived (fun _ _ h => K.link h fun ⟨_, overruns, dropped⟩ => ⟨tally16_le _, overruns, dropped⟩) s h

theorem readOutcomesOwner (b : List Octet) (s : State) (h : P s) : P (readOutcomesOwner b s).1 := by
  unfold Machine.readOutcomesOwner
  dsimp only
  split
  · exact h
  · exact K.reports (State.outcomes_told fun ⟨records, lost⟩ => ⟨by simp; omega, lost⟩) h

theorem programCounterOwner (b : List Octet) (s : State) (h : P s) : P (programCounterOwner b s).1 := by
  unfold Machine.programCounterOwner
  dsimp only
  split
  · split
    · refine K.reports (State.counters_told fun ⟨eight, within⟩ => ⟨by simpa using eight, fun c hc => ?_⟩) h
      rcases List.mem_or_eq_of_mem_set hc with old | rfl
      · exact within c old
      · exact Nat.zero_le _
    · exact h
  · exact h

theorem readCountersOwner (b : List Octet) (s : State) (h : P s) : P (readCountersOwner b s).1 := by
  unfold Machine.readCountersOwner
  split
  · exact h
  · dsimp only
    split
    · refine K.reports (State.counters_told fun ⟨eight, within⟩ => ⟨by simpa using eight, ?_⟩) h
      simp
    · exact h

theorem setNoticeMaskOwner (b : List Octet) (s : State) (h : P s) : P (setNoticeMaskOwner b s).1 := by
  unfold Machine.setNoticeMaskOwner
  split
  · exact K.reports (State.notices_told _ s) h
  · exact h

theorem clearNoticesOwner (m : AskedMessage) (s : State) (h : P s) : P (clearNoticesOwner m s).1 := by
  unfold Machine.clearNoticesOwner
  split
  · exact h
  · split
    · exact h
    · split
      · exact h
      · exact K.reports (State.notices_told _ s) h

end ReportKept

/-- The row that takes an asked message leads to what its owner leads to (R137). -/
theorem takeAsked_leads {P Q : State → Prop} (K : LineKept P) (L : LineKept Q) (weaker : ∀ s, P s → Q s)
    {want : AskedMessage → Bool} {owner : AskedMessage → State → State × Reply}
    (owns : ∀ m s, P s → Q (owner m s).1) (s : State) (h : P s) : Q (takeAsked want owner s) := by
  unfold takeAsked
  split
  · split
    · exact L.reply _ _ rfl (owns _ _ (K.taken s h))
    · exact weaker s h
  · exact weaker s h

namespace LineKept
variable {P : State → Prop} (K : LineKept P)
include K

/-- The row that takes an asked message keeps what its owner keeps (R137). -/
theorem takeAsked {want : AskedMessage → Bool} {owner : AskedMessage → State → State × Reply}
    (owns : ∀ m s, P s → P (owner m s).1) (s : State) (h : P s) : P (takeAsked want owner s) :=
  takeAsked_leads K K (fun _ h => h) owns s h

theorem askedMessageArrival (s : State) (h : P s) : P (askedMessageArrival s) := by
  refine K.takeReceived (fun f s h => ?_) s h
  unfold askedArrives
  split
  · exact h
  · split
    · exact K.latch _ _ _ (K.link h fun ⟨crc, _, dropped⟩ => ⟨crc, tally16_le _, dropped⟩)
    · next room => exact K.asks _ s (Nat.lt_of_not_le room) h

theorem askRestart (r : Selector) (s : State) (h : P s) : P (askRestart r s) := by
  unfold Machine.askRestart
  split
  · split
    · refine K.reply _ _ rfl (withLength_kept (P := P) (fun b s h => ?_) _ _ (K.taken s h))
      unfold restartOwner
      split
      · exact K.restarts _ s h
      · exact h
    · exact h
  · exact h

end LineKept

/-! ### Quiet commands -/

/-- The commands of the ports, those about reports and the cache, and the framer's of the cabinet line. -/
def Instr.quiet : Instr → Bool
  | .framingFault | .frameGapTimeout | .cabinetCrc | .cacheAgeOut _ | .tableOccupancy => true
  | .candidateMarker _ _ | .confirmTest _ _ | .frameSlot _ _ | .localFrameRead _ => true
  | .centringTimeout _ | .consecutiveRepeatLimit _ | .returnFrame _ | .rstnLow | .octetReceived _ => true
  | _ => false

/-- The row of an asked message that its owner acts on: which messages it takes, and what the owner does. -/
def Instr.asked : Instr → Option ((AskedMessage → Bool) × (AskedMessage → State → State × Reply))
  | .unknownKind => some (fun m => !askedKind m.kind, fun _ st => (st, .bare .unknownKind))
  | .configure => some (fun m => m.kind == 0x01, configureOwner)
  | .readConfig => some (fun m => m.kind == 0x02, withLength 2 readConfigOwner)
  | .setModeStandby => some (wantsMode .standby, withLength 2 setModeOwner)
  | .setModeMonitor => some (wantsMode .monitor, withLength 2 setModeOwner)
  | .setModeRun => some (wantsMode .run, withLength 2 setModeOwner)
  | .readStatus => some (fun m => m.kind == 0x04, withLength 0 readStatusOwner)
  | .listRequests => some (fun m => m.kind == 0x05, withLength 2 listRequestsOwner)
  | .readRequest => some (fun m => m.kind == 0x06, withLength 2 readRequestOwner)
  | .cancelRequest => some (fun m => m.kind == 0x07, withLength 2 cancelRequestOwner)
  | .readOutcomes => some (fun m => m.kind == 0x08, withLength 1 readOutcomesOwner)
  | .programCounter => some (fun m => m.kind == 0x09, withLength 5 programCounterOwner)
  | .readCounters => some (fun m => m.kind == 0x0A, withLength 1 readCountersOwner)
  | .readSummary => some (fun m => m.kind == 0x0B, withLength 0 readSummaryOwner)
  | .setNoticeMask => some (fun m => m.kind == 0x0C, withLength 23 setNoticeMaskOwner)
  | .clearNotices => some (fun m => m.kind == 0x0D, clearNoticesOwner)
  | .linkControl => some (fun m => m.kind == 0x0E, withLength 4 linkControlOwner)
  | .injectTelegram => some (fun m => m.kind == 0x0F, withLength 16 injectTelegramOwner)
  | _ => none

theorem effect_asked {c : Instr} {want : AskedMessage → Bool} {owner : AskedMessage → State → State × Reply}
    (asked : Instr.asked c = some (want, owner)) (s : State) : effect c s = takeAsked want owner s := by
  cases c <;> cases asked <;> rfl

/-- The asked messages that neither configure, nor change the mode, nor reach the table. -/
def Instr.reads : Instr → Bool
  | .configure | .setModeStandby | .setModeMonitor | .setModeRun | .cancelRequest => false
  | c => (Instr.asked c).isSome

namespace QuietKept
variable {P : State → Prop} (K : QuietKept P)
include K

theorem takeSlot (src : Source) (x : Approach) (os : List Octet) (s : State) (h : P s) : P (takeSlot src x os s).1 := by
  unfold Machine.takeSlot
  split
  · exact h
  · split
    · exact K.discarded _ _ s h
    · split
      · exact h
      · exact K.discarded _ _ s h
      · split
        · exact K.discarded _ _ s h
        · split
          · exact K.discarded _ _ s h
          · next notStandby room => exact K.counted _ _ _ _ (K.push _ _ s notStandby (Nat.lt_of_not_le room) h)

theorem injectTelegramOwner (b : List Octet) (s : State) (h : P s) : P (injectTelegramOwner b s).1 := by
  unfold Machine.injectTelegramOwner
  split
  · exact K.takeSlot _ _ _ s h
  · exact h

/-! #### The ports -/

theorem onPort {x : Approach} {f : Port → Port} {s : State} (h : P s)
    (sound : (s.ports.get x).Sound → (f (s.ports.get x)).Sound := by exact id)
    (disabled : (f (s.ports.get x)).framer = .disabled ↔ (s.ports.get x).framer = .disabled := by exact Iff.rfl) :
    P (s.onPort x f) := K.port x f s ⟨sound, disabled⟩ h

theorem linkControlOwner (b : List Octet) (s : State) (h : P s) : P (linkControlOwner b s).1 := by
  unfold Machine.linkControlOwner
  split
  · split
    · exact h
    · dsimp only
      exact K.onPort h
  · exact h

theorem clocked (x : Approach) (n : Nat) (s : State) (h : P s) : P (s.onPort x (Port.clocked n)) :=
  K.onPort h

theorem unreadBits (x : Approach) (new : Bits) (s : State) (h : P s) : P (unreadBits x new s) := by
  unfold Machine.unreadBits
  split
  · exact K.clocked x _ s h
  · exact h

theorem discardSlots (why : Discard) (x : Approach) (payloads : List (List Octet)) (s : State) (h : P s) :
    P (discardSlots why x payloads s) := by
  refine foldl_kept (fun s os h => ?_) _ s h
  split
  · exact h
  · exact K.discarded _ _ s h

theorem leaveAligned (x : Approach) (s : State) (h : P s) : P (leaveAligned x s) := by
  unfold Machine.leaveAligned
  exact K.onPort (K.discardSlots _ _ _ _ (K.counted _ _ _ _ (K.latch _ _ s h)))
    (fun ⟨_, rest⟩ => ⟨Nat.zero_le _, rest⟩)

theorem exitToHunt (x : Approach) (bits : Bits) {s : State} (aligned : (s.ports.get x).framer = .aligned) (h : P s) :
    P (exitToHunt x bits s) :=
  K.onPort (K.leaveAligned x s h) (disabled := by simp [aligned])

theorem clockLost (x : Approach) {s : State} (aligned : (s.ports.get x).framer = .aligned) (h : P s) :
    P (clockLost x s) :=
  K.onPort (K.exitToHunt x [] aligned h)

theorem enterAligned (x : Approach) (expected : Nat) (bits : Bits) {s : State}
    (enabled : (s.ports.get x).framer ≠ .disabled) (h : P s) : P (enterAligned x expected bits s) :=
  K.latch _ _ _ (K.onPort h (fun ⟨_, _, _, rest⟩ => ⟨Nat.zero_le _, Nat.zero_le _, Nat.zero_le _, rest⟩)
    (by simp [enabled]))

theorem candidateMarker (x : Approach) (new : Bits) (s : State) (h : P s) : P (candidateMarker x new s) := by
  unfold Machine.candidateMarker
  split
  · next hunts =>
    refine K.onPort h (fun sound => ?_) ?_
    · dsimp only
      split <;> exact sound
    · dsimp only
      split <;> simp [hunts]
  · exact K.unreadBits x new s h

theorem confirmTest (x : Approach) (new : Bits) (s : State) (h : P s) : P (confirmTest x new s) := by
  unfold Machine.confirmTest
  dsimp only
  split
  · next confirms =>
    have clocked := K.clocked x new.length s h
    have enabled : ((s.onPort x (Port.clocked new.length)).ports.get x).framer ≠ .disabled := by simp [confirms]
    split
    · split
      · exact K.onPort clocked
      · split
        · split
          · exact K.enterAligned x _ _ enabled clocked
          · exact K.onPort clocked
        · exact K.onPort clocked (disabled := by simp [confirms])
    · split
      · exact K.enterAligned x _ _ enabled clocked
      · exact K.onPort clocked
  · exact K.unreadBits x new s h

theorem writeFrame (x : Approach) (f : Frame) (s : State) (h : P s) : P (writeFrame x f s) := by
  unfold Machine.writeFrame
  split
  · next a b rest store =>
    split
    · next room =>
      refine K.onPort h (fun ⟨_, sound⟩ => ⟨?_, sound⟩)
      simp; omega
    · refine K.counted _ _ _ _ (K.onPort h (fun ⟨size, sound⟩ => ⟨?_, sound⟩))
      rw [store] at size
      simpa using size
  · exact K.onPort h (fun ⟨_, sound⟩ => ⟨by simp, sound⟩)
  · exact K.onPort h (fun ⟨_, sound⟩ => ⟨by simp, sound⟩)

theorem frameSlot (x : Approach) (new : Bits) (s : State) (h : P s) : P (frameSlot x new s) := by
  unfold Machine.frameSlot
  dsimp only
  split
  · next aligned =>
    have clocked := K.clocked x new.length s h
    split
    · exact K.onPort clocked
    · split
      · exact K.exitToHunt x _ (by simp [aligned]) clocked
      · exact K.writeFrame x _ _ (K.onPort clocked
          fun ⟨store, _, sound⟩ => ⟨store, newest_length 16 _, sound⟩)
  · exact K.unreadBits x new s h

theorem readFrameBits (x : Approach) (f : Frame) (s : State) (h : P s) : P (readFrameBits x f s) := by
  have written := K.onPort (x := x)
    (f := fun p => { p with farAlarm := controlFarAlarm f.control, senderFault := controlFault f.control }) h
  have alarm : P (if controlFarAlarm f.control then latchNotice (.farAlarm x) 0 (s.onPort x fun p =>
      { p with farAlarm := controlFarAlarm f.control, senderFault := controlFault f.control })
      else s.onPort x fun p => { p with farAlarm := controlFarAlarm f.control, senderFault := controlFault f.control }) := by
    split
    · exact K.latch _ _ _ written
    · exact written
  unfold Machine.readFrameBits
  dsimp only
  split
  · refine K.counted _ _ _ _ ?_
    split
    · exact K.latch _ _ _ alarm
    · exact alarm
  · split
    · exact K.latch _ _ _ alarm
    · exact alarm

theorem deliverQuarter (x : Approach) (payloads : List (List Octet)) (s : State) (h : P s) :
    P (deliverQuarter x payloads s) :=
  foldl_kept (fun s os h => K.takeSlot _ _ os s h) _ s h

theorem recordResult (x : Approach) (failed : Bool) (s : State) (h : P s) : P (recordResult x failed s) :=
  K.onPort h fun ⟨store, judged, _, sound⟩ => ⟨store, judged, newest_length 16 _, sound⟩

theorem settleQuarter (x : Approach) (q : Quarter) (f : Frame) (s : State) (h : P s) : P (settleQuarter x q f s) := by
  unfold Machine.settleQuarter
  split
  · split
    · exact K.deliverQuarter _ _ _ (K.recordResult _ _ s h)
    · exact K.recordResult _ _ _ (K.discardSlots _ _ _ s h)
  · exact K.discardSlots _ _ _ s h

theorem forceHunt (x : Approach) (q : Quarter) (f : Frame) {s : State} (aligned : (s.ports.get x).framer = .aligned)
    (h : P s) : P (forceHunt x q f s) := by
  unfold Machine.forceHunt
  split
  · exact K.exitToHunt x [] aligned h
  · exact h

theorem checkFrame (x : Approach) (f : Frame) {s : State} (aligned : (s.ports.get x).framer = .aligned) (h : P s) :
    P (checkFrame x f s) := by
  have read : P (if f.marked = true then s else Machine.readFrameBits x f s) := by
    split
    · exact h
    · exact K.readFrameBits x f s h
  have still : ((if f.marked = true then s else Machine.readFrameBits x f s).ports.get x).framer = .aligned := by
    split <;> simp [aligned]
  unfold Machine.checkFrame
  dsimp only
  split
  · exact K.onPort read
  · next q _ =>
    split
    · exact K.onPort read
    · have settled := K.onPort (x := x) (f := fun p => { p with quarter := some (beginQuarter f) })
        (K.settleQuarter x q f _ read)
      exact K.forceHunt x q f (by simp [still]) settled

/-- A repeat is counted as a slip (R118). -/
theorem repeated (x : Approach) (s : State) (h : P s) :
    P (countEvent .linkSlip 1 (some (.port x)) (s.onPort x fun q =>
      { q with lastSlip := .repeat, repeats := q.repeats + 1 })) :=
  K.counted _ _ _ _ (K.onPort h)

theorem localFrameRead (x : Approach) (s : State) (h : P s) : P (localFrameRead x s) := by
  unfold Machine.localFrameRead
  dsimp only
  split
  · next aligned =>
    split
    · split
      · exact K.clockLost x aligned h
      · exact K.onPort h
    · split
      · next f rest store =>
        refine K.checkFrame x f (by simp [aligned]) (K.onPort h (fun ⟨size, sound⟩ => ⟨?_, sound⟩))
        rw [store] at size
        exact (Nat.le_succ _).trans size
      · split
        · exact K.clockLost x (by simp [aligned]) (K.repeated x s h)
        · exact K.repeated x s h
  · exact h

theorem centringTimeout (x : Approach) (s : State) (h : P s) : P (centringTimeout x s) := by
  unfold Machine.centringTimeout
  dsimp only
  split
  · next due => exact K.clockLost x due.1 h
  · exact h

theorem consecutiveRepeatLimit (x : Approach) (s : State) (h : P s) : P (consecutiveRepeatLimit x s) := by
  unfold Machine.consecutiveRepeatLimit
  dsimp only
  split
  · next due => exact K.clockLost x (by simp [due.1]) (K.repeated x s h)
  · exact h

theorem returnFrame (x : Approach) (s : State) (h : P s) : P (returnFrame x s) := by
  unfold Machine.returnFrame
  dsimp only
  split
  · exact h
  · split
    · exact K.onPort h
    · refine K.onPort h fun ⟨store, judged, history, _, four, thirty⟩ => ⟨store, judged, history, ?_, ?_, ?_⟩
      · dsimp only; omega
      · simp [four]
      · intro o ho
        rcases List.mem_append.1 ho with old | new
        · exact thirty o (List.mem_of_mem_drop old)
        · rw [List.mem_singleton.1 new]
          exact returnPayload_length s x

theorem feedOccupancy (s : State) (h : P s) : P (feedOccupancy s) := by
  unfold Machine.feedOccupancy
  split
  · exact K.fed _ (K.reports (addToCounters_told _ s) h)
  · exact h

/-- Every quiet command keeps the property. -/
theorem effect_quiet {c : Instr} (quiet : Instr.quiet c = true) (s : State) (h : P s) : P (effect c s) := by
  cases c <;> simp only [Instr.quiet, Bool.false_eq_true] at quiet
  case framingFault => exact K.link h
  case frameGapTimeout => exact K.link h
  case cabinetCrc => exact K.discardBadFrame s h
  case cacheAgeOut bus => exact K.uncache _ s h
  case tableOccupancy => exact K.feedOccupancy s h
  case candidateMarker x bits => exact K.candidateMarker x bits s h
  case confirmTest x bits => exact K.confirmTest x bits s h
  case frameSlot x bits => exact K.frameSlot x bits s h
  case localFrameRead x => exact K.localFrameRead x s h
  case centringTimeout x => exact K.centringTimeout x s h
  case consecutiveRepeatLimit x => exact K.consecutiveRepeatLimit x s h
  case returnFrame x => exact K.returnFrame x s h
  case rstnLow => exact K.hold s h
  case octetReceived o =>
    obtain ⟨asked, outbound⟩ := takeOctet_queues o s.link
    show P (s.onLink (takeCharacter (lineForm o)))
    refine K.link h ?_ ?_ ?_ <;> rw [takeCharacter_lineForm]
    · exact takeOctet_within o
    · exact asked
    · exact outbound

/-- The owner of every message that reads keeps the property. -/
theorem owner_reads {c : Instr} {want : AskedMessage → Bool} {owner : AskedMessage → State → State × Reply}
    (asked : Instr.asked c = some (want, owner)) (reads : Instr.reads c = true) (m : AskedMessage) (s : State) (h : P s) :
    P (owner m s).1 := by
  cases c <;> simp only [Instr.reads, Bool.false_eq_true] at reads <;> cases asked
  case unknownKind => exact h
  case readConfig => exact withLength_kept (fun b s h => by simpa using h) m s h
  case readStatus => exact withLength_kept (fun _ _ h => h) m s h
  case listRequests => exact withLength_kept (fun b s h => by simpa using h) m s h
  case readRequest => exact withLength_kept (fun b s h => by simpa using h) m s h
  case readOutcomes => exact withLength_kept K.readOutcomesOwner m s h
  case programCounter => exact withLength_kept K.programCounterOwner m s h
  case readCounters => exact withLength_kept K.readCountersOwner m s h
  case readSummary => exact withLength_kept (fun _ _ h => h) m s h
  case setNoticeMask => exact withLength_kept K.setNoticeMaskOwner m s h
  case clearNotices => exact K.clearNoticesOwner m s h
  case linkControl => exact withLength_kept K.linkControlOwner m s h
  case injectTelegram => exact withLength_kept K.injectTelegramOwner m s h

end QuietKept

end Sys2Proof.Machine
end

section
/-! SUPPORT. A property that the small operations of the blocks keep is kept by every command: first by the commands that
neither reset, configure, change the mode nor add an entry, then by all. -/

namespace Sys2Proof.Machine

/-! ### Operations of the exchange -/

/-- The lost tag memory is cleared (R95). -/
def State.forgot (s : State) : State := s.onPlanner fun p => { p with lost := none }

/-- The operations of the command exchange keep a property, each in the states in which the exchange makes it. -/
structure ExchangeKept (P : State → Prop) : Prop extends ReportKept P where
  acceptLead : ∀ c act n p s, s.planner.slot = some c → c.action = .adjust act → c.role = .lead → P s →
    P (acceptLead c act n p s)
  acceptFollower : ∀ c act n s, s.planner.slot = some c → c.action = .adjust act → c.role = .follower → P s →
    P (acceptFollower c n s)
  refuse : ∀ c act firm s, s.planner.slot = some c → c.action = .adjust act → P s → P (refuseCommand c firm s)
  timedOut : ∀ c act s, s.planner.slot = some c → c.action = .adjust act → P s →
    P ((refuseCommand c false s).onPlanner fun p => { p with lost := some (lostTagOf c act s) })
  settleRevise : ∀ c v s, s.planner.slot = some c → c.action = .revise → P s → P (settleRevise c v s)
  reviseLost : ∀ c s, s.planner.slot = some c → c.action = .revise → P s → P (emptySlot s)
  forget : ∀ s, P s → P s.forgot
  adoptLead : ∀ m n s, s.planner.lost = some m → m.role = .lead → s.forgot.adoptsLead m n = true → P s →
    P (adoptLead m n s.forgot)
  adoptFollower : ∀ m n s, s.planner.lost = some m → m.role = .follower → s.forgot.adoptsFollower m n = true → P s →
    P (adoptFollower m n s.forgot)
  pending : ∀ r s, P s → P (makePending r s)
  takeReport : ∀ s, P s → P (takeReport s)
  close : ∀ s, P s → P (closeGrant s)
  trigger : ∀ s, P s → P (triggerPass s)

theorem WorkKept.exchange {N : Nat → Prop} {P : State → Prop} (K : WorkKept N P)
    (trigger : ∀ s, P s → P (triggerPass s)) : ExchangeKept P where
  toReportKept := K.toReportKept
  acceptLead := fun _ _ _ _ s held adjusts _ h =>
    K.acceptLead (K.slotNamed s _ held (by rw [adjusts]; nofun) h) h
  acceptFollower := fun _ _ _ s _ _ _ h => K.acceptFollower _ _ s h
  refuse := fun _ _ _ s _ _ h => K.refuseCommand _ _ s h
  timedOut := fun c act s held adjusts h => by
    have named : N c.phase := K.slotNamed s c held (by rw [adjusts]; nofun) h
    refine K.planner (K.refuseCommand c false s h) ⟨rfl, rfl, fun _ hg => .inr ⟨_, hg, rfl⟩, fun m hm => .inl ?_⟩
    cases hm
    exact named
  settleRevise := fun _ _ s _ _ h => K.settleRevise _ _ s h
  reviseLost := fun _ s _ _ h => K.emptySlot s h
  forget := fun _ h => K.planner h ⟨rfl, rfl, fun _ hg => .inr ⟨_, hg, rfl⟩, nofun⟩
  adoptLead := fun m _ s lost _ adopts h =>
    K.adoptLead (K.lostNamed s m lost h) adopts (K.planner h ⟨rfl, rfl, fun _ hg => .inr ⟨_, hg, rfl⟩, nofun⟩)
  adoptFollower := fun _ _ _ _ _ adopts h =>
    K.adoptFollower adopts (K.planner h ⟨rfl, rfl, fun _ hg => .inr ⟨_, hg, rfl⟩, nofun⟩)
  pending := K.makePending
  takeReport := K.takeReport
  close := K.closeGrant
  trigger := trigger

@[simp] theorem countAnswer_planner (ev : AnswerEvent) (x : Option Approach) (s : State) :
    (countAnswer ev x s).planner = s.planner := (countAnswer_told ev x s).reported.planner

namespace ExchangeKept
variable {P : State → Prop} (K : ExchangeKept P)
include K

theorem lateAnswer {m : LostTag} {s : State} (lost : s.planner.lost = some m) (a : Answer) (h : P s) :
    P (lateAnswer m a s) := by
  have counted := K.answerCounted .late (some m.approach) s h
  have kept : (countAnswer .late (some m.approach) s).planner.lost = some m := by simpa using lost
  have revoked : ∀ u, P u → P (triggerPass (latchNotice .lateAccept 1 (revokeLate m u))) := fun u hu =>
    K.trigger _ (K.latch _ _ _ (K.pending _ u hu))
  unfold Machine.lateAnswer
  dsimp only
  split
  · exact K.forget _ counted
  · split
    · next lead =>
      split
      · next adopts => exact K.trigger _ (K.latch _ _ _ (K.adoptLead _ _ _ kept lead adopts counted))
      · exact revoked _ (K.forget _ counted)
    · next follower =>
      split
      · next adopts => exact K.trigger _ (K.latch _ _ _ (K.adoptFollower _ _ _ kept follower adopts counted))
      · exact revoked _ (K.forget _ counted)

theorem settleAdjust {c : Slot} {act : Action} {s : State} (held : s.planner.slot = some c)
    (adjusts : c.action = .adjust act) (v : Verdict) (h : P s) : P (settleAdjust c act v s) := by
  unfold Machine.settleAdjust
  split
  · next lead => exact K.acceptLead c act _ _ s held adjusts lead h
  · next follower => exact K.acceptFollower c act _ s held adjusts follower h
  · exact K.totals (f := fun t => { t with refused := tally32 t.refused })
      (fun t ⟨sent, accepted, partly, _, lost⟩ => ⟨sent, accepted, partly, tally32_le _, lost⟩) _ (K.refuse c act _ s held adjusts h)
  · exact K.refuse c act _ s held adjusts h

theorem slotAnswer {c : Slot} {s : State} (held : s.planner.slot = some c) (a : Answer) (h : P s) :
    P (slotAnswer c a s) := by
  unfold Machine.slotAnswer
  split
  · next act adjusts =>
    exact K.trigger _ (K.settleAdjust (by simpa using held) adjusts _ (K.answerCounted _ _ s h))
  · next revises =>
    exact K.trigger _ (K.settleRevise c _ _ (by simpa using held) revises (K.answerCounted _ _ s h))

theorem matchAnswer (a : Answer) (s : State) (h : P s) : P (matchAnswer a s) := by
  have late := K.answerCounted .late none s h
  have unmatched : P (match s.planner.lost with
      | some m => if m.tag = a.tag then Machine.lateAnswer m a s else countAnswer .late none s
      | none => countAnswer .late none s) := by
    split
    · next m lost =>
      split
      · exact K.lateAnswer lost a h
      · exact late
    · exact late
  unfold Machine.matchAnswer
  split
  · next c held =>
    split
    · exact K.slotAnswer held a h
    · exact unmatched
  · exact unmatched

theorem commandAnswered (b : List Octet) (s : State) (h : P s) : P (commandAnswered b s) := by
  unfold Machine.commandAnswered
  split
  · exact K.matchAnswer _ s h
  · exact h

theorem timeOut {c : Slot} {s : State} (held : s.planner.slot = some c) (h : P s) : P (timeOut c s) := by
  unfold Machine.timeOut
  split
  · next act adjusts =>
    have counted := K.answerCounted .timeout (some c.approach) _ (K.timedOut c act s held adjusts h)
    refine K.trigger _ ?_
    split
    · exact K.totals (f := fun t => { t with lost := tally32 t.lost })
        (fun _ ⟨sent, accepted, partly, refused, _⟩ => ⟨sent, accepted, partly, refused, tally32_le _⟩) _ counted
    · exact counted
  · next revises => exact K.trigger _ (K.answerCounted _ _ _ (K.reviseLost c s held revises h))

theorem answerTimeout (s : State) (h : P s) : P (answerTimeout s) := by
  unfold Machine.answerTimeout
  split
  · next c held =>
    split
    · exact K.timeOut held h
    · exact h
  · exact h

theorem forgetLost (s : State) (h : P s) : P (forgetLost s) := by
  unfold Machine.forgetLost
  split
  · split
    · exact K.forget s h
    · exact h
  · exact h

theorem armLimitDue (s : State) (h : P s) : P (armLimitDue s) := by
  unfold Machine.armLimitDue
  split
  · split
    · exact K.close s h
    · exact h
  · exact h

end ExchangeKept

/-! ### Operations of the table and of the other blocks -/

/-- The operations that the commands are made of keep a property. -/
structure Kept (P : State → Prop) : Prop extends ExchangeKept P, QuietKept P where
  leave : ∀ e code byOut toCache s, e ∈ s.table → P s → P (leaveTable e code byOut toCache s)
  update : ∀ t e s, e ∈ s.table → P s → P (updateKnown t e s)
  cache : ∀ bus x s, (∀ e ∈ s.table, e.bus ≠ bus) → P s → P (cacheBus bus x s)
  serve : ∀ s, P s → P { s with intake := s.intake.serve }
  review : ∀ r s, s.planner.review.isSome = true → P s → P (s.onPlanner fun p => { p with review := some r })
  pass : ∀ s, P s → P (planningPass s)
  status : ∀ b t s, readStatusBody s.phaseCount b = some t → P s → P (validStatus t s)
  stale : ∀ s, P s → P (staleExpires s)

/-- The small operations of every block keep a property. -/
structure PartsKept (N : Nat → Prop) (P : State → Prop) : Prop extends WorkKept N P, QuietKept P where
  trigger : ∀ s, P s → P (triggerPass s)
  remove : ∀ bus s, P s → P (removeEntry bus s)
  cache : ∀ bus x s, (∀ e ∈ s.table, e.bus ≠ bus) → P s → P (cacheBus bus x s)
  serve : ∀ s, P s → P { s with intake := s.intake.serve }
  flush : ∀ s, P s → P { s with intake := { s.intake with queues := .all [] } }
  review : ∀ r s, s.planner.review.isSome = true → P s → P (s.onPlanner fun p => { p with review := some r })
  pass : ∀ s, P s → P (planningPass s)
  status : ∀ b t s, readStatusBody s.phaseCount b = some t → P s → P (validStatus t s)
  stale : ∀ s, P s → P (staleExpires s)

namespace PartsKept
variable {N : Nat → Prop} {P : State → Prop} (K : PartsKept N P)
include K

theorem leaveTable (e : Entry) (code : OutcomeCode) (byOut toCache : Bool) (s : State) (h : P s) :
    P (leaveTable e code byOut toCache s) := by
  have told := K.tellDeparture e s h
  have removed := K.remove e.bus _ (K.reports (countEvent_told .close code.code (some (.port e.approach)) _)
    (K.reports (outcomeArrives_told (outcomeRecord e code (tellDeparture e s).now byOut) _) told))
  unfold Machine.leaveTable
  refine K.trigger _ ?_
  split
  · refine K.cache _ _ _ (fun q hq => ?_) removed
    simp only [removeEntry, List.mem_filter, bne_iff_ne] at hq
    exact hq.2
  · exact removed

theorem updateKnown (t : Telegram) {e : Entry} {s : State} (known : e ∈ s.table) (h : P s) : P (updateKnown t e s) := by
  refine K.trigger _ (K.rewritten _ s (fun q => ?_) (fun sound q hq => ?_) h)
  · dsimp only
    split
    · next same => rw [Entry.placeAfterUpdate_bus, same]; rfl
    · rfl
  · dsimp only
    split
    · exact updated_sound t s (sound e known)
    · exact sound q hq

/-- A property that the small operations keep is kept by the operations made of them. -/
theorem kept : Kept P where
  toExchangeKept := K.exchange K.trigger
  uncache := K.uncache
  push := K.push
  port := K.port
  fed := K.fed
  hold := K.hold
  leave := fun _ _ _ _ _ _ h => K.leaveTable _ _ _ _ _ h
  update := fun t _ _ known h => K.updateKnown t known h
  cache := K.cache
  serve := K.serve
  review := K.review
  pass := K.pass
  status := K.status
  stale := K.stale

theorem flushQueues (s : State) (h : P s) : P (flushQueues s) := by
  refine K.flush _ ?_
  exact foldl_kept (fun t q h => foldl_kept (fun t _ h => K.discarded _ _ t h) _ t h) _ s h

theorem abandonAll (s : State) (h : P s) : P (abandonAll s) :=
  foldl_kept (fun s _ h => K.remove _ _ (K.counted _ _ _ _ (K.reports (outcomeArrives_told _ _)
    (K.onGrant h)))) _ s h

theorem discardWork (s : State) (h : P s) : P (discardWork s) :=
  K.planner (f := fun p => { p with grant := none, lost := none, revise := none }) (K.release _ (K.emptySlot s h))
    ⟨rfl, rfl, nofun, nofun⟩

theorem dropShadow (s : State) (h : P s) : P (dropShadow s) := by
  unfold Machine.dropShadow
  split
  · split
    · next g _ _ =>
      exact K.grants (K.entries s (keepsEntry_ite (p := fun e => g.members.contains e.bus = true) (keepsEntry_waits _)
        keepsEntry_id) h) nofun
    · exact h
  · exact h

theorem changeMode (rest : ∀ s, P s → P { dropPass s with mode := .standby }) (go : ∀ m s, m ≠ .standby → P s →
    P { s with mode := m }) (target : Mode) (s : State) (h : P s) : P (changeMode target s) := by
  unfold Machine.changeMode
  split
  · exact rest _ (K.discardWork _ (K.abandonAll _ (K.flushQueues s h)))
  · exact go _ _ nofun h
  · exact go _ _ nofun (K.dropShadow s h)

/-! #### Admission (R16, R17) -/

/-- An entry leaves as a victim only from the re-evaluated table, which holds the same buses. -/
theorem admitFull {Q : State → Prop} (weaker : ∀ s, P s → Q s) {t : Telegram} {s : State}
    (admits : ∀ (e : Entry) (u : State), u.table.map Entry.bus = s.table.map Entry.bus → u.cache = s.cache → e ∈ u.table →
      P u → P (countEvent .evict 0 (some (.port e.approach)) (Machine.leaveTable e .evicted false false u)) →
      Q (admitBus t (countEvent .evict 0 (some (.port e.approach)) (Machine.leaveTable e .evicted false false u))))
    (h : P s) : Q (admitFull t s) := by
  have evaluated : P { s with table := s.table.map s.victimEvaluation } := K.entries s (keepsEntry_victimEvaluation s) h
  have buses : (s.table.map s.victimEvaluation).map Entry.bus = s.table.map Entry.bus := by
    rw [List.map_map]
    exact List.map_congr_left fun e _ => (keepsEntry_victimEvaluation s).bus e
  unfold Machine.admitFull
  dsimp only
  split
  · next e v victim =>
    split
    · exact admits e _ buses rfl (chooseVictim_mem victim) evaluated (K.counted _ _ _ _ (K.leaveTable _ _ _ _ _ evaluated))
    · exact weaker _ (K.counted _ _ _ _ evaluated)
  · exact weaker _ (K.counted _ _ _ _ evaluated)

/-- A property for which an admission is one more small operation. -/
theorem admitAny (joins : ∀ (t : Telegram) (s : State), P s →
      P { s with table := s.table ++ [(s.updateEvaluation (s.newEntry t)).placeAfterUpdate],
                 admissions := s.admissions + 1 }) (t : Telegram) (s : State) (h : P s) : P (admitAny t s) := by
  have admits : ∀ s, P s → P (admitBus t s) := fun s h => K.trigger _ (K.counted _ _ _ _ (joins t s h))
  unfold Machine.admitAny
  split
  · exact admits s h
  · exact K.admitFull (fun _ h => h) (fun _ _ _ _ _ _ left => admits _ left) h

end PartsKept

/-! ### Ordinary commands -/

/-- The commands that neither reset the part, nor come and go at the cabinet link, nor take in an entry. -/
def Instr.ordinary : Instr → Bool
  | .powerOnReset _ | .restartTakesEffect | .factoryTakesEffect | .outboundFrameSent => false
  | .askedMessageArrival | .restart | .factory => false
  | .checkIn | .position => false
  | c => (Instr.asked c).isNone

namespace Kept
variable {P : State → Prop} (K : Kept P)
include K

theorem reviewExpires (s : State) (h : P s) : P (reviewExpires s) := by
  unfold Machine.reviewExpires
  split
  · next due =>
    refine K.trigger _ (K.review _ s ?_ h)
    cases hr : s.planner.review with
    | none => simp [State.isDue, hr] at due
    | some r => rfl
  · exact h

/-! #### The table and the intake -/

theorem expireEntry (bus : Nat) (s : State) (h : P s) : P (expireEntry bus s) := by
  unfold Machine.expireEntry
  split
  · next e found =>
    split
    · exact K.leave _ _ _ _ s (findEntry_mem found) h
    · exact h
  · exact h

theorem cancelRequestOwner (b : List Octet) (s : State) (h : P s) : P (cancelRequestOwner b s).1 := by
  unfold Machine.cancelRequestOwner
  split
  · exact h
  · split
    · next e found => exact K.leave _ _ _ _ s (findEntry_mem found) h
    · exact h

/-! #### Telegrams -/

theorem takeKnown (t : Telegram) {e : Entry} {s : State} (known : e ∈ s.table) (h : P s) : P (takeKnown t e s) := by
  unfold Machine.takeKnown
  split
  · exact K.discarded _ _ s h
  · dsimp only
    split
    · exact K.discarded _ _ s h
    · split
      · exact K.discarded _ _ s h
      · cases t.kind
        · exact K.update t _ s known h
        · exact K.update t _ s known h
        · exact K.leave _ _ _ _ s known h
        · exact K.leave _ _ _ _ s known h

theorem takeUnknown_leaving {t : Telegram} (leaving : t.kind = .checkOut ∨ t.kind = .withdraw) {s : State}
    (unknown : ∀ e ∈ s.table, e.bus ≠ t.bus) (h : P s) : P (takeUnknown t s) := by
  unfold Machine.takeUnknown
  rcases leaving with kind | kind <;> rw [kind]
  · exact K.counted _ _ _ _ (K.cache _ _ s unknown h)
  · exact K.discarded _ _ s h

/-- A row takes a telegram of its own kind, and applies it to the entry of its bus or, with none, as of an unknown one. -/
theorem takeTelegram_leads {Q : State → Prop} (weaker : ∀ s, P s → Q s) {k : TelegramKind}
    (strange : ∀ t s, t.kind = k → (∀ e ∈ s.table, e.bus ≠ t.bus) → P s → Q (takeUnknown t s)) (s : State) (h : P s) :
    Q (takeTelegram k s) := by
  unfold Machine.takeTelegram
  split
  · split
    · next kind =>
      unfold applyTelegram
      split
      · next e known => exact weaker _ (K.takeKnown _ (findEntry_mem known) (K.serve s h))
      · next unknown => exact strange _ _ kind (findEntry_none unknown) (K.serve s h)
    · exact weaker s h
  · exact weaker s h

theorem takeTelegram {k : TelegramKind} (strange : ∀ t s, t.kind = k → (∀ e ∈ s.table, e.bus ≠ t.bus) → P s →
    P (takeUnknown t s)) (s : State) (h : P s) : P (takeTelegram k s) := K.takeTelegram_leads (fun _ h => h) strange s h

theorem lookUpAndAdmit_leads {Q : State → Prop} (weaker : ∀ s, P s → Q s) {t : Telegram} (admits : ∀ s,
      (∀ e ∈ s.table, e.bus ≠ t.bus) → (∀ c ∈ s.cache, c.bus ≠ t.bus) → P s → Q (Machine.admitAny t s)) {s : State}
    (unknown : ∀ e ∈ s.table, e.bus ≠ t.bus) (h : P s) : Q (lookUpAndAdmit t s) := by
  unfold Machine.lookUpAndAdmit
  split
  · next missed => exact admits _ (by simpa using unknown) (by simpa using findCached_none missed) (K.counted _ _ _ s h)
  · split
    · exact weaker _ (K.discarded _ _ _ (K.counted _ _ _ s h))
    · refine admits _ (by simpa using unknown) (by simp) ?_
      have looked := K.uncache (fun q => q.bus != t.bus) _ (K.counted .cacheLookup 2 (some t.source) s h)
      simpa using looked

/-- Every ordinary command keeps the property. -/
theorem effect_ordinary {c : Instr} (ordinary : Instr.ordinary c = true) (s : State) (h : P s) : P (effect c s) := by
  by_cases quiet : Instr.quiet c = true
  · exact K.effect_quiet quiet s h
  · cases c <;> simp only [Instr.quiet, Instr.ordinary, Instr.asked, Option.isNone_some, not_true_eq_false,
      Bool.false_eq_true, not_false_eq_true] at quiet ordinary
    case phaseStatus =>
      refine K.takeReceived (fun f s h => ?_) s h
      unfold statusArrives
      split
      · next valid => exact K.status _ _ s valid h
      · exact K.counted _ _ _ s h
    case commandAnswer => exact K.takeReceived (fun _ => K.commandAnswered _) s h
    case commandTransmitted => exact K.takeReport s h
    case checkOut => exact K.takeTelegram (fun _ _ kind => K.takeUnknown_leaving (.inl kind)) s h
    case withdraw => exact K.takeTelegram (fun _ _ kind => K.takeUnknown_leaving (.inr kind)) s h
    case entryExpiry bus => exact K.expireEntry bus s h
    case planningPass => exact K.pass s h
    case reviewTimer => exact K.reviewExpires s h
    case answerTimeout => exact K.answerTimeout s h
    case lostTagForget => exact K.forgetLost s h
    case armLimit => exact K.armLimitDue s h
    case staleTimer => exact K.stale s h

/-- What an admission leads to is what the rows that take in an entry lead to. -/
theorem takeTelegram_admits_leads {Q : State → Prop} (weaker : ∀ s, P s → Q s)
    (admits : ∀ (t : Telegram) s, (∀ e ∈ s.table, e.bus ≠ t.bus) → (∀ c ∈ s.cache, c.bus ≠ t.bus) → P s →
      Q (Machine.admitAny t s)) (k : TelegramKind) (s : State) (h : P s) : Q (Machine.takeTelegram k s) := by
  refine K.takeTelegram_leads weaker (fun t s _ unknown h => ?_) s h
  cases kind : t.kind
  case checkIn =>
    unfold Machine.takeUnknown
    rw [kind]
    exact K.lookUpAndAdmit_leads weaker (admits t) unknown h
  case position =>
    unfold Machine.takeUnknown
    rw [kind]
    exact K.lookUpAndAdmit_leads weaker (admits t) unknown h
  case checkOut => exact weaker _ (K.takeUnknown_leaving (.inl kind) unknown h)
  case withdraw => exact weaker _ (K.takeUnknown_leaving (.inr kind) unknown h)

/-- A property that an admission keeps is kept by the rows that take in an entry. -/
theorem takeTelegram_admits (admits : ∀ (t : Telegram) s, (∀ e ∈ s.table, e.bus ≠ t.bus) →
    (∀ c ∈ s.cache, c.bus ≠ t.bus) → P s → P (Machine.admitAny t s)) (k : TelegramKind) (s : State) (h : P s) :
    P (Machine.takeTelegram k s) := K.takeTelegram_admits_leads (fun _ h => h) admits k s h

/-- The owner of every asked message but those that configure or change the mode. -/
theorem owner_kept {c : Instr} {want : AskedMessage → Bool} {owner : AskedMessage → State → State × Reply}
    (asked : Instr.asked c = some (want, owner)) (plain : Instr.reads c = true ∨ c = .cancelRequest) (m : AskedMessage)
    (s : State) (h : P s) : P (owner m s).1 := by
  rcases plain with reads | rfl
  · exact K.owner_reads asked reads m s h
  · cases asked
    exact withLength_kept K.cancelRequestOwner m s h

end Kept

/-! ### All commands -/

/-- A property of a written configuration's sections is met in the states in which one is written (R151, R152). -/
abbrev State.writes (s : State) (count : Nat) (r : Items) : Prop :=
  structureOk s.config count r = true ∧ ¬(s.mode ≠ .standby ∧ r.items.any (fun it => it.name.standbyOnly) = true)

theorem configureOwner_cases (m : AskedMessage) (s : State) :
    (configureOwner m s).1 = s ∨
      ∃ count r, s.writes count r ∧ (configureOwner m s).1 = writeAll r.items s := by
  unfold configureOwner
  split
  · exact .inl rfl
  · next k body _ =>
    split
    · next r _ =>
      unfold judgeConfigure
      split
      · exact .inl rfl
      · next mode =>
        split
        · next ok => exact .inr ⟨k.toNat, r, ⟨ok, mode⟩, rfl⟩
        · exact .inl rfl
    · exact .inl rfl

/-- The owner of SET_MODE leaves the state, or changes the mode to another. -/
theorem setModeOwner_cases (m : AskedMessage) (s : State) :
    (withLength 2 setModeOwner m s).1 = s ∨
      ∃ target, target ≠ s.mode ∧ (withLength 2 setModeOwner m s).1 = changeMode target s := by
  unfold withLength setModeOwner
  split
  · split
    · unfold judgeMode
      split
      · exact .inl rfl
      · next other =>
        split
        · exact .inl rfl
        · split
          · exact .inl rfl
          · exact .inr ⟨_, other, rfl⟩
    · exact .inl rfl
  · exact .inl rfl

theorem finalReplySent_cases (r : Selector) (s : State) :
    finalReplySent r s = s ∨ finalReplySent r s = takeReset r s := by
  unfold finalReplySent
  split
  · split
    · exact .inr rfl
    · exact .inl rfl
  · exact .inl rfl

/-- The commands that may reset the part. -/
def Instr.resets : Instr → Bool
  | .powerOnReset _ | .restartTakesEffect | .factoryTakesEffect | .outboundFrameSent => true
  | _ => false

/-- The asked messages that write a configuration or may change the mode. -/
def Instr.commands : Instr → Bool
  | .configure | .setModeStandby | .setModeMonitor | .setModeRun => true
  | _ => false

/-- Every command that does not reset the part keeps a property, if the messages of the link and an admission keep it,
and if the owners of CONFIGURE and SET_MODE do. -/
theorem Kept.effect_unreset {P : State → Prop} (K : Kept P) (L : LineKept P) {c : Instr}
    (admits : c = .checkIn ∨ c = .position → ∀ (t : Telegram) s, (∀ e ∈ s.table, e.bus ≠ t.bus) →
      (∀ c ∈ s.cache, c.bus ≠ t.bus) → P s → P (admitAny t s)) (stays : Instr.resets c = false)
    (owns : ∀ want owner, Instr.asked c = some (want, owner) → Instr.commands c = true →
      ∀ m s, P s → P (owner m s).1) (s : State) (h : P s) : P (effect c s) := by
  by_cases ordinary : Instr.ordinary c = true
  · exact K.effect_ordinary ordinary s h
  · cases asked : Instr.asked c with
    | some row =>
      rw [effect_asked asked]
      refine L.takeAsked ?_ s h
      by_cases commands : Instr.commands c = true
      · exact owns _ _ asked commands
      · refine K.owner_kept asked ?_
        cases c <;> simp [Instr.asked, Instr.reads, Instr.commands] at asked commands ⊢
    | none =>
      cases c <;> simp [Instr.ordinary, Instr.asked, Instr.resets] at ordinary asked stays
      case askedMessageArrival => exact L.askedMessageArrival s h
      case restart => exact L.askRestart _ s h
      case factory => exact L.askRestart _ s h
      case checkIn => exact K.takeTelegram_admits (admits (.inl rfl)) _ s h
      case position => exact K.takeTelegram_admits (admits (.inr rfl)) _ s h

/-- Besides the operations of the commands, the messages of the link, the resets, the writing of a configuration, the
changes of mode and the admission of an entry keep a property. -/
structure AllKept (P : State → Prop) : Prop extends Kept P where
  line : LineKept P
  reset : ∀ r s, P s → P (takeReset r s)
  power : ∀ straps s, P s → P (powerOn straps s)
  write : ∀ count r s, s.writes count r → P s → P (writeAll r.items s)
  change : ∀ target s, target ≠ s.mode → P s → P (changeMode target s)
  admission : ∀ t s, (∀ e ∈ s.table, e.bus ≠ t.bus) → (∀ c ∈ s.cache, c.bus ≠ t.bus) → P s → P (admitAny t s)

namespace AllKept
variable {P : State → Prop} (K : AllKept P)
include K

theorem setModeOwner (m : AskedMessage) (s : State) (h : P s) : P (withLength 2 setModeOwner m s).1 := by
  rcases setModeOwner_cases m s with stays | ⟨target, other, changes⟩
  · rw [stays]; exact h
  · rw [changes]; exact K.change target s other h

theorem configureOwner (m : AskedMessage) (s : State) (h : P s) : P (configureOwner m s).1 := by
  rcases configureOwner_cases m s with stays | ⟨count, r, ok, writes⟩
  · rw [stays]; exact h
  · rw [writes]; exact K.write count r s ok h

theorem finalReplySent (r : Selector) (s : State) (h : P s) : P (finalReplySent r s) := by
  rcases finalReplySent_cases r s with stays | resets
  · rw [stays]; exact h
  · rw [resets]; exact K.reset r s h

theorem frameSent (s : State) (h : P s) : P (frameSent s) := by
  unfold Machine.frameSent
  split
  · exact h
  · next m out queued =>
    have freed : P (s.onLink fun k => { k with outbound := out }) := K.line.sent m out s queued h
    dsimp only
    split
    · split
      · split
        · exact K.reset _ s h
        · exact freed
      · exact freed
    · exact K.line.link freed
    · exact freed

/-- Every command keeps the property. -/
theorem effect (c : Instr) (s : State) (h : P s) : P (effect c s) := by
  by_cases resets : Instr.resets c = true
  · cases c <;> simp only [Instr.resets, Bool.false_eq_true] at resets
    case powerOnReset straps => exact K.power straps s h
    case restartTakesEffect => exact K.finalReplySent _ s h
    case factoryTakesEffect => exact K.finalReplySent _ s h
    case outboundFrameSent => exact K.frameSent s h
  · refine K.effect_unreset K.line (fun _ => K.admission) (by simpa using resets) (fun want owner asked commands => ?_) s h
    cases c <;> simp only [Instr.commands, Bool.false_eq_true] at commands
    case configure => cases asked; exact K.configureOwner
    case setModeStandby => cases asked; exact K.setModeOwner
    case setModeMonitor => cases asked; exact K.setModeOwner
    case setModeRun => cases asked; exact K.setModeOwner

end AllKept

end Sys2Proof.Machine
end

section
/-! SUPPORT. The sizes and agreements of Safety.lean that every step keeps: table and entries, queues, reports, allowance,
passes and ports. -/

namespace Sys2Proof.Machine

/-! ### Properties to which the marks of passes, the model and the review timer do not matter -/

/-- What a rewriting of the marks of passes and of the review timer leaves of the planner. -/
def Planner.work (p : Planner) : Option Slot × Option Grant × Option LostTag × Option Revise × Nat × PerApproach Nat ×
    PerApproach Nat × Ledger :=
  (p.slot, p.grant, p.lost, p.revise, p.tagCounter, p.tokens, p.refills, p.ledger)

/-- The small operations of the exchange keep a property, and so do those of the signal model. -/
structure SignalKept (N : Nat → Prop) (P : State → Prop) : Prop extends WorkKept N P where
  timer : ∀ r s, P s → P (s.onPlanner fun p => { p with review := r })
  modelState : ∀ m s, P s → P { s with model := { s.model with state := m } }
  anchor : ∀ a s, (∀ k, a = some k → N k.phase) → P s → P { s with model := { s.model with anchor := a } }

/-- The small operations keep a property, and so does any change of the model, of the marks of passes and of the review
timer. -/
structure FreeKept (P : State → Prop) : Prop extends PlainKept P where
  timer : ∀ r s, P s → P (s.onPlanner fun p => { p with review := r })
  marks : ∀ (f : Planner → Planner) (s : State), (∀ p, (f p).work = p.work) → P s → P (s.onPlanner f)
  model : ∀ m s, P s → P { s with model := m }
  remove : ∀ bus s, P s → P (removeEntry bus s)
  cache : ∀ bus x s, (∀ e ∈ s.table, e.bus ≠ bus) → P s → P (cacheBus bus x s)
  uncache : ∀ (keep : CacheEntry → Bool) s, P s → P { s with cache := s.cache.filter keep }
  push : ∀ q t s, s.mode ≠ .standby → (s.intake.queues.get q).length < 8 → P s →
    P { s with intake := { s.intake with queues := s.intake.queues.set q (s.intake.queues.get q ++ [t]) } }
  serve : ∀ s, P s → P { s with intake := s.intake.serve }
  flush : ∀ s, P s → P { s with intake := { s.intake with queues := .all [] } }
  port : ∀ x f s, KeepsPort f (s.ports.get x) → P s → P (s.onPort x f)
  fed : ∀ s, P s → P { s with occupancyFed := true }
  hold : ∀ s, P s → P { s with held := true }

/-- The allowance after one refill, or none (R83). -/
theorem refillOne_allowance {s : State} (sound : s.AllowanceSound) (x : Approach) : (refillOne s x).AllowanceSound := by
  obtain ⟨tokens, ledger⟩ := sound
  unfold refillOne
  dsimp only
  split
  · refine ⟨fun y hy => ?_, ledger⟩
    have old := tokens y hy
    by_cases same : y = x
    · subst same
      simp only [State.onPlanner_planner, State.onPlanner_config]
      split
      · rw [PerApproach.get_set_self]; omega
      · exact old
    · simp only [State.onPlanner_planner, State.onPlanner_config]
      split
      · rw [PerApproach.get_set_other _ _ _ _ same]; exact old
      · exact old
  · exact ⟨tokens, ledger⟩

theorem WorkKept.refillOne {N : Nat → Prop} {P : State → Prop} (K : WorkKept N P) (s : State) (x : Approach) (h : P s) :
    P (refillOne s x) := by
  have allowed := fun sound => refillOne_allowance (s := s) sound x
  unfold Machine.refillOne at allowed ⊢
  dsimp only at allowed ⊢
  split
  · next due =>
    rw [if_pos due] at allowed
    exact K.allowance _ s ⟨rfl, rfl, fun _ h => .inr ⟨_, h, rfl⟩, fun _ h => .inr h⟩ allowed h
  · next due =>
    rw [if_neg due] at allowed
    exact K.allowance _ s ⟨rfl, rfl, fun _ h => .inr ⟨_, h, rfl⟩, fun _ h => .inr h⟩ allowed h

theorem WorkKept.cycleStart {N : Nat → Prop} {P : State → Prop} (K : WorkKept N P) (s : State) (h : P s) :
    P (cycleStart s) := by
  unfold Machine.cycleStart renewLedger
  exact K.ledger (fun _ _ => ⟨Nat.zero_le _, Nat.zero_le _⟩) (foldl_kept K.refillOne _ s h)

namespace SignalKept
variable {N : Nat → Prop} {P : State → Prop} (K : SignalKept N P)
include K

theorem setModelState (m : ModelState) (s : State) (h : P s) : P (setModelState m s) := by
  have entered : P (latchNotice .signalModel m.code { s with model := { s.model with state := m } }) :=
    K.latch _ _ _ (K.modelState _ s h)
  unfold Machine.setModelState
  split
  · exact h
  · unfold signalPlanner
    split
    · exact K.timer _ _ entered
    · split
      · have stopped := K.timer none _ entered
        dsimp only
        split
        · split
          · exact K.closeGrant _ stopped
          · exact stopped
        · exact stopped
      · exact entered

theorem statusTaken {t : Status} {s : State} (named : N t.phase) (h : P s) : P (statusTaken t s) := by
  have taken := K.setModelState (t.modelState s.config) _
    (K.anchor (some (t.anchor s.now)) s (fun _ hk => by cases hk; exact named) h)
  unfold Machine.statusTaken
  refine K.grantStatus _ _ _ ?_
  split
  · exact K.cycleStart _ taken
  · exact taken

theorem stale (s : State) (h : P s) : P (staleExpires s) := by
  unfold staleExpires
  split
  · exact K.setModelState _ s h
  · exact h

theorem discardAnchor (s : State) (h : P s) : P (discardAnchor s) := K.setModelState _ _ (K.anchor none s nofun h)

end SignalKept

namespace FreeKept
variable {P : State → Prop} (K : FreeKept P)
include K

theorem signal : SignalKept anyPhase P where
  toWorkKept := K.work
  timer := K.timer
  modelState := fun _ _ h => K.model _ _ h
  anchor := fun _ _ _ h => K.model _ _ h

theorem discardAnchor (s : State) (h : P s) : P (discardAnchor s) := K.signal.discardAnchor s h

theorem trigger (s : State) (h : P s) : P (triggerPass s) := by
  unfold triggerPass
  split
  · exact h
  · split
    · exact K.marks _ s (fun _ => rfl) h
    · exact K.marks _ s (fun _ => rfl) h

theorem pass (s : State) (h : P s) : P (planningPass s) := by
  unfold planningPass
  split
  · exact K.marks _ _ (fun _ => rfl) (K.work.passBody _ (K.marks _ s (fun _ => rfl) h))
  · exact h

theorem parts : PartsKept anyPhase P where
  toWorkKept := K.work
  uncache := K.uncache
  push := K.push
  port := K.port
  fed := K.fed
  hold := K.hold
  trigger := K.trigger
  remove := K.remove
  cache := K.cache
  serve := K.serve
  flush := K.flush
  review := fun _ s _ h => K.timer _ s h
  pass := K.pass
  status := fun _ _ _ _ h => K.trigger _ (K.signal.statusTaken trivial h)
  stale := K.signal.stale

theorem kept : Kept P := K.parts.kept

end FreeKept

/-! ### Resets -/

theorem ReportKept.reset {P : State → Prop} (K : ReportKept P)
    (restart : ∀ s, P s → P (s.cleared s.config s.notices.mask s.countersKept))
    (fresh : ∀ s : State, P (s.cleared .factory maskFactory (List.replicate 8 Counter.blank))) (r : Selector) (s : State)
    (h : P s) : P (takeReset r s) := by
  cases r
  · exact K.latch .restarted 1 _ (restart s h)
  · exact K.latch .restarted 2 _ (fresh s)

theorem ReportKept.power {P : State → Prop} (K : ReportKept P)
    (fresh : ∀ s : State, P (s.cleared .factory maskFactory (List.replicate 8 Counter.blank))) (straps : BitVec 2)
    (s : State) : P (powerOn straps s) := K.latch .restarted 0 _ (fresh _)

/-! ### Writing a configuration (R154) -/

theorem QuietKept.disablePort {P : State → Prop} (K : QuietKept P) (anyPort : ∀ x f s, (∀ p : Port, p.Sound → (f p).Sound) → P s →
    P (s.onPort x f)) (x : Approach) (s : State) (h : P s) : P (disablePort x s) := by
  have stops : P (if (s.ports.get x).framer = .aligned then Machine.leaveAligned x s else s) := by
    split
    · exact K.leaveAligned x s h
    · exact h
  unfold Machine.disablePort
  dsimp only
  split
  · exact h
  · exact anyPort x _ _ (fun _ ⟨_, rest⟩ => ⟨Nat.zero_le _, rest⟩) stops

theorem WorkKept.limitTokens {N : Nat → Prop} {P : State → Prop} (K : WorkKept N P)
    (x : Approach) (kMax : Nat) (s : State) (h : P s) :
    P (limitTokens x kMax s) := by
  unfold Machine.limitTokens
  split
  · next above =>
    refine K.allowance _ s ⟨rfl, rfl, fun _ h => .inr ⟨_, h, rfl⟩, fun _ h => .inr h⟩
      (fun ⟨tokens, ledger⟩ => ⟨fun y hy => ?_, ledger⟩) h
    have old := tokens y hy
    by_cases same : y = x
    · subst same
      simp only [State.onPlanner_planner, State.onPlanner_config, PerApproach.get_set_self]
      omega
    · simpa [PerApproach.get_set_other _ _ _ _ same] using old
  · exact h

theorem sentZero_sound : sentZero.length = 4 ∧ ∀ o ∈ sentZero, o.length = 30 := by
  refine ⟨rfl, fun o ho => ?_⟩
  rw [List.eq_of_mem_replicate ho]
  rfl

/-- The effects of written sections keep a property to which any sound rewriting of a port and the discard of the anchor
are small operations. -/
theorem WorkKept.sectionEffect {N : Nat → Prop} {P : State → Prop} (K : WorkKept N P) (Q : QuietKept P)
    (anyPort : ∀ x f s, (∀ p : Port, p.Sound → (f p).Sound) → P s → P (s.onPort x f))
    (discards : ∀ s, P s → P (discardAnchor s)) (s : State) (it : Item) (h : P s) : P (sectionEffect s it) := by
  have enable : ∀ x, P (enablePort x s) := fun x => by
    unfold enablePort
    split
    · refine anyPort x _ s (fun p ⟨_, judged, history, _, _⟩ => ?_) h
      exact ⟨Nat.zero_le _, judged, history, Nat.zero_le _, sentZero_sound⟩
    · exact h
  unfold Machine.sectionEffect
  split
  · exact discards s h
  · exact discards s h
  · split
    · next x _ =>
      refine K.limitTokens x _ _ ?_
      unfold followEnabled
      split
      · exact enable x
      · exact Q.disablePort anyPort x s h
    · exact h
  all_goals exact h

theorem PartsKept.sectionEffect {N : Nat → Prop} {P : State → Prop} (K : PartsKept N P)
    (anyPort : ∀ x f s, (∀ p : Port, p.Sound → (f p).Sound) → P s → P (s.onPort x f))
    (discards : ∀ s, P s → P (discardAnchor s)) (s : State) (it : Item) (h : P s) : P (sectionEffect s it) :=
  K.toWorkKept.sectionEffect K.toQuietKept anyPort discards s it h

/-- What every section's effect keeps, and what the effect of a section that hits brings about, holds after all of them
if it held before or one of them hits. -/
theorem foldl_settles {Q R : State → Prop} {hits : Item → Prop} (base : ∀ s it, Q s → Q (sectionEffect s it))
    (keeps : ∀ s it, R s → R (sectionEffect s it)) (settles : ∀ s it, hits it → Q s → R (sectionEffect s it)) :
    ∀ (items : List Item) (s : State), Q s → (R s ∨ ∃ it ∈ items, hits it) → R (items.foldl sectionEffect s)
  | [], s, _, h => by
    rcases h with h | ⟨it, hit, -⟩
    · exact h
    · exact absurd hit List.not_mem_nil
  | it :: items, s, q, h => by
    refine foldl_settles base keeps settles items _ (base s it q) ?_
    rcases h with h | ⟨i, hi, hit⟩
    · exact .inl (keeps s it h)
    · rcases List.mem_cons.1 hi with rfl | later
      · exact .inl (settles s _ hit q)
      · exact .inr ⟨i, later, hit⟩

/-- A property to which neither configuration nor mode matters is kept by every command that does not reset the part, if
an admission keeps it. -/
theorem FreeKept.effect_stays {P : State → Prop} (K : FreeKept P) (config : ∀ c s, P s → P { s with config := c })
    (modes : ∀ m s, P s → P { s with mode := m }) (ports : ∀ x f s, P s → P (s.onPort x f)) {c : Instr}
    (admits : c = .checkIn ∨ c = .position → ∀ t s, P s → P (admitAny t s)) (stays : Instr.resets c = false) (s : State)
    (h : P s) : P (effect c s) := by
  refine K.kept.effect_unreset K.toWideKept.line (fun row t s _ _ => admits row t s) stays
    (fun want owner asked commands m s h => ?_) s h
  have mode : P (withLength 2 setModeOwner m s).1 := by
    rcases setModeOwner_cases m s with stays | ⟨target, -, changes⟩
    · rw [stays]; exact h
    · rw [changes]
      exact K.parts.changeMode (fun s h => modes _ _ (K.marks _ s (fun _ => rfl) h)) (fun m s _ h => modes m s h) target s h
  cases c <;> simp only [Instr.commands, Bool.false_eq_true] at commands
  case configure =>
    cases asked
    rcases configureOwner_cases m s with stays | ⟨count, r, -, writes⟩
    · rw [stays]; exact h
    · rw [writes]
      exact foldl_kept (K.parts.sectionEffect (fun x f s _ => ports x f s) K.discardAnchor) r.items _ (config _ s h)
  case setModeStandby => cases asked; exact mode
  case setModeMonitor => cases asked; exact mode
  case setModeRun => cases asked; exact mode

/-- A property to which neither the mode nor the marks matter, kept besides by the resets, by the writing of a
configuration and by an admission, is kept by every command. -/
theorem FreeKept.all {P : State → Prop} (K : FreeKept P)
    (restart : ∀ s, P s → P (s.cleared s.config s.notices.mask s.countersKept))
    (fresh : ∀ s : State, P (s.cleared .factory maskFactory (List.replicate 8 Counter.blank)))
    (write : ∀ count r s, s.writes count r → P s → P (writeAll r.items s))
    (modes : ∀ m s, P s → P { s with mode := m })
    (admission : ∀ t s, (∀ e ∈ s.table, e.bus ≠ t.bus) → (∀ c ∈ s.cache, c.bus ≠ t.bus) → P s → P (admitAny t s)) :
    AllKept P where
  toKept := K.kept
  line := K.toWideKept.line
  reset := K.report.reset restart fresh
  power := fun straps s _ => K.report.power fresh straps s
  write := write
  change := fun target s _ h =>
    K.parts.changeMode (fun s h => modes _ _ (K.marks _ s (fun _ => rfl) h)) (fun m s _ h => modes m s h) target s h
  admission := admission

/-! ### Request table and cache (R7, R18) -/

theorem updateEntry_buses {f : Entry → Entry} (bus : ∀ e, (f e).bus = e.bus) (l : List Entry) :
    (l.map f).map Entry.bus = l.map Entry.bus := by
  rw [List.map_map]
  exact List.map_congr_left fun e _ => bus e

/-- Whether a state is sound rests on the buses of the table and of the cache alone. -/
theorem tableSound_of_buses {s t : State} (table : t.table.map Entry.bus = s.table.map Entry.bus) (cache : t.cache = s.cache)
    (h : s.TableSound) : t.TableSound := by
  obtain ⟨most, nodup, cached, cacheNodup, apart⟩ := h
  refine ⟨?_, table ▸ nodup, cache ▸ cached, cache ▸ cacheNodup, fun c hc e he same => ?_⟩
  · simpa using (congrArg List.length table).trans_le (by simpa using most)
  · rw [cache] at hc
    obtain ⟨q, hq, bus⟩ := List.mem_map.1 (table ▸ List.mem_map_of_mem (f := Entry.bus) he)
    exact apart c hc q hq (same.trans bus.symm)

theorem oldestCached_mem {now : PartTime} : ∀ {l : List CacheEntry} {c : CacheEntry}, oldestCached now l = some c → c ∈ l
  | [], _, h => by cases h
  | d :: l, c, h => by
    unfold oldestCached at h
    split at h
    · cases h; simp
    · next q hq =>
      split at h
      · cases h; simp
      · cases h; exact List.mem_cons_of_mem _ (oldestCached_mem hq)

theorem oldestCached_none {now : PartTime} : ∀ {l : List CacheEntry}, oldestCached now l = none → l = []
  | [], _ => rfl
  | d :: l, h => by
    unfold oldestCached at h
    split at h
    · cases h
    · split at h <;> cases h

/-- The cache after a bus has entered it: some of the old entries of other buses, at most fifteen, and the new one
(R18). -/
theorem cacheBus_cache (bus : Nat) (x : Approach) (s : State) (room : s.cache.length ≤ 16) :
    ∃ kept, (cacheBus bus x s).cache = kept ++ [{ bus := bus, approach := x, time := s.now }] ∧
      kept.Sublist (s.cache.filter fun c => c.bus != bus) ∧ kept.length ≤ 15 := by
  unfold cacheBus
  dsimp only
  have fewer : (s.cache.filter fun c => c.bus != bus).length ≤ s.cache.length := List.length_filter_le _ _
  split
  · next free =>
    refine ⟨_, rfl, List.Sublist.refl _, ?_⟩
    simp only [Bool.or_eq_true, decide_eq_true_eq] at free
    omega
  · split
    · next d hd =>
      refine ⟨_, rfl, List.filter_sublist, ?_⟩
      have gone : ((s.cache.filter fun c => c.bus != bus).filter fun c => c.bus != d.bus).length <
          (s.cache.filter fun c => c.bus != bus).length := by
        refine lt_of_le_of_ne (List.length_filter_le _ _) fun same => ?_
        have all := List.length_filter_eq_length_iff.1 same d (oldestCached_mem hd)
        simp at all
      omega
    · next empty => exact ⟨_, rfl, List.Sublist.refl _, by rw [oldestCached_none empty]; simp⟩

theorem cacheBus_sound {s : State} {bus : Nat} (x : Approach) (absent : ∀ e ∈ s.table, e.bus ≠ bus) (h : s.TableSound) :
    (cacheBus bus x s).TableSound := by
  obtain ⟨most, nodup, cached, cacheNodup, apart⟩ := h
  obtain ⟨kept, written, others, few⟩ := cacheBus_cache bus x s cached
  have old : kept.Sublist s.cache := others.trans List.filter_sublist
  have other : ∀ c ∈ kept, c.bus ≠ bus := fun c hc => by simpa using (List.mem_filter.1 (others.subset hc)).2
  refine ⟨most, nodup, ?_, ?_, ?_⟩
  · rw [written]; simp; omega
  · rw [written, List.map_append, List.nodup_append]
    refine ⟨(old.map _).nodup cacheNodup, by simp, fun b hb b' hb' => ?_⟩
    obtain ⟨c, hc, rfl⟩ := List.mem_map.1 hb
    simp only [List.map_cons, List.map_nil, List.mem_singleton] at hb'
    rw [hb']
    exact other c hc
  · rw [written]
    intro c hc e he
    rcases List.mem_append.1 hc with hk | hn
    · exact apart c (old.subset hk) e he
    · rw [List.mem_singleton.1 hn]
      exact fun same => absent e he same.symm

theorem tableSound_filter {s : State} (keep : Entry → Bool) (h : s.TableSound) :
    State.TableSound { s with table := s.table.filter keep } := by
  obtain ⟨most, nodup, cached, cacheNodup, apart⟩ := h
  exact ⟨(List.length_filter_le _ _).trans most, (List.filter_sublist.map _).nodup nodup, cached, cacheNodup,
    fun c hc e he => apart c hc e (List.mem_filter.1 he).1⟩

theorem tableSound_free : FreeKept State.TableSound where
  reports := fun r h => tableSound_of_buses (by rw [r.table]) r.cache h
  allowance := fun _ _ _ _ h => h
  rewritten := fun f s bus _ h => tableSound_of_buses (updateEntry_buses bus _) rfl h
  timer := fun _ _ h => h
  marks := fun _ _ _ h => h
  model := fun _ _ h => h
  remove := fun _ _ h => tableSound_filter _ h
  cache := fun _ x _ absent h => cacheBus_sound x absent h
  uncache := fun keep s ⟨most, nodup, cached, cacheNodup, apart⟩ =>
    ⟨most, nodup, (List.length_filter_le _ _).trans cached, (List.filter_sublist.map _).nodup cacheNodup,
      fun c hc => apart c (List.mem_filter.1 hc).1⟩
  push := fun _ _ _ _ _ h => h
  serve := fun _ h => h
  flush := fun _ h => h
  port := fun _ _ _ _ h => h
  fed := fun _ h => h
  hold := fun _ h => h

/-! #### What the work of the exchange leaves standing -/

/-- What the command exchange and the body of a pass never touch, with the buses of the table in their order. -/
structure Surroundings where
  pending : List Instr
  held : Bool
  mode : Mode
  now : PartTime
  rate : BitVec 2
  config : Configuration
  intake : Intake
  buses : List Nat
  admissions : BitVec 16
  cache : List CacheEntry
  model : SignalModel
  ports : PerApproach Port
  occupancyFed : Bool
  choices : Nat

def State.surroundings (s : State) : Surroundings :=
  { pending := s.pending, held := s.held, mode := s.mode, now := s.now, rate := s.rate, config := s.config,
    intake := s.intake, buses := s.table.map Entry.bus, admissions := s.admissions, cache := s.cache, model := s.model,
    ports := s.ports, occupancyFed := s.occupancyFed, choices := s.choices }

/-- The command exchange and the body of a pass leave the surroundings. -/
theorem surroundings_plain (around : Surroundings) : PlainKept fun t => t.surroundings = around where
  reports := fun {s t} r h => by rw [← h, r.frame]; rfl
  allowance := fun _ _ _ _ h => h
  rewritten := fun f s bus _ h => by
    rw [← h]
    simp only [State.surroundings, updateEntry_buses bus]

/-- An admission over a victim: with the victim gone there is room, and the newcomer's bus is in neither table nor
cache. -/
theorem tableSound_joins {s : State} (e : Entry) (absent : ∀ q ∈ s.table, q.bus ≠ e.bus)
    (uncached : ∀ c ∈ s.cache, c.bus ≠ e.bus) (room : s.table.length < 32) (n : BitVec 16) (h : s.TableSound) :
    State.TableSound { s with table := s.table ++ [e], admissions := n } := by
  obtain ⟨most, nodup, cached, cacheNodup, apart⟩ := h
  refine ⟨by simp; omega, ?_, cached, cacheNodup, fun c hc q hq => ?_⟩
  · simp only [List.map_append, List.map_cons, List.map_nil]
    refine List.nodup_append.2 ⟨nodup, by simp, fun b hb b' hb' => ?_⟩
    obtain ⟨q, hq, rfl⟩ := List.mem_map.1 hb
    rw [List.mem_singleton.1 hb']
    exact absent q hq
  · rcases List.mem_append.1 hq with hq | hq
    · exact apart c hc q hq
    · rw [List.mem_singleton.1 hq]
      exact uncached c hc

theorem newcomer_bus (t : Telegram) (s : State) : (s.updateEvaluation (s.newEntry t)).placeAfterUpdate.bus = t.bus := by
  rw [Entry.placeAfterUpdate_bus]; rfl

theorem admitBus_tableSound {t : Telegram} {s : State} (unknown : ∀ e ∈ s.table, e.bus ≠ t.bus)
    (uncached : ∀ c ∈ s.cache, c.bus ≠ t.bus) (room : s.table.length < 32) (h : s.TableSound) :
    (admitBus t s).TableSound :=
  tableSound_free.trigger _ (tableSound_free.reports (countEvent_told _ _ _ _).reported
    (tableSound_joins _ (by rw [newcomer_bus]; exact unknown) (by rw [newcomer_bus]; exact uncached) room _ h))

/-- The table after an entry has left: the entries of the other buses. -/
theorem leaveTable_buses (e : Entry) (code : OutcomeCode) (byOut toCache : Bool) (s : State) :
    (leaveTable e code byOut toCache s).table.map Entry.bus = (s.table.map Entry.bus).filter fun b => b != e.bus := by
  have told : (tellDeparture e s).table.map Entry.bus = s.table.map Entry.bus :=
    congrArg Surroundings.buses ((surroundings_plain s.surroundings).work.tellDeparture e s rfl)
  have table : (leaveTable e code byOut toCache s).table = (tellDeparture e s).table.filter fun q => q.bus != e.bus := by
    unfold leaveTable
    dsimp only
    split <;> simp [removeEntry]
  rw [table, ← told, List.filter_map]
  rfl

theorem leaveTable_cache_stays (e : Entry) (code : OutcomeCode) (byOut : Bool) (s : State) :
    (leaveTable e code byOut false s).cache = s.cache := by
  simp [leaveTable]

theorem tableSound_all : AllKept State.TableSound :=
  tableSound_free.all (restart := fun _ _ => ⟨Nat.zero_le _, List.nodup_nil, Nat.zero_le _, List.nodup_nil, nofun⟩)
    (fresh := fun _ => ⟨Nat.zero_le _, List.nodup_nil, Nat.zero_le _, List.nodup_nil, nofun⟩)
    (write := fun _ r s _ h =>
      foldl_kept (tableSound_free.parts.sectionEffect (fun _ _ _ _ h => h) tableSound_free.discardAnchor) r.items _ h)
    (modes := fun _ _ h => h)
    (admission := by
      intro t s unknown uncached h
      unfold admitAny
      split
      · next room => exact admitBus_tableSound unknown uncached room h
      · refine tableSound_free.parts.admitFull (fun _ h => h) (fun e u buses cached he sound left => ?_) h
        have stay : ∀ q ∈ (leaveTable e .evicted false false u).table, q.bus ∈ (s.table.map Entry.bus).filter (· != e.bus) := by
          intro q hq
          rw [← buses, ← leaveTable_buses e .evicted false false u]
          exact List.mem_map_of_mem hq
        refine admitBus_tableSound ?_ ?_ ?_ left
        · simp only [countEvent_table]
          intro q hq
          obtain ⟨q', hq', same⟩ := List.mem_map.1 (List.mem_filter.1 (stay q hq)).1
          rw [← same]
          exact unknown q' hq'
        · simp only [countEvent_cache, leaveTable_cache_stays, cached]
          exact uncached
        · have size := congrArg List.length (leaveTable_buses e .evicted false false u)
          have gone : ((u.table.map Entry.bus).filter fun b => b != e.bus).length < (u.table.map Entry.bus).length := by
            refine lt_of_le_of_ne (List.length_filter_le _ _) fun same => ?_
            have all := List.length_filter_eq_length_iff.1 same e.bus (List.mem_map_of_mem he)
            simp at all
          rw [List.length_map] at size
          rw [List.length_map (as := u.table)] at gone
          have most := sound.1
          simp only [countEvent_table]
          omega)

/-! ### Entries (R13, R78, R79) -/

theorem entriesSound_free : FreeKept State.EntriesSound where
  reports := fun r h => by rw [State.EntriesSound, r.table]; exact h
  allowance := fun _ _ _ _ h => h
  rewritten := fun f s _ sound h => by
    intro e he
    obtain ⟨q, hq, rfl⟩ := List.mem_map.1 he
    exact sound h q hq
  timer := fun _ _ h => h
  marks := fun _ _ _ h => h
  model := fun _ _ h => h
  remove := fun _ _ h e he => h e (List.mem_filter.1 he).1
  cache := fun _ _ _ _ h => h
  uncache := fun _ _ h => h
  push := fun _ _ _ _ _ h => h
  serve := fun _ h => h
  flush := fun _ h => h
  port := fun _ _ _ _ h => h
  fed := fun _ h => h
  hold := fun _ h => h

theorem entriesSound_cleared (s : State) (c : Configuration) (mask : PerLatch Bool) (counters : List Counter) :
    (s.cleared c mask counters).EntriesSound := fun _ he => absurd he List.not_mem_nil

theorem entriesSound_all : AllKept State.EntriesSound :=
  entriesSound_free.all (restart := fun s _ => entriesSound_cleared s _ _ _)
    (fresh := fun s => entriesSound_cleared s _ _ _)
    (write := fun _ r s _ h =>
      foldl_kept (entriesSound_free.parts.sectionEffect (fun _ _ _ _ h => h) entriesSound_free.discardAnchor) r.items _ h)
    (modes := fun _ _ h => h)
    (admission := fun t s _ _ h => entriesSound_free.parts.admitAny (fun t s h e he => by
      rcases List.mem_append.1 he with old | new
      · exact h e old
      · rw [List.mem_singleton.1 new]; exact newcomer_sound t s) t s h)

theorem AllKept.steps {P : State → Prop} (K : AllKept P)
    (waiting : ∀ pending choices s, P s → P { s with pending := pending, choices := choices })
    (tick : ∀ s, P s → P (tick s)) : StepKept P where
  waiting := waiting
  tick := tick
  effect := K.effect

/-- Settles O53: each of the two properties is kept by every small operation, and so by every command. -/
theorem everyStepKeepsTheTable : Obligations.EveryStepKeepsTheTable := by
  unfold Obligations.EveryStepKeepsTheTable
  intro s t next
  exact ⟨(tableSound_all.steps (fun _ _ _ h => h) fun _ h => h).step next,
    (entriesSound_all.steps (fun _ _ _ h => h) fun _ h => h).step next⟩

end Sys2Proof.Machine
end

section
/-! SUPPORT. Reports, allowance, passes and ports: each within its limits after every step. -/

namespace Sys2Proof.Machine

/-! ### Intake queues (R4) -/

theorem mem_allApproaches (x : Approach) : x ∈ allApproaches := by cases x <;> decide

theorem serve_queue (i : Intake) (q : Source) : (i.serve.queues.get q).length ≤ (i.queues.get q).length := by
  unfold Intake.serve
  split
  · exact le_rfl
  · next r _ =>
    by_cases same : q = r
    · subst same; simp
    · rw [PerSource.get_set_other _ _ _ _ same]

theorem queuesSound_free : FreeKept State.QueuesSound where
  reports := fun r h => by rw [State.QueuesSound, r.intake]; exact h
  allowance := fun _ _ _ _ h => h
  rewritten := fun _ _ _ _ h => h
  timer := fun _ _ h => h
  marks := fun _ _ _ h => h
  model := fun _ _ h => h
  remove := fun _ _ h => h
  cache := fun _ _ _ _ h => h
  uncache := fun _ _ h => h
  push := fun q t s _ room h r hr => by
    by_cases same : r = q
    · subst same; simp; omega
    · simpa [PerSource.get_set_other _ _ _ _ same] using h r hr
  serve := fun s h q hq => (serve_queue s.intake q).trans (h q hq)
  flush := fun _ _ q _ => by simp
  port := fun _ _ _ _ h => h
  fed := fun _ h => h
  hold := fun _ h => h

theorem queuesSound_cleared (s : State) (c : Configuration) (mask : PerLatch Bool) (counters : List Counter) :
    (s.cleared c mask counters).QueuesSound := fun q _ => by simp [State.cleared, Intake.atReset]

theorem queuesSound_all : AllKept State.QueuesSound :=
  queuesSound_free.all (restart := fun s _ => queuesSound_cleared s _ _ _)
    (fresh := fun s => queuesSound_cleared s _ _ _)
    (write := fun _ r _ _ h =>
      foldl_kept (queuesSound_free.parts.sectionEffect (fun _ _ _ _ h => h) queuesSound_free.discardAnchor) r.items _ h)
    (modes := fun _ _ h => h)
    (admission := fun t s _ _ h => queuesSound_free.parts.admitAny (fun _ _ h => h) t s h)

/-! ### Reports (R139, R159, R161, R165) -/

theorem reportsSound_free : FreeKept State.ReportsSound where
  reports := fun r h => r.within h
  allowance := fun _ _ _ _ h => h
  rewritten := fun _ _ _ _ h => h
  timer := fun _ _ h => h
  marks := fun _ _ _ h => h
  model := fun _ _ h => h
  remove := fun _ _ h => h
  cache := fun _ _ _ _ h => h
  uncache := fun _ _ h => h
  push := fun _ _ _ _ _ h => h
  serve := fun _ h => h
  flush := fun _ h => h
  port := fun _ _ _ _ h => h
  fed := fun _ h => h
  hold := fun _ h => h

theorem reportsSound_cleared (s : State) (c : Configuration) (mask : PerLatch Bool) {counters : List Counter}
    (within : countersWithin counters) : (s.cleared c mask counters).ReportsSound := by
  rw [State.reportsSound_iff]
  exact ⟨⟨Nat.zero_le _, Nat.zero_le _⟩, within, by simp [State.cleared, Link.atReset],
    by simp [State.cleared, Totals.zero]⟩

theorem countersKept_within {s : State} (h : s.ReportsSound) : countersWithin s.countersKept := by
  obtain ⟨-, ⟨eight, -⟩, -⟩ := s.reportsSound_iff.1 h
  exact ⟨by simpa [State.countersKept] using eight, by simp [State.countersKept]⟩

theorem blanks_within : countersWithin (List.replicate 8 Counter.blank) := by decide

theorem reportsSound_all : AllKept State.ReportsSound :=
  reportsSound_free.all (restart := fun s h => reportsSound_cleared s _ _ (countersKept_within h))
    (fresh := fun s => reportsSound_cleared s _ _ blanks_within)
    (write := fun _ r _ _ h =>
      foldl_kept (reportsSound_free.parts.sectionEffect (fun _ _ _ _ h => h) reportsSound_free.discardAnchor) r.items _ h)
    (modes := fun _ _ h => h)
    (admission := fun t s _ _ h => reportsSound_free.parts.admitAny (fun _ _ h => h) t s h)

/-! ### What a written configuration changes for one approach (R129, R130, R83) -/

/-- An item of a CONFIGURE writes the APPROACH section of `x`. -/
def Item.names (it : Item) (x : Approach) : Prop := it.name = .approach ∧ approachOf it.place = some x

theorem writeItem_approaches {c : Configuration} {it : Item} {x : Approach} (other : ¬it.names x) :
    (writeItem c it).approaches.get x = c.approaches.get x := by
  unfold writeItem
  dsimp only
  split
  case h_2 name =>
    split
    · next y place =>
      refine PerApproach.get_set_other _ _ _ _ fun same => other ⟨name, ?_⟩
      rw [place, same]
    · rfl
  all_goals rfl

theorem foldl_writeItem_approaches {x : Approach} : ∀ {items : List Item} (c : Configuration),
    (∀ it ∈ items, ¬it.names x) → (items.foldl writeItem c).approaches.get x = c.approaches.get x
  | [], _, _ => rfl
  | it :: items, c, h => by
    rw [List.foldl_cons, foldl_writeItem_approaches _ fun i hi => h i (List.mem_cons_of_mem _ hi),
      writeItem_approaches (h it (List.mem_cons_self ..))]

theorem sectionEffect_names {it : Item} {x : Approach} (names : it.names x) (s : State) :
    sectionEffect s it = limitTokens x (s.config.approaches.get x).kMax (followEnabled x s) := by
  obtain ⟨name, place⟩ := names
  unfold sectionEffect
  simp only [name, place]

/-- The effects of the sections leave the configuration. -/
theorem config_kept (c : Configuration) : FreeKept fun t => t.config = c where
  reports := fun r h => by rw [r.config]; exact h
  allowance := fun _ _ _ _ h => h
  rewritten := fun _ _ _ _ h => h
  timer := fun _ _ h => h
  marks := fun _ _ _ h => h
  model := fun _ _ h => h
  remove := fun _ _ h => h
  cache := fun _ _ _ _ h => h
  uncache := fun _ _ h => h
  push := fun _ _ _ _ _ h => h
  serve := fun _ h => h
  flush := fun _ h => h
  port := fun _ _ _ _ h => h
  fed := fun _ h => h
  hold := fun _ h => h

@[simp] theorem sectionEffect_config (s : State) (it : Item) : (sectionEffect s it).config = s.config :=
  (config_kept s.config).parts.sectionEffect (fun _ _ _ _ h => h) (config_kept s.config).discardAnchor s it rfl

@[simp] theorem followEnabled_config (x : Approach) (s : State) : (followEnabled x s).config = s.config := by
  unfold followEnabled enablePort disablePort
  dsimp only
  split
  · split <;> simp
  · split
    · rfl
    · split
      · exact (config_kept s.config).kept.leaveAligned x s rfl
      · rfl

@[simp] theorem limitTokens_config (x : Approach) (n : Nat) (s : State) : (limitTokens x n s).config = s.config := by
  unfold limitTokens
  split <;> rfl

/-! ### Allowance (R82 to R86) -/

theorem allowanceSound_free : FreeKept State.AllowanceSound where
  reports := fun r h => by rw [State.AllowanceSound, r.planner, r.config]; exact h
  allowance := fun _ _ _ within h => within h
  rewritten := fun _ _ _ _ h => h
  timer := fun _ _ h => h
  marks := fun f s work h => by
    have w := work s.planner
    simp only [Planner.work, Prod.mk.injEq] at w
    obtain ⟨-, -, -, -, -, tokens, -, ledger⟩ := w
    simpa only [State.AllowanceSound, State.onPlanner_planner, State.onPlanner_config, tokens, ledger] using h
  model := fun _ _ h => h
  remove := fun _ _ h => h
  cache := fun _ _ _ _ h => h
  uncache := fun _ _ h => h
  push := fun _ _ _ _ _ h => h
  serve := fun _ h => h
  flush := fun _ h => h
  port := fun _ _ _ _ h => h
  fed := fun _ h => h
  hold := fun _ h => h

/-- Tokens of `x` at most its Kmax. -/
def State.tokensWithin (s : State) (x : Approach) : Prop :=
  s.planner.tokens.get x ≤ (s.config.approaches.get x).kMax

/-- Committed time and leads within the ledger's limits. -/
def State.ledgerWithin (s : State) : Prop :=
  s.planner.ledger.committed ≤ s.planner.ledger.timeLimit ∧ s.planner.ledger.leads ≤ s.planner.ledger.grantLimit

theorem State.allowanceSound_iff (s : State) : s.AllowanceSound ↔ (∀ x, s.tokensWithin x) ∧ s.ledgerWithin :=
  ⟨fun ⟨tokens, ledger⟩ => ⟨fun x => tokens x (mem_allApproaches x), ledger⟩,
    fun ⟨tokens, ledger⟩ => ⟨fun x _ => tokens x, ledger⟩⟩

theorem closeGrant_tokens (s : State) :
    (closeGrant s).planner.tokens = s.planner.tokens ∧ (closeGrant s).planner.ledger = s.planner.ledger := by
  unfold closeGrant
  split <;> exact ⟨rfl, rfl⟩

theorem discardAnchor_tokens (s : State) :
    (discardAnchor s).planner.tokens = s.planner.tokens ∧ (discardAnchor s).planner.ledger = s.planner.ledger := by
  unfold discardAnchor setModelState
  split
  · exact ⟨rfl, rfl⟩
  · unfold signalPlanner
    split
    · simp
    · split
      · dsimp only
        split
        · split
          · obtain ⟨tokens, ledger⟩ := closeGrant_tokens ((latchNotice .signalModel ModelState.noStatus.code
              { s with model := { state := .noStatus, anchor := none } }).onPlanner fun p => { p with review := none })
            rw [tokens, ledger]
            simp
          · simp
        · simp
      · simp

@[simp] theorem discardSlots_planner (why : Discard) (x : Approach) (payloads : List (List Octet)) (s : State) :
    (discardSlots why x payloads s).planner = s.planner := by
  refine foldl_keeps (fun t : State => t.planner) _ (fun t os => ?_) _ s
  split
  · rfl
  · simp

@[simp] theorem followEnabled_planner (x : Approach) (s : State) : (followEnabled x s).planner = s.planner := by
  unfold followEnabled enablePort disablePort leaveAligned
  dsimp only
  split
  · split <;> rfl
  · split
    · rfl
    · split <;> simp

/-- Limiting the tokens of `x` only lowers tokens, and brings those of `x` within the limit (R83). -/
theorem limitTokens_tokens (x y : Approach) (n : Nat) (s : State) :
    (limitTokens x n s).planner.tokens.get y ≤ s.planner.tokens.get y ∧
      (y = x → (limitTokens x n s).planner.tokens.get y ≤ n) ∧ (limitTokens x n s).planner.ledger = s.planner.ledger := by
  unfold limitTokens
  split
  · next above =>
    refine ⟨?_, fun same => by simp [same], rfl⟩
    by_cases same : y = x
    · subst same; simp; omega
    · simp [PerApproach.get_set_other _ _ _ _ same]
  · exact ⟨le_rfl, fun same => by rw [same]; omega, rfl⟩

/-- The effect of a section on the allowance: tokens only fall, and the ledger stays. -/
theorem sectionEffect_tokens (s : State) (it : Item) (y : Approach) :
    (sectionEffect s it).planner.tokens.get y ≤ s.planner.tokens.get y ∧
      (sectionEffect s it).planner.ledger = s.planner.ledger := by
  unfold sectionEffect
  obtain ⟨tokens, ledger⟩ := discardAnchor_tokens s
  split
  · rw [tokens]; exact ⟨le_rfl, ledger⟩
  · rw [tokens]; exact ⟨le_rfl, ledger⟩
  · split
    · next x _ =>
      obtain ⟨fall, -, stays⟩ := limitTokens_tokens x y (s.config.approaches.get x).kMax (followEnabled x s)
      rw [followEnabled_planner] at fall stays
      exact ⟨fall, stays⟩
    · exact ⟨le_rfl, rfl⟩
  all_goals exact ⟨le_rfl, rfl⟩

theorem writeAll_allowance (items : List Item) {s : State} (h : s.AllowanceSound) : (writeAll items s).AllowanceSound := by
  rw [State.allowanceSound_iff] at h ⊢
  obtain ⟨tokens, ledger⟩ := h
  refine ⟨fun x => ?_, ?_⟩
  · refine foldl_settles (Q := fun _ => True) (hits := fun it => it.names x) (R := fun t => t.tokensWithin x)
      (fun _ _ h => h) (fun t it within => ?_) (fun t it names _ => ?_) items _ trivial ?_
    · rw [State.tokensWithin, sectionEffect_config]
      exact (sectionEffect_tokens t it x).1.trans within
    · rw [State.tokensWithin, sectionEffect_names names, limitTokens_config, followEnabled_config]
      exact (limitTokens_tokens x x _ _).2.1 rfl
    · by_cases named : ∃ it ∈ items, it.names x
      · exact .inr named
      · refine .inl ?_
        show s.planner.tokens.get x ≤ ((items.foldl writeItem s.config).approaches.get x).kMax
        rw [foldl_writeItem_approaches _ fun it hit names => named ⟨it, hit, names⟩]
        exact tokens x
  · exact foldl_kept (P := State.ledgerWithin)
      (fun t it within => by rw [State.ledgerWithin, (sectionEffect_tokens t it .a).2]; exact within) items _ ledger

theorem allowanceSound_cleared (s : State) (c : Configuration) (mask : PerLatch Bool) (counters : List Counter) :
    (s.cleared c mask counters).AllowanceSound :=
  ⟨fun x _ => by cases x <;> exact le_rfl, Nat.zero_le _, Nat.zero_le _⟩

theorem allowanceSound_all : AllKept State.AllowanceSound :=
  allowanceSound_free.all (restart := fun s _ => allowanceSound_cleared s _ _ _)
    (fresh := fun s => allowanceSound_cleared s _ _ _)
    (write := fun _ r _ _ h => writeAll_allowance r.items h)
    (modes := fun _ _ h => h)
    (admission := fun t s _ _ h => allowanceSound_free.parts.admitAny (fun _ _ h => h) t s h)

/-- Settles O56: every small operation keeps the counts within their limits, and every charge of the ledger is tested
before it is made. -/
theorem everyStepKeepsTheCounts : Obligations.EveryStepKeepsTheCounts := by
  unfold Obligations.EveryStepKeepsTheCounts
  intro s t next
  exact ⟨(reportsSound_all.steps (fun _ _ _ h => h) fun _ h => h).step next,
    (allowanceSound_all.steps (fun _ _ _ h => h) fun _ h => h).step next⟩

/-! ### Ports (R114, R116, R122, R123, R129, R130) -/

/-- The sizes of every port. -/
def State.portsSized (s : State) : Prop := ∀ x, (s.ports.get x).Sound

/-- The port of `x` is DISABLED exactly when its approach is not enabled. -/
def State.portFollows (s : State) (x : Approach) : Prop :=
  (s.ports.get x).framer = .disabled ↔ (s.config.approaches.get x).enabled = false

theorem State.portsSound_iff (s : State) : s.PortsSound ↔ s.portsSized ∧ ∀ x, s.portFollows x :=
  ⟨fun h => ⟨fun x => (h x (mem_allApproaches x)).1, fun x => (h x (mem_allApproaches x)).2⟩,
    fun ⟨sized, follows⟩ x _ => ⟨sized x, follows x⟩⟩

theorem portsSized_onPort {s : State} (x : Approach) {f : Port → Port}
    (sound : (s.ports.get x).Sound → (f (s.ports.get x)).Sound) (h : s.portsSized) : (s.onPort x f).portsSized := by
  intro y
  by_cases same : y = x
  · subst same
    rw [State.onPort_ports, PerApproach.get_set_self]
    exact sound (h y)
  · rw [State.onPort_ports, PerApproach.get_set_other _ _ _ _ same]
    exact h y

theorem portsSized_free : FreeKept State.portsSized where
  reports := fun r h => by rw [State.portsSized, r.ports]; exact h
  allowance := fun _ _ _ _ h => h
  rewritten := fun _ _ _ _ h => h
  timer := fun _ _ h => h
  marks := fun _ _ _ h => h
  model := fun _ _ h => h
  remove := fun _ _ h => h
  cache := fun _ _ _ _ h => h
  uncache := fun _ _ h => h
  push := fun _ _ _ _ _ h => h
  serve := fun _ h => h
  flush := fun _ h => h
  port := fun x _ _ keeps h => portsSized_onPort x keeps.sound h
  fed := fun _ h => h
  hold := fun _ h => h

theorem Port.atReset_sound (enabled : Bool) : (Port.atReset enabled).Sound :=
  ⟨Nat.zero_le _, Nat.zero_le _, Nat.zero_le _, Nat.zero_le _, sentZero_sound⟩

theorem portsSized_cleared (s : State) (c : Configuration) (mask : PerLatch Bool) (counters : List Counter) :
    (s.cleared c mask counters).portsSized := fun x => by cases x <;> exact Port.atReset_sound _

theorem portsSized_all : AllKept State.portsSized :=
  portsSized_free.all (restart := fun s _ => portsSized_cleared s _ _ _)
    (fresh := fun s => portsSized_cleared s _ _ _)
    (write := fun _ r _ _ h =>
      foldl_kept (portsSized_free.parts.sectionEffect (fun x _ _ sound h => portsSized_onPort x (sound _) h)
        portsSized_free.discardAnchor) r.items _ h)
    (modes := fun _ _ h => h)
    (admission := fun t s _ _ h => portsSized_free.parts.admitAny (fun _ _ h => h) t s h)

theorem portFollows_free (y : Approach) : FreeKept fun t => t.portFollows y where
  reports := fun r h => by rw [State.portFollows, r.ports, r.config]; exact h
  allowance := fun _ _ _ _ h => h
  rewritten := fun _ _ _ _ h => h
  timer := fun _ _ h => h
  marks := fun _ _ _ h => h
  model := fun _ _ h => h
  remove := fun _ _ h => h
  cache := fun _ _ _ _ h => h
  uncache := fun _ _ h => h
  push := fun _ _ _ _ _ h => h
  serve := fun _ h => h
  flush := fun _ h => h
  port := fun x f s keeps h => by
    by_cases same : y = x
    · subst same
      rw [State.portFollows, State.onPort_ports, PerApproach.get_set_self, keeps.disabled]
      exact h
    · rw [State.portFollows, State.onPort_ports, PerApproach.get_set_other _ _ _ _ same]
      exact h
  fed := fun _ h => h
  hold := fun _ h => h

theorem limitTokens_ports (x : Approach) (n : Nat) (s : State) : (limitTokens x n s).ports = s.ports := by
  unfold limitTokens
  split <;> rfl

/-- The port follows the enabled setting (R129, R130). -/
theorem followEnabled_follows (x : Approach) (s : State) : (followEnabled x s).portFollows x := by
  rw [State.portFollows, followEnabled_config]
  unfold followEnabled
  cases enabled : (s.config.approaches.get x).enabled with
  | true =>
    unfold enablePort
    by_cases disabled : (s.ports.get x).framer = .disabled <;> simp [disabled]
  | false =>
    unfold disablePort
    by_cases disabled : (s.ports.get x).framer = .disabled <;> simp [disabled]

theorem followEnabled_other {x y : Approach} (other : y ≠ x) (s : State) :
    (followEnabled x s).ports.get y = s.ports.get y := by
  unfold followEnabled enablePort disablePort leaveAligned
  dsimp only
  split
  · split <;> simp [PerApproach.get_set_other _ _ _ _ other]
  · split
    · rfl
    · split <;> simp [PerApproach.get_set_other _ _ _ _ other]

theorem sectionEffect_follows {y : Approach} (s : State) (it : Item) (h : s.portFollows y) :
    (sectionEffect s it).portFollows y := by
  unfold sectionEffect
  split
  · exact (portFollows_free y).discardAnchor s h
  · exact (portFollows_free y).discardAnchor s h
  · split
    · next x _ =>
      rw [State.portFollows, limitTokens_ports, limitTokens_config]
      by_cases same : y = x
      · subst same
        exact followEnabled_follows y s
      · rw [followEnabled_other same, followEnabled_config]
        exact h
    · exact h
  all_goals exact h

theorem writeAll_follows {y : Approach} (items : List Item) {s : State} (h : s.portFollows y) :
    (writeAll items s).portFollows y := by
  refine foldl_settles (Q := fun _ => True) (hits := fun it => it.names y) (R := fun t => t.portFollows y)
    (fun _ _ h => h) sectionEffect_follows (fun t it names _ => ?_) items _ trivial ?_
  · rw [State.portFollows, sectionEffect_names names, limitTokens_ports, limitTokens_config]
    exact followEnabled_follows y t
  · by_cases named : ∃ it ∈ items, it.names y
    · exact .inr named
    · refine .inl ?_
      show (s.ports.get y).framer = .disabled ↔ ((items.foldl writeItem s.config).approaches.get y).enabled = false
      rw [foldl_writeItem_approaches _ fun it hit names => named ⟨it, hit, names⟩]
      exact h

theorem portFollows_cleared (y : Approach) (s : State) (c : Configuration) (mask : PerLatch Bool)
    (counters : List Counter) : (s.cleared c mask counters).portFollows y := by
  have follows : ∀ enabled : Bool, (Port.atReset enabled).framer = .disabled ↔ enabled = false := by decide
  cases y <;> exact follows _

theorem portFollows_all (y : Approach) : AllKept fun t => t.portFollows y :=
  (portFollows_free y).all (restart := fun s _ => portFollows_cleared y s _ _ _)
    (fresh := fun s => portFollows_cleared y s _ _ _)
    (write := fun _ r _ _ h => writeAll_follows r.items h)
    (modes := fun _ _ h => h)
    (admission := fun t s _ _ h => (portFollows_free y).parts.admitAny (fun _ _ h => h) t s h)

/-- Settles O60: the sizes are kept by every operation on a port, and a port changes between DISABLED and the other
states only as its enabled setting is written. -/
theorem everyStepKeepsThePorts : Obligations.EveryStepKeepsThePorts := by
  unfold Obligations.EveryStepKeepsThePorts
  intro s t next h
  rw [State.portsSound_iff] at h ⊢
  obtain ⟨sized, follows⟩ := h
  exact ⟨(portsSized_all.steps (fun _ _ _ h => h) fun _ h => h).step next sized,
    fun x => ((portFollows_all x).steps (fun _ _ _ h => h) fun _ h => h).step next (follows x)⟩

end Sys2Proof.Machine
end

section
/-! SUPPORT. STANDBY holds no telegram, no entry and no work of the exchange (R6, R24, R108): what each command does to a
part in STANDBY, and that the change to STANDBY empties it. -/

namespace Sys2Proof.Machine

/-! ### The work of the exchange -/

/-- The work the planner holds: the command in the slot, the grant, the lost tag and the pending revise. -/
def Planner.engaged (p : Planner) : Option Slot × Option Grant × Option LostTag × Option Revise :=
  (p.slot, p.grant, p.lost, p.revise)

@[simp] theorem triggerPass_engaged (s : State) : (triggerPass s).planner.engaged = s.planner.engaged := by
  rw [triggerPass_planner_frame]; rfl

@[simp] theorem cycleStart_engaged (s : State) : (cycleStart s).planner.engaged = s.planner.engaged := by
  have refilled : ∀ (t : State) (x : Approach), (refillOne t x).planner.engaged = t.planner.engaged := fun t x => by
    unfold refillOne
    dsimp only
    split <;> rfl
  have kept := foldl_keeps (fun t : State => t.planner.engaged) refillOne refilled allApproaches s
  unfold cycleStart renewLedger
  rw [← kept]
  generalize allApproaches.foldl refillOne s = u
  rfl

theorem closeGrant_of_none {s : State} (none : s.planner.grant = none) : closeGrant s = s := by
  unfold closeGrant
  rw [none]

theorem grantStatus_of_none {s : State} (none : s.planner.grant = none) (p : Nat) (i : Interval) :
    grantStatus p i s = s := by
  unfold grantStatus
  rw [none]

/-- With no grant, a change of model state reaches only the model, the notices and the review timer (R52, R67). -/
theorem setModelState_of_none {s : State} (none : s.planner.grant = none) (m : ModelState) :
    ∃ r, (setModelState m s).planner = { s.planner with review := r } ∧ (setModelState m s).table = s.table := by
  unfold setModelState
  split
  · exact ⟨s.planner.review, rfl, rfl⟩
  · unfold signalPlanner
    split
    · exact ⟨_, by simp; rfl, by simp⟩
    · split
      · refine ⟨Option.none, ?_⟩
        dsimp only
        simp [none]
      · exact ⟨s.planner.review, by simp, by simp⟩

theorem takeReport_of_none {s : State} (none : s.planner.slot = none) : (takeReport s).planner = s.planner := by
  unfold takeReport
  split
  · rfl
  · rw [none]; rfl

theorem answerTimeout_of_none {s : State} (none : s.planner.slot = none) : answerTimeout s = s := by
  unfold answerTimeout
  rw [none]

theorem forgetLost_of_none {s : State} (none : s.planner.lost = none) : forgetLost s = s := by
  unfold forgetLost
  rw [none]

theorem armLimitDue_of_none {s : State} (none : s.planner.grant = none) : armLimitDue s = s := by
  unfold armLimitDue
  rw [none]

/-- With neither a command in the slot nor a lost tag, an answer is at most counted (R90). -/
theorem commandAnswered_of_none {s : State} (slot : s.planner.slot = none) (lost : s.planner.lost = none)
    (body : List Octet) : commandAnswered body s = s ∨ commandAnswered body s = countAnswer .late none s := by
  unfold commandAnswered
  split
  · right
    unfold matchAnswer
    rw [slot]
    dsimp only
    rw [lost]
  · exact .inl rfl

/-! ### What follows an enabled setting -/

theorem State.reportedFrom.onPort {t s : State} (r : t.reportedFrom s) (x : Approach) (f : Port → Port) :
    (t.onPort x f).reportedFrom (s.onPort x f) := by
  refine ⟨?_, r.within⟩
  simp only [State.onPort, r.ports]
  rw [r.frame]

theorem discardSlots_told (why : Discard) (x : Approach) (payloads : List (List Octet)) (s : State) :
    (discardSlots why x payloads s).toldFrom s := by
  refine foldl_told (fun s os => ?_) _ s
  split
  · exact .refl s
  · exact countDiscard_told _ _ s

theorem leaveAligned_reported (x : Approach) (s : State) :
    ∃ f, (leaveAligned x s).reportedFrom (s.onPort x f) := by
  unfold leaveAligned
  exact ⟨_, State.reportedFrom.onPort ((discardSlots_told _ _ _ _).trans
    ((countEvent_told _ _ _ _).trans (latchNotice_told _ _ s))).reported x _⟩

/-- Beside its ports, an enabled setting that is followed changes only the reporting blocks. -/
theorem followEnabled_reported (x : Approach) (s : State) :
    ∃ ports, (followEnabled x s).reportedFrom { s with ports := ports } := by
  unfold followEnabled
  split
  · unfold enablePort
    split
    · exact ⟨_, .refl _⟩
    · exact ⟨s.ports, .refl _⟩
  · unfold disablePort
    dsimp only
    split
    · exact ⟨s.ports, .refl _⟩
    · split
      · obtain ⟨f, left⟩ := leaveAligned_reported x s
        exact ⟨_, left.onPort x _⟩
      · exact ⟨_, .refl _⟩

/-! ### A part at rest -/

/-- A part in STANDBY with nothing in it. -/
structure State.Resting (s : State) : Prop where
  mode : s.mode = .standby
  queues : ∀ q ∈ allSources, s.intake.queues.get q = []
  table : s.table = []
  engaged : s.planner.engaged = (none, none, none, none)

theorem State.standbyEmpty_iff (s : State) : s.StandbyEmpty ↔ (s.mode = .standby → s.Resting) := by
  constructor
  · intro h mode
    obtain ⟨queues, table, slot, grant, lost, revise⟩ := h mode
    exact ⟨mode, queues, table, by simp [Planner.engaged, slot, grant, lost, revise]⟩
  · intro h mode
    obtain ⟨-, queues, table, engaged⟩ := h mode
    simp only [Planner.engaged, Prod.mk.injEq] at engaged
    exact ⟨queues, table, engaged⟩

namespace State.Resting
variable {s : State} (h : s.Resting)
include h

theorem slot : s.planner.slot = none := congrArg Prod.fst h.engaged
theorem grant : s.planner.grant = none := congrArg (fun p => p.2.1) h.engaged
theorem lost : s.planner.lost = none := congrArg (fun p => p.2.2.1) h.engaged
theorem revise : s.planner.revise = none := congrArg (fun p => p.2.2.2) h.engaged

theorem findEntry (bus : Nat) : s.findEntry bus = none := by simp [State.findEntry, h.table]

theorem nextTelegram : s.nextTelegram = none := by simp [State.nextTelegram, h.mode]

/-- A part at rest stays so when mode, queues, table and engaged work stay. -/
theorem of_same {t : State} (mode : t.mode = s.mode) (intake : t.intake = s.intake) (table : t.table = s.table)
    (engaged : t.planner.engaged = s.planner.engaged) : t.Resting :=
  ⟨mode.trans h.mode, by rw [intake]; exact h.queues, table.trans h.table, engaged.trans h.engaged⟩

theorem reported {t : State} (r : t.reportedFrom s) : t.Resting :=
  h.of_same r.mode r.intake r.table (by rw [r.planner])

theorem setModelState (m : ModelState) : (setModelState m s).Resting := by
  obtain ⟨r, planner, table⟩ := setModelState_of_none h.grant m
  exact h.of_same (by simp) (by simp) table (by rw [planner]; rfl)

theorem model (m : SignalModel) : State.Resting { s with model := m } := ⟨h.mode, h.queues, h.table, h.engaged⟩

theorem triggerPass : (triggerPass s).Resting := h.of_same (by simp) (by simp) (by simp) (by simp)

theorem validStatus (t : Status) : (validStatus t s).Resting := by
  have taken : (modelTaken t s).Resting := (h.model { s.model with anchor := some (t.anchor s.now) }).setModelState _
  have started : (if t.cycleStart && s.model.state != .noStatus then cycleStart (modelTaken t s) else modelTaken t s).Resting := by
    split
    · exact taken.of_same (by simp) (by simp) (by simp) (by simp)
    · exact taken
  rw [validStatus_eq, statusTaken, grantStatus_of_none started.grant]
  exact started.triggerPass

theorem sectionEffect (it : Item) : (sectionEffect s it).Resting := by
  have discards : (discardAnchor s).Resting := (h.model { s.model with anchor := none }).setModelState _
  unfold Machine.sectionEffect
  split
  · exact discards
  · exact discards
  · split
    · next x _ =>
      obtain ⟨ports, followed⟩ := followEnabled_reported x s
      have base : State.Resting { s with ports := ports } := ⟨h.mode, h.queues, h.table, h.engaged⟩
      have follows : (followEnabled x s).Resting := base.reported followed
      unfold limitTokens
      split
      · exact ⟨follows.mode, follows.queues, follows.table, follows.engaged⟩
      · exact follows
    · exact h
  all_goals exact h

end State.Resting

/-! ### What empties the part -/

theorem standbyEmpty_wide : WideKept State.StandbyEmpty :=
  ⟨fun r h => by rw [State.StandbyEmpty, r.mode, r.intake, r.table, r.planner]; exact h⟩

theorem standbyEmpty_quiet : QuietKept State.StandbyEmpty where
  toReportKept := standbyEmpty_wide.report
  uncache := fun _ _ h => h
  push := fun _ _ _ awake _ _ mode => absurd mode awake
  port := fun _ _ _ _ h => h
  fed := fun _ h => h
  hold := fun _ h => h

theorem resting_wide : WideKept State.Resting := ⟨fun r h => h.reported r⟩

theorem resting_cleared (s : State) (c : Configuration) (mask : PerLatch Bool) (counters : List Counter) :
    (s.cleared c mask counters).Resting :=
  ⟨rfl, fun q _ => by simp [State.cleared, Intake.atReset], rfl, rfl⟩

theorem takeReset_resting (r : Selector) (s : State) : (takeReset r s).Resting := by
  unfold takeReset takeRestart takeFactory
  cases r
  · exact (resting_cleared s _ _ _).reported (latchNotice_told _ _ _).reported
  · exact (resting_cleared s _ _ _).reported (latchNotice_told _ _ _).reported

theorem powerOn_resting (straps : BitVec 2) (s : State) : (powerOn straps s).Resting :=
  (resting_cleared _ _ _ _).reported (latchNotice_told .restarted 0 _).reported

/-- Entries that leave at a change to STANDBY leave the others of their table (R24). -/
theorem foldl_abandonEntry_table : ∀ (l : List Entry) (s : State),
    (l.foldl abandonEntry s).table = s.table.filter fun e => l.all fun q => e.bus != q.bus
  | [], s => by simp
  | q :: l, s => by
    have left : (abandonEntry s q).table = s.table.filter fun e => e.bus != q.bus := by
      simp [abandonEntry, removeEntry, State.onGrant]
    rw [List.foldl_cons, foldl_abandonEntry_table l, left, List.filter_filter]
    refine List.filter_congr fun e _ => ?_
    rw [List.all_cons, Bool.and_comm]

theorem abandonAll_table (s : State) : (abandonAll s).table = [] := by
  rw [abandonAll, foldl_abandonEntry_table, List.filter_eq_nil_iff]
  intro e he
  simp only [List.all_eq_true, bne_iff_ne, not_forall]
  exact ⟨e, he, fun differs => differs rfl⟩

@[simp] theorem abandonAll_intake (s : State) : (abandonAll s).intake = s.intake :=
  foldl_keeps (fun t : State => t.intake) _ (fun t e => by simp [abandonEntry]) _ s

theorem emptySlot_slot (s : State) : (emptySlot s).planner.slot = none := by
  unfold emptySlot
  split
  · assumption
  · rfl

theorem enterStandby_resting (s : State) : (enterStandby s).Resting := by
  refine ⟨rfl, fun q _ => ?_, ?_, ?_⟩
  · simp [enterStandby, dropPass, discardWork, flushQueues]
  · simp [enterStandby, dropPass, discardWork, abandonAll_table]
  · simp [enterStandby, dropPass, discardWork, Planner.engaged, emptySlot_slot]

/-! ### The mode stays -/

theorem mode_free (m : Mode) : FreeKept fun t => t.mode = m where
  reports := fun r h => by rw [r.mode]; exact h
  allowance := fun _ _ _ _ h => h
  rewritten := fun _ _ _ _ h => h
  timer := fun _ _ h => h
  marks := fun _ _ _ h => h
  model := fun _ _ h => h
  remove := fun _ _ h => h
  cache := fun _ _ _ _ h => h
  uncache := fun _ _ h => h
  push := fun _ _ _ _ _ h => h
  serve := fun _ h => h
  flush := fun _ h => h
  port := fun _ _ _ _ h => h
  fed := fun _ h => h
  hold := fun _ h => h

/-- Only the resets and SET_MODE change the mode. -/
def Instr.keepsMode : Instr → Bool
  | .powerOnReset _ | .restartTakesEffect | .factoryTakesEffect | .outboundFrameSent => false
  | .setModeStandby | .setModeMonitor | .setModeRun => false
  | _ => true

theorem effect_mode {c : Instr} (keeps : Instr.keepsMode c = true) (s : State) : (effect c s).mode = s.mode := by
  have K := mode_free s.mode
  refine K.kept.effect_unreset (P := fun t => t.mode = s.mode) K.toWideKept.line
    (fun _ t u _ _ h => K.parts.admitAny (fun _ _ h => h) t u h) ?_ (fun want owner asked commands m u h => ?_) s rfl
  · cases c <;> first | rfl | cases keeps
  · cases c <;> simp only [Instr.commands, Instr.keepsMode, Bool.false_eq_true] at commands keeps
    cases asked
    rcases configureOwner_cases m u with stays | ⟨count, r, -, writes⟩
    · rw [stays]; exact h
    · rw [writes]
      exact foldl_kept (K.parts.sectionEffect (fun _ _ _ _ h => h) K.discardAnchor) r.items _ h

/-! ### What the loud commands come to -/

/-- A SET_MODE row changes the mode, or only the reporting blocks. -/
theorem setMode_cases (row : Mode) (s : State) :
    (setMode row s).reportedFrom s ∨
      ∃ target u, u.reportedFrom s ∧ (setMode row s).reportedFrom (changeMode target u) := by
  unfold setMode takeAsked
  split
  · next m _ =>
    split
    · have taken : (s.onLink fun k => { k with asked := k.asked.tail }).reportedFrom s := State.onLink_reported id
      dsimp only
      rcases setModeOwner_cases m (s.onLink fun k => { k with asked := k.asked.tail }) with stays | ⟨target, -, changes⟩
      · rw [stays]
        exact .inl ((queueMessage_reported _ _).trans taken)
      · rw [changes]
        exact .inr ⟨target, _, taken, queueMessage_reported _ _⟩
    · exact .inl (.refl s)
  · exact .inl (.refl s)

/-- The end of a frame's transmission brings a restart into effect, or changes only the link. -/
theorem frameSent_cases (s : State) : (frameSent s).reportedFrom s ∨ ∃ r, frameSent s = takeReset r s := by
  unfold frameSent
  split
  · exact .inl (.refl s)
  · next m rest _ =>
    have freed : (s.onLink fun k => { k with outbound := rest }).reportedFrom s := State.onLink_reported id
    dsimp only
    split
    · split
      · split
        · exact .inr ⟨_, rfl⟩
        · exact .inl freed
      · exact .inl freed
    · exact .inl ((State.onLink_reported id).trans freed)
    · exact .inl freed

theorem changeMode_rests {target : Mode} {s : State} (mode : (changeMode target s).mode = .standby) :
    (changeMode target s).Resting := by
  cases target
  · exact enterStandby_resting s
  · cases mode
  · cases mode

/-- A SET_MODE row that leaves STANDBY leaves a part at rest, if the part was at rest in STANDBY. -/
theorem setMode_resting {row : Mode} {s : State} (before : s.mode = .standby → s.Resting)
    (mode : (setMode row s).mode = .standby) : (setMode row s).Resting := by
  rcases setMode_cases row s with stays | ⟨target, u, -, changed⟩
  · exact (before (stays.mode ▸ mode)).reported stays
  · exact (changeMode_rests (changed.mode ▸ mode)).reported changed

theorem finalReplySent_resting {r : Selector} {s : State} (before : s.mode = .standby → s.Resting)
    (mode : (finalReplySent r s).mode = .standby) : (finalReplySent r s).Resting := by
  rcases finalReplySent_cases r s with stays | resets
  · rw [stays] at mode ⊢
    exact before mode
  · rw [resets]
    exact takeReset_resting r s

theorem frameSent_resting {s : State} (before : s.mode = .standby → s.Resting)
    (mode : (frameSent s).mode = .standby) : (frameSent s).Resting := by
  rcases frameSent_cases s with stays | ⟨r, resets⟩
  · exact (before (stays.mode ▸ mode)).reported stays
  · rw [resets]
    exact takeReset_resting r s

/-- A command that may change the mode leaves in STANDBY a part at rest, if the part was at rest in STANDBY. -/
theorem effect_rests {c : Instr} {s : State} (changes : Instr.keepsMode c = false) (before : s.mode = .standby → s.Resting)
    (mode : (effect c s).mode = .standby) : (effect c s).Resting := by
  cases c <;> simp only [Instr.keepsMode, Bool.true_eq_false] at changes
  case powerOnReset straps => exact powerOn_resting straps s
  case setModeStandby => exact setMode_resting before mode
  case setModeMonitor => exact setMode_resting before mode
  case setModeRun => exact setMode_resting before mode
  case restartTakesEffect => exact finalReplySent_resting before mode
  case factoryTakesEffect => exact finalReplySent_resting before mode
  case outboundFrameSent => exact frameSent_resting before mode

/-! ### Every command -/

theorem reads_asked {c : Instr} (reads : Instr.reads c = true) : (Instr.asked c).isSome = true := by
  cases c <;> simp_all [Instr.reads, Instr.asked]

/-- A part at rest stays at rest at every command that neither changes the mode, nor is quiet, nor only reads. -/
theorem effect_resting {c : Instr} {s : State} (loud : Instr.quiet c = false) (acts : Instr.reads c = false)
    (keeps : Instr.keepsMode c = true) (h : s.Resting) : (effect c s).Resting := by
  have L := resting_wide.line
  have serves : ∀ k, (takeTelegram k s).Resting := fun k => by
    unfold takeTelegram
    rw [h.nextTelegram]
    exact h
  cases c <;> simp [Instr.quiet, Instr.reads, Instr.asked, Instr.keepsMode] at loud acts keeps
  case askedMessageArrival => exact L.askedMessageArrival s h
  case restart => exact L.askRestart _ s h
  case factory => exact L.askRestart _ s h
  case phaseStatus =>
    refine L.takeReceived (fun f u hu => ?_) s h
    unfold statusArrives
    split
    · exact hu.validStatus _
    · exact hu.reported (countEvent_told _ _ _ u).reported
  case commandAnswer =>
    refine L.takeReceived (fun f u hu => ?_) s h
    rcases commandAnswered_of_none hu.slot hu.lost (frameBody f) with same | counted
    · rw [same]; exact hu
    · rw [counted]; exact hu.reported (countAnswer_told _ _ u).reported
  case configure =>
    refine L.takeAsked (fun m u hu => ?_) s h
    rcases configureOwner_cases m u with stays | ⟨count, r, -, writes⟩
    · rw [stays]; exact hu
    · rw [writes]
      exact foldl_kept (P := State.Resting) (fun v it hv => hv.sectionEffect it) r.items _
        ⟨hu.mode, hu.queues, hu.table, hu.engaged⟩
  case cancelRequest =>
    refine L.takeAsked (fun m u hu => ?_) s h
    unfold withLength cancelRequestOwner
    split
    · split
      · exact hu
      · rw [hu.findEntry]; exact hu
    · exact hu
  case commandTransmitted =>
    show (takeReport s).Resting
    have around := (surroundings_plain s.surroundings).work.takeReport s rfl
    have buses := congrArg Surroundings.buses around
    refine h.of_same (congrArg Surroundings.mode around) (congrArg Surroundings.intake around) ?_ ?_
    · simpa [State.surroundings, h.table] using buses
    · exact congrArg Planner.engaged (takeReport_of_none h.slot)
  case checkIn => exact serves _
  case position => exact serves _
  case checkOut => exact serves _
  case withdraw => exact serves _
  case entryExpiry bus =>
    show (expireEntry bus s).Resting
    unfold expireEntry
    rw [h.findEntry]
    exact h
  case planningPass =>
    show (planningPass s).Resting
    unfold planningPass
    rw [if_neg fun due => due.2 h.mode]
    exact h
  case reviewTimer =>
    show (reviewExpires s).Resting
    unfold reviewExpires
    split
    · exact State.Resting.triggerPass ⟨h.mode, h.queues, h.table, h.engaged⟩
    · exact h
  case answerTimeout => show (answerTimeout s).Resting; rw [answerTimeout_of_none h.slot]; exact h
  case lostTagForget => show (forgetLost s).Resting; rw [forgetLost_of_none h.lost]; exact h
  case armLimit => show (armLimitDue s).Resting; rw [armLimitDue_of_none h.grant]; exact h
  case staleTimer =>
    show (staleExpires s).Resting
    unfold staleExpires
    split
    · exact h.setModelState _
    · exact h

/-- The commands that change the mode leave it away from STANDBY, or a part at rest in STANDBY. -/
theorem effect_standbyEmpty (c : Instr) (s : State) (h : s.StandbyEmpty) : (effect c s).StandbyEmpty := by
  by_cases quiet : Instr.quiet c = true
  · exact standbyEmpty_quiet.effect_quiet quiet s h
  · by_cases reads : Instr.reads c = true
    · obtain ⟨row, asked⟩ := Option.isSome_iff_exists.1 (reads_asked reads)
      rw [effect_asked asked]
      exact standbyEmpty_wide.line.takeAsked (standbyEmpty_quiet.owner_reads asked reads) s h
    · rw [State.standbyEmpty_iff] at h ⊢
      intro mode
      by_cases keeps : Instr.keepsMode c = true
      · exact effect_resting (by simpa using quiet) (by simpa using reads) keeps (h (effect_mode keeps s ▸ mode))
      · exact effect_rests (by simpa using keeps) h mode

/-- Settles O55: the queues keep their bound under every small operation; in STANDBY no command brings anything in, and
the commands that lead to STANDBY empty the part. -/
theorem everyStepKeepsTheQueues : Obligations.EveryStepKeepsTheQueues := by
  unfold Obligations.EveryStepKeepsTheQueues
  intro s t next
  have standby : StepKept State.StandbyEmpty := ⟨fun _ _ _ h => h, fun _ h => h, effect_standbyEmpty⟩
  exact ⟨(queuesSound_all.steps (fun _ _ _ h => h) fun _ h => h).step next, standby.step next⟩

end Sys2Proof.Machine
end

section
/-! SUPPORT. What every step keeps of the signal model, of the marks of passes, and of what the projection rests on. -/

namespace Sys2Proof.Machine

/-! ### Model state and review timer (R48, R50, R63, R67) -/

/-- The agreement of anchor, model state and review timer. -/
def State.modelAgrees (s : State) : Prop :=
  (s.model.anchor = none ↔ s.model.state = .noStatus) ∧
    (s.planner.review.isSome = true ↔ s.model.state = .tracking)

theorem State.modelSound_iff (s : State) :
    s.ModelSound ↔ s.modelAgrees ∧ (s.model.state = .tracking → s.trackedPlan.isSome = true) := by
  simp only [State.ModelSound, State.modelAgrees, and_assoc]

theorem reviewAfter_isSome {old : ModelState} {review : Option PartTime} (new : ModelState) (now : PartTime)
    (agrees : review.isSome = true ↔ old = .tracking) :
    (reviewAfter old new now review).isSome = true ↔ new = .tracking := by
  unfold reviewAfter
  split
  · next same => rw [← same]; exact agrees
  · next change =>
    split
    · next entered => simp [entered]
    · next entered =>
      split
      · simp [entered]
      · next outside => simpa [entered, outside] using agrees

theorem setModelState_review (m : ModelState) (s : State) :
    (setModelState m s).planner.review = reviewAfter s.model.state m s.now s.planner.review :=
  congrArg Standing.review (setModelState_standing m s)

theorem validStatus_review (t : Status) (s : State) :
    (validStatus t s).planner.review = reviewAfter s.model.state (t.modelState s.config) s.now s.planner.review :=
  congrArg Standing.review (validStatus_standing t s)

/-- A change of model state keeps the agreement when the anchor agrees with the new state. -/
theorem setModelState_agrees {m : ModelState} {s : State} (anchor : s.model.anchor = none ↔ m = .noStatus)
    (review : s.planner.review.isSome = true ↔ s.model.state = .tracking) : (setModelState m s).modelAgrees := by
  refine ⟨?_, ?_⟩
  · rw [setModelState_model]
    exact anchor
  · rw [setModelState_model, setModelState_review]
    exact reviewAfter_isSome m s.now review

theorem discardAnchor_agrees {s : State} (h : s.modelAgrees) : (discardAnchor s).modelAgrees :=
  setModelState_agrees (s := { s with model := { s.model with anchor := none } }) (by simp) h.2

theorem discardAnchor_modelSound {s : State} (h : s.modelAgrees) : (discardAnchor s).ModelSound := by
  rw [State.modelSound_iff]
  refine ⟨discardAnchor_agrees h, fun tracks => ?_⟩
  rw [discardAnchor, setModelState_model] at tracks
  cases tracks

theorem staleExpires_modelSound {s : State} (h : s.ModelSound) : (staleExpires s).ModelSound := by
  unfold staleExpires
  split
  · next due =>
    have running : s.model.state ≠ .noStatus := fun none => by simp [State.staleDue, none] at due
    rw [State.modelSound_iff] at h ⊢
    obtain ⟨⟨anchor, review⟩, -⟩ := h
    refine ⟨setModelState_agrees (by simp [anchor, running]) review, fun tracks => ?_⟩
    rw [setModelState_model] at tracks
    cases tracks
  · exact h

theorem Status.modelState_ne_noStatus (t : Status) (c : Configuration) : t.modelState c ≠ .noStatus := by
  unfold Status.modelState
  split
  · nofun
  · split <;> nofun

theorem Status.plan_of_tracking {t : Status} {c : Configuration} (h : t.modelState c = .tracking) :
    (c.plan t.plan).isSome = true := by
  unfold Status.modelState at h
  split at h
  · cases h
  · split at h
    · cases h
    · next known => exact Option.isSome_iff_ne_none.2 (by simpa using known)

theorem validStatus_config (t : Status) (s : State) : (validStatus t s).config = s.config := by
  rw [validStatus_eq, triggerPass_config, statusTaken, grantStatus_config]
  split <;> simp [modelTaken]

theorem validStatus_modelSound (t : Status) {s : State} (h : s.ModelSound) : (validStatus t s).ModelSound := by
  rw [State.modelSound_iff] at h ⊢
  obtain ⟨⟨-, review⟩, -⟩ := h
  refine ⟨⟨?_, ?_⟩, ?_⟩
  · rw [validStatus_model]
    simp [t.modelState_ne_noStatus]
  · rw [validStatus_model, validStatus_review]
    exact reviewAfter_isSome _ s.now review
  · rw [State.trackedPlan, validStatus_model, validStatus_config]
    intro tracks
    dsimp only at tracks ⊢
    rw [tracks]
    simpa using show (s.config.plan (t.anchor s.now).plan).isSome = true from Status.plan_of_tracking tracks

/-- The agreement of anchor, model state, review timer and plan rests on the model, the timer and the configuration. -/
theorem modelSound_of_same {s t : State} (model : t.model = s.model) (review : t.planner.review = s.planner.review)
    (config : t.config = s.config) (h : s.ModelSound) : t.ModelSound := by
  rw [State.ModelSound, State.trackedPlan, model, review, config]
  exact h

theorem modelSound_plain : PlainKept State.ModelSound where
  reports := fun r h => modelSound_of_same r.model (by rw [r.planner]) r.config h
  allowance := fun _ s timers _ h => modelSound_of_same (s := s) rfl (congrArg Prod.fst timers) rfl h
  rewritten := fun _ _ _ _ h => h

theorem planningPass_review (s : State) : (planningPass s).planner.timers.1 = s.planner.review := by
  have body : PlainKept fun t => t.planner.timers.1 = s.planner.review :=
    ⟨⟨fun r h => by rw [r.planner]; exact h⟩, fun _ _ timers _ h => by
      rw [State.onPlanner_planner, timers]; exact h, fun _ _ _ _ h => h⟩
  unfold planningPass
  split
  · exact body.work.passBody (beginPass s) rfl
  · rfl

theorem planningPass_surroundings (s : State) : (planningPass s).surroundings = s.surroundings := by
  unfold planningPass
  split
  · exact (surroundings_plain s.surroundings).work.passBody (beginPass s) rfl
  · rfl

theorem modelSound_parts : PartsKept anyPhase State.ModelSound where
  toWorkKept := modelSound_plain.work
  uncache := fun _ _ h => h
  push := fun _ _ _ _ _ h => h
  port := fun _ _ _ _ h => h
  fed := fun _ h => h
  hold := fun _ h => h
  trigger := fun s h => modelSound_of_same (triggerPass_model s) (by rw [triggerPass_planner_frame]) (triggerPass_config s) h
  remove := fun _ _ h => h
  cache := fun _ _ _ _ h => h
  serve := fun _ h => h
  flush := fun _ h => h
  review := fun _ _ _ h => by
    obtain ⟨anchor, review, plan⟩ := h
    exact ⟨anchor, by simp_all, plan⟩
  pass := fun s h => modelSound_of_same (congrArg Surroundings.model (planningPass_surroundings s)) (planningPass_review s)
    (congrArg Surroundings.config (planningPass_surroundings s)) h
  status := fun _ t _ _ h => validStatus_modelSound t h
  stale := fun _ h => staleExpires_modelSound h

/-! #### Writing a configuration -/

theorem modelAgrees_plain : PlainKept State.modelAgrees where
  reports := fun r h => by rw [State.modelAgrees, r.model, r.planner]; exact h
  allowance := fun f s timers _ h => by
    have review : (f s.planner).review = s.planner.review := congrArg Prod.fst timers
    rw [State.modelAgrees, State.onPlanner_planner, review]
    exact h
  rewritten := fun _ _ _ _ h => h

theorem modelAgrees_quiet : QuietKept State.modelAgrees where
  toReportKept := modelAgrees_plain.report
  uncache := fun _ _ h => h
  push := fun _ _ _ _ _ h => h
  port := fun _ _ _ _ h => h
  fed := fun _ h => h
  hold := fun _ h => h

/-- A section that is not the PLAN_TABLE leaves the plans. -/
theorem writeItem_plans {c : Configuration} {it : Item} (other : it.name ≠ .planTable) :
    (writeItem c it).plans = c.plans := by
  unfold writeItem
  dsimp only
  split
  case h_2 => split <;> rfl
  case h_6 name => exact absurd name other
  all_goals rfl

theorem foldl_writeItem_plans : ∀ {items : List Item} (c : Configuration), (∀ it ∈ items, it.name ≠ .planTable) →
    (items.foldl writeItem c).plans = c.plans
  | [], _, _ => rfl
  | it :: items, c, h => by
    rw [List.foldl_cons, foldl_writeItem_plans _ fun i hi => h i (List.mem_cons_of_mem _ hi),
      writeItem_plans (h it (List.mem_cons_self ..))]

/-- A written PLAN_TABLE discards the anchor, which no plan of the old table names any more; without one the plans stay
(R46). -/
theorem writeAll_modelSound (items : List Item) {s : State} (h : s.ModelSound) : (writeAll items s).ModelSound := by
  obtain ⟨agrees, planned⟩ := s.modelSound_iff.1 h
  refine foldl_settles (Q := State.modelAgrees) (R := State.ModelSound) (hits := fun it => it.name = .planTable)
    (modelAgrees_plain.work.sectionEffect modelAgrees_quiet (fun _ _ _ _ h => h) fun _ h => discardAnchor_agrees h)
    (modelSound_parts.sectionEffect (fun _ _ _ _ h => h) fun s h =>
      discardAnchor_modelSound (s.modelSound_iff.1 h).1) (fun t it hits q => ?_) items _ agrees ?_
  · unfold sectionEffect
    rw [hits]
    exact discardAnchor_modelSound q
  · by_cases hit : ∃ it ∈ items, it.name = .planTable
    · exact .inr hit
    · refine .inl ((State.modelSound_iff _).2 ⟨agrees, fun tracks => ?_⟩)
      have plans := foldl_writeItem_plans s.config fun it hi name => hit ⟨it, hi, name⟩
      have tracked := planned tracks
      simp only [State.trackedPlan, Configuration.plan] at tracked ⊢
      rw [plans]
      exact tracked

theorem modelSound_cleared (s : State) (c : Configuration) (mask : PerLatch Bool) (counters : List Counter) :
    (s.cleared c mask counters).ModelSound := ⟨by simp [State.cleared, SignalModel.atReset], by
      simp [State.cleared, SignalModel.atReset, Planner.atReset], nofun⟩

theorem modelSound_all : AllKept State.ModelSound where
  toKept := modelSound_parts.kept
  line := modelSound_plain.toWideKept.line
  reset := modelSound_plain.report.reset (fun s _ => modelSound_cleared s _ _ _) fun s => modelSound_cleared s _ _ _
  power := fun straps s _ => modelSound_plain.report.power (fun s => modelSound_cleared s _ _ _) straps s
  write := fun _ r _ _ h => writeAll_modelSound r.items h
  change := fun target s _ h => modelSound_parts.changeMode (fun _ h => h) (fun _ _ _ h => h) target s h
  admission := fun t s _ _ h => modelSound_parts.admitAny (fun _ _ h => h) t s h

/-! ### The marks of passes (R66, R147) -/

theorem passSound_of_same {s t : State} (timers : t.planner.timers = s.planner.timers) (mode : t.mode = s.mode)
    (h : s.PassSound) : t.PassSound := by
  simp only [Planner.timers, Prod.mk.injEq] at timers
  obtain ⟨-, due, mark, runs⟩ := timers
  rw [State.PassSound, due, mark, runs, mode]
  exact h

theorem passSound_plain : PlainKept State.PassSound where
  reports := fun r h => passSound_of_same (by rw [r.planner]) r.mode h
  allowance := fun _ s timers _ h => passSound_of_same (s := s) timers rfl h
  rewritten := fun _ _ _ _ h => h

theorem passSound_signal : SignalKept anyPhase State.PassSound where
  toWorkKept := passSound_plain.work
  timer := fun _ _ h => h
  modelState := fun _ _ h => h
  anchor := fun _ _ _ h => h

theorem triggerPass_passSound {s : State} (h : s.PassSound) : (triggerPass s).PassSound := by
  obtain ⟨runs, mark, due⟩ := h
  unfold triggerPass
  split
  · exact ⟨runs, mark, due⟩
  · next awake =>
    rw [runs]
    exact ⟨runs, mark, fun standby => absurd standby awake⟩

/-- A pass is whole in one step: it ends with no pass running and the mark clear (R66). -/
theorem planningPass_passSound {s : State} (h : s.PassSound) : (planningPass s).PassSound := by
  obtain ⟨runs, mark, due⟩ := h
  have body : PlainKept fun t => t.planner.passMark = false ∧ t.mode = s.mode :=
    ⟨⟨fun r h => by rw [r.planner, r.mode]; exact h⟩, fun f s timers _ ⟨mark, mode⟩ => by
      simp only [Planner.timers, Prod.mk.injEq] at timers
      exact ⟨timers.2.2.1.trans mark, mode⟩, fun _ _ _ _ h => h⟩
  unfold planningPass
  split
  · next starts =>
    obtain ⟨-, mode⟩ := body.work.passBody (beginPass s) ⟨mark, rfl⟩
    exact ⟨rfl, rfl, fun standby => absurd (mode.symm.trans standby) starts.2⟩
  · exact ⟨runs, mark, due⟩

theorem passSound_parts : PartsKept anyPhase State.PassSound where
  toWorkKept := passSound_plain.work
  uncache := fun _ _ h => h
  push := fun _ _ _ _ _ h => h
  port := fun _ _ _ _ h => h
  fed := fun _ h => h
  hold := fun _ h => h
  trigger := fun _ h => triggerPass_passSound h
  remove := fun _ _ h => h
  cache := fun _ _ _ _ h => h
  serve := fun _ h => h
  flush := fun _ h => h
  review := fun _ _ _ h => h
  pass := fun _ h => planningPass_passSound h
  status := fun _ _ _ _ h => triggerPass_passSound (passSound_signal.statusTaken trivial h)
  stale := passSound_signal.stale

theorem passSound_cleared (s : State) (c : Configuration) (mask : PerLatch Bool) (counters : List Counter) :
    (s.cleared c mask counters).PassSound := ⟨rfl, rfl, fun _ => rfl⟩

theorem passSound_all : AllKept State.PassSound where
  toKept := passSound_parts.kept
  line := passSound_plain.toWideKept.line
  reset := passSound_plain.report.reset (fun s _ => passSound_cleared s _ _ _) fun s => passSound_cleared s _ _ _
  power := fun straps s _ => passSound_plain.report.power (fun s => passSound_cleared s _ _ _) straps s
  write := fun _ r _ _ h =>
    foldl_kept (passSound_parts.sectionEffect (fun _ _ _ _ h => h) passSound_signal.discardAnchor) r.items _ h
  change := fun target s _ h => passSound_parts.changeMode (fun _ ⟨runs, _, _⟩ => ⟨runs, rfl, fun _ => rfl⟩)
    (fun _ _ awake ⟨runs, mark, _⟩ => ⟨runs, mark, fun standby => absurd standby awake⟩) target s h
  admission := fun t s _ _ h => passSound_parts.admitAny (fun _ _ h => h) t s h

end Sys2Proof.Machine
end

section
/-! SUPPORT. What the projection rests on: the ranges of the configuration, and the phases that anchor, grant, command and
lost tag name. -/

namespace Sys2Proof.Machine

/-! ### The ranges of the configuration (R44, R153, Tables 3-1 and 8-4) -/

/-- The horizon within its range, and 2 to 8 phases with yellows of 20 or more. -/
def Configuration.ringed (c : Configuration) : Prop :=
  c.general.horizon ≤ 2550 ∧ 2 ≤ c.phases.length ∧ c.phases.length ≤ 8 ∧ ∀ r ∈ c.phases, 20 ≤ r.yellow

theorem noRepeats_iff_nodup : ∀ l : List Nat, noRepeats l = true ↔ l.Nodup
  | [] => by simp [noRepeats]
  | n :: l => by simp [noRepeats, noRepeats_iff_nodup l]

/-- A clamped field lies within its range (R153). -/
theorem field_clampFields {ranges : List (Nat × Nat)} {v : List Nat} {i lo hi : Nat} (range : ranges[i]? = some (lo, hi))
    (there : i < v.length) : field (clampFields ranges v) i = max lo (min hi (field v i)) := by
  have zipped : (v.zip ranges)[i]? = some (v[i], (lo, hi)) := by
    rw [List.getElem?_zip_eq_some]
    exact ⟨List.getElem?_eq_getElem there, range⟩
  simp [field, clampFields, zipped, there]

theorem readFields_length : ∀ (ws : List Nat) (os : List Octet), (readFields ws os).length = ws.length
  | [], _ => rfl
  | w :: ws, os => by simp [readFields, readFields_length ws]

theorem records_length (n : Nat) : ∀ (k : Nat) (os : List Octet), (records n k os).length = k
  | 0, _ => rfl
  | k + 1, os => by simp [records, records_length n k]

/-- As many different numbers from 1 to `n` as `n` are all of them. -/
theorem mem_of_nodup_bounded {l : List Nat} (nodup : l.Nodup) (within : ∀ m ∈ l, 1 ≤ m ∧ m ≤ l.length) {i : Nat}
    (least : 1 ≤ i) (most : i ≤ l.length) : i ∈ l := by
  have all : l.toFinset = Finset.Icc 1 l.length := by
    refine Finset.eq_of_subset_of_card_le (fun m hm => ?_) ?_
    · exact Finset.mem_Icc.2 (within m (List.mem_toFinset.1 hm))
    · rw [List.toFinset_card_of_nodup nodup]
      simp
  exact List.mem_toFinset.1 (all ▸ Finset.mem_Icc.2 ⟨least, most⟩)

/-- The written phase records of an item, as the fields of each. -/
def Item.phaseFields (it : Item) : List (List Nat) :=
  (records 12 (countOf it.data) it.data.tail).map (readFields phaseWidths)

theorem Item.recs_phaseTable {it : Item} (name : it.name = .phaseTable) :
    it.recs.map (fun r => r.written) = it.phaseFields ∧
      it.recs.map (fun r => r.taken) = it.phaseFields.map (clampFields phaseRanges) := by
  have recs : it.recs = it.phaseFields.map fun v =>
      { place := field v 0, written := v, taken := clampFields phaseRanges v } := by
    unfold Item.recs Item.phaseFields
    rw [name]
  rw [recs, List.map_map, List.map_map]
  exact ⟨by simp [Function.comp_def], by simp [Function.comp_def]⟩

theorem Item.phaseFields_length (it : Item) : it.phaseFields.length = countOf it.data := by
  simp [Item.phaseFields, records_length]

theorem Item.field_phaseFields {it : Item} {v : List Nat} (hv : v ∈ it.phaseFields) {i lo hi : Nat}
    (range : phaseRanges[i]? = some (lo, hi)) : field (clampFields phaseRanges v) i = max lo (min hi (field v i)) := by
  obtain ⟨os, -, rfl⟩ := List.mem_map.1 hv
  refine field_clampFields range ?_
  rw [readFields_length]
  exact (List.getElem?_eq_some_iff.1 range).1

/-- A sound PHASE_TABLE names each phase once: its table has a record of its own for each, with the yellow clamped
(R152, R153, R155). -/
theorem phaseTableOf_yellow {it : Item} (name : it.name = .phaseTable) (sound : it.sound = true) :
    2 ≤ countOf it.data ∧ countOf it.data ≤ 8 ∧
      ∀ r ∈ phaseTableOf (countOf it.data) (it.recs.map fun r => r.taken), 20 ≤ r.yellow := by
  obtain ⟨written, taken⟩ := Item.recs_phaseTable name
  unfold Item.sound at sound
  rw [name, written] at sound
  simp only [Bool.and_eq_true, decide_eq_true_eq, List.all_eq_true, noRepeats_iff_nodup] at sound
  obtain ⟨⟨⟨two, eight⟩, within⟩, nodup⟩ := sound
  refine ⟨two, eight, fun r hr => ?_⟩
  obtain ⟨i, hi, rfl⟩ := List.mem_map.1 hr
  have few := List.mem_range.1 hi
  have named : i + 1 ∈ it.phaseFields.map fun v => field v 0 := by
    refine mem_of_nodup_bounded nodup (fun m hm => ?_) (by omega) (by simp [Item.phaseFields_length]; omega)
    obtain ⟨v, hv, rfl⟩ := List.mem_map.1 hm
    rw [List.length_map, Item.phaseFields_length]
    exact (within v hv).1
  obtain ⟨v, hv, phase⟩ := List.mem_map.1 named
  rw [taken]
  have kept : field (clampFields phaseRanges v) 0 = i + 1 := by
    rw [Item.field_phaseFields hv (lo := 1) (hi := 8) rfl, phase]
    omega
  cases found : (it.phaseFields.map (clampFields phaseRanges)).find? fun v => field v 0 == i + 1 with
  | none =>
    have none := List.find?_eq_none.1 found _ (List.mem_map_of_mem hv)
    simp [kept] at none
  | some u =>
    obtain ⟨u', hu', rfl⟩ := List.mem_map.1 (List.mem_of_find?_eq_some found)
    show 20 ≤ field (clampFields phaseRanges u') 1
    rw [Item.field_phaseFields hu' rfl]
    exact Nat.le_max_left _ _

theorem writeItem_ringed {c : Configuration} {it : Item} (sound : it.sound = true) (h : c.ringed) :
    (writeItem c it).ringed := by
  obtain ⟨horizon, two, eight, yellow⟩ := h
  unfold writeItem
  dsimp only
  split
  case h_1 name =>
    refine ⟨?_, two, eight, yellow⟩
    have first : (it.recs.map fun r => r.taken).headD [] = clampFields generalRanges (readFields generalWidths it.data) := by
      unfold Item.recs
      rw [name]
      rfl
    show field _ 0 ≤ 2550
    rw [first, field_clampFields (lo := 300) (hi := 2550) rfl (by rw [readFields_length]; decide)]
    omega
  case h_2 => split <;> exact ⟨horizon, two, eight, yellow⟩
  case h_5 name =>
    obtain ⟨least, most, long⟩ := phaseTableOf_yellow name sound
    refine ⟨horizon, ?_, ?_, long⟩
    · simpa [phaseTableOf] using least
    · simpa [phaseTableOf] using most
  all_goals exact ⟨horizon, two, eight, yellow⟩

theorem foldl_writeItem_ringed : ∀ {items : List Item} {c : Configuration}, (∀ it ∈ items, it.sound = true) → c.ringed →
    (items.foldl writeItem c).ringed
  | [], _, _, h => h
  | it :: items, c, sound, h =>
    foldl_writeItem_ringed (items := items) (c := writeItem c it) (fun i hi => sound i (List.mem_cons_of_mem _ hi))
      (writeItem_ringed (sound it (List.mem_cons_self ..)) h)

theorem factory_ringed : Configuration.factory.ringed := by
  refine ⟨by decide, by decide, by decide, by decide⟩

/-- A section that is not the PHASE_TABLE leaves the phases. -/
theorem writeItem_phases {c : Configuration} {it : Item} (other : it.name ≠ .phaseTable) :
    (writeItem c it).phases = c.phases := by
  unfold writeItem
  dsimp only
  split
  case h_2 => split <;> rfl
  case h_5 name => exact absurd name other
  all_goals rfl

theorem foldl_writeItem_phases : ∀ {items : List Item} (c : Configuration), (∀ it ∈ items, it.name ≠ .phaseTable) →
    (items.foldl writeItem c).phases = c.phases
  | [], _, _ => rfl
  | it :: items, c, h => by
    rw [List.foldl_cons, foldl_writeItem_phases _ fun i hi => h i (List.mem_cons_of_mem _ hi),
      writeItem_phases (h it (List.mem_cons_self ..))]

/-! ### The phases of the projection (R55 to R60) -/

theorem phaseAfter_hasPhase {c : Configuration} {i : Nat} (h : c.hasPhase i) (k : Nat) :
    c.hasPhase (phaseAfter c.phases.length k) := by
  obtain ⟨least, most⟩ := h
  unfold phaseAfter Configuration.hasPhase
  split <;> omega

theorem ringWindows_hasPhase {c : Configuration} (p : Plan) : ∀ {fuel i : Nat}, c.hasPhase i → ∀ start,
    ∀ w ∈ c.ringWindows p fuel i start, c.hasPhase w.phase
  | 0, _, _, _, w, hw => absurd hw List.not_mem_nil
  | fuel + 1, i, h, start, w, hw => by
    rcases List.mem_cons.1 hw with rfl | later
    · exact h
    · exact ringWindows_hasPhase p (phaseAfter_hasPhase h i) _ w later

theorem timeline_hasPhase {c : Configuration} (p : Plan) {a : Anchor} (h : c.hasPhase a.phase) (now : PartTime)
    (adj : Adjustment) : ∀ w ∈ c.timeline p a now adj, c.hasPhase w.phase := by
  have ring := fun start => ringWindows_hasPhase p (fuel := projectionFuel) (phaseAfter_hasPhase h a.phase) start
  unfold Configuration.timeline
  dsimp only
  split
  · intro w hw
    rcases List.mem_cons.1 hw with rfl | later
    · exact h
    · exact ring _ w later
  · exact ring _
  · exact ring _

/-- An advance moves windows and leaves their phases (R60). -/
theorem shiftWindows_phases : ∀ (shift : Nat) (ws : List Window) (ts : List Nat),
    (shiftWindows shift ws ts).map Window.phase = ws.map Window.phase
  | shift, w :: ws, t :: ts => by simp [shiftWindows, shiftWindows_phases (shift + t) ws ts]
  | shift, [], [] => rfl
  | shift, w :: ws, [] => by simp [shiftWindows]
  | _, [], _ :: _ => rfl

theorem project_hasPhase {c : Configuration} (p : Plan) {a : Anchor} (h : c.hasPhase a.phase) (now : PartTime)
    (adj : Adjustment) : ∀ w ∈ c.project p a now adj, c.hasPhase w.phase := by
  have line := timeline_hasPhase p h now adj
  have moved : ∀ ws : List Window, (∀ w ∈ ws, c.hasPhase w.phase) → ∀ slackOf q x,
      ∀ w ∈ applyAdvance slackOf q x ws, c.hasPhase w.phase := by
    intro ws hws slackOf q x w hw
    have phase := List.mem_map_of_mem (f := Window.phase) hw
    rw [applyAdvance, shiftWindows_phases] at phase
    obtain ⟨v, hv, same⟩ := List.mem_map.1 phase
    exact same ▸ hws v hv
  intro w hw
  unfold Configuration.project at hw
  have within := (List.takeWhile_sublist _).subset hw
  cases adj with
  | none => exact line w within
  | extend q x => exact line w within
  | advance q x => exact moved _ line _ q x w within

theorem trackedPlan_anchor {s : State} {a : Anchor} {p : Plan} (h : s.trackedPlan = some (a, p)) :
    s.model.anchor = some a := by
  unfold State.trackedPlan at h
  split at h
  · next anchor =>
    simp only [Option.map_eq_some_iff, Prod.mk.injEq] at h
    obtain ⟨-, -, rfl, -⟩ := h
    exact anchor
  · cases h

/-! ### What names phases -/

/-- The anchor, the grant, the command and the lost tag name phases in `N`. -/
structure Names (N : Nat → Prop) (model : SignalModel) (p : Planner) : Prop where
  anchor : ∀ a, model.anchor = some a → N a.phase
  grant : ∀ g, p.grant = some g → N g.phase
  slot : ∀ c, p.slot = some c → c.action ≠ .revise → N c.phase
  lost : ∀ m, p.lost = some m → N m.phase

abbrev State.names (s : State) (N : Nat → Prop) : Prop := Names N s.model s.planner

theorem State.ringSound_iff (s : State) : s.RingSound ↔ s.config.ringed ∧ s.names s.config.hasPhase := by
  constructor
  · rintro ⟨horizon, two, eight, yellow, anchor, grant, slot, lost⟩
    exact ⟨⟨horizon, two, eight, yellow⟩, anchor, grant, slot, lost⟩
  · rintro ⟨⟨horizon, two, eight, yellow⟩, anchor, grant, slot, lost⟩
    exact ⟨horizon, two, eight, yellow, anchor, grant, slot, lost⟩

/-- Under the configuration `c`, everything names its phases. -/
def State.namesUnder (c : Configuration) (s : State) : Prop := s.config = c ∧ s.names c.hasPhase

theorem names_of_same {s t : State} {N : Nat → Prop} (model : t.model = s.model) (planner : t.planner = s.planner)
    (h : s.names N) : t.names N := by
  rw [State.names, model, planner]
  exact h

theorem emptySlot_names {s : State} {N : Nat → Prop} (h : s.names N) : (emptySlot s).names N := by
  unfold emptySlot
  split
  · exact h
  · exact ⟨h.anchor, h.grant, nofun, h.lost⟩

theorem plannerStep_names {N : Nat → Prop} {f : Planner → Planner} {s : State} (step : PlannerStep N s.planner (f s.planner))
    (h : s.names N) : (s.onPlanner f).names N := by
  refine ⟨h.anchor, fun g hg => ?_, fun c hc adjusts => ?_, fun m hm => ?_⟩
  · rcases step.grant g hg with named | ⟨g', old, phase⟩
    · exact named
    · exact phase ▸ h.grant g' old
  · have undated := step.slot
    rw [show (f s.planner).slot = some c from hc] at undated
    cases old : s.planner.slot with
    | none => simp [old] at undated
    | some c' =>
      simp only [old, Option.map_some, Option.some.injEq, Slot.undated, Slot.mk.injEq] at undated
      obtain ⟨-, action, phase, -⟩ := undated
      rw [phase]
      exact h.slot c' old (action ▸ adjusts)
  · rcases step.lost m hm with named | old
    · exact named
    · exact h.lost m old

theorem names_wide (c : Configuration) : WideKept (State.namesUnder c) :=
  ⟨fun r ⟨config, names⟩ => ⟨r.config.trans config, names_of_same r.model r.planner names⟩⟩

theorem names_work (c : Configuration) : WorkKept c.hasPhase (State.namesUnder c) where
  toReportKept := (names_wide c).report
  allowance := fun _ _ step _ ⟨config, names⟩ => ⟨config, plannerStep_names step names⟩
  rewritten := fun _ _ _ _ h => h
  emptySlot := fun s ⟨config, names⟩ => by
    refine ⟨?_, emptySlot_names names⟩
    unfold Machine.emptySlot
    split <;> exact config
  sendCommand := fun k s _ named ⟨config, names⟩ => by
    have placed : State.namesUnder c (s.onPlanner fun p => { p with slot := some k, tagCounter := k.tag }) := by
      refine ⟨config, names.anchor, names.grant, fun k' hk adjusts => ?_, names.lost⟩
      cases hk
      exact named adjusts
    have sent := (names_wide c).report.counted .commandSent (sentIndex k) (some (.port k.approach)) _
      ((names_wide c).reports (queueMessage_reported (commandMessage k) _) placed)
    unfold Machine.sendCommand
    dsimp only
    split
    · exact (names_wide c).reports (State.onTotals_told fun ⟨_, rest⟩ => ⟨tally32_le _, rest⟩).reported sent
    · exact sent
  slotNamed := fun _ _ held adjusts ⟨_, names⟩ => names.slot _ held adjusts
  lostNamed := fun _ _ lost ⟨_, names⟩ => names.lost _ lost
  projected := fun s a p adj w tracked hw ⟨config, names⟩ => by
    rw [config] at hw
    exact project_hasPhase p (names.anchor a (trackedPlan_anchor tracked)) s.now adj w hw

theorem names_signal (c : Configuration) : SignalKept c.hasPhase (State.namesUnder c) where
  toWorkKept := names_work c
  timer := fun _ _ ⟨config, names⟩ => ⟨config, names.anchor, names.grant, names.slot, names.lost⟩
  modelState := fun _ _ ⟨config, names⟩ => ⟨config, names.anchor, names.grant, names.slot, names.lost⟩
  anchor := fun _ _ named ⟨config, names⟩ => ⟨config, named, names.grant, names.slot, names.lost⟩

theorem names_trigger {c : Configuration} {s : State} (h : s.namesUnder c) : (triggerPass s).namesUnder c := by
  obtain ⟨config, names⟩ := h
  refine ⟨by simpa using config, ?_⟩
  unfold triggerPass
  split
  · exact names
  · split <;> exact ⟨names.anchor, names.grant, names.slot, names.lost⟩

theorem readStatusBody_phase {n : Nat} {b : List Octet} {t : Status} (valid : readStatusBody n b = some t) :
    1 ≤ t.phase ∧ t.phase ≤ n := by
  unfold readStatusBody at valid
  split at valid
  · split at valid
    · split at valid
      · next within => cases valid; exact within
      · cases valid
    · cases valid
  · cases valid

theorem names_parts (c : Configuration) : PartsKept c.hasPhase (State.namesUnder c) where
  toWorkKept := names_work c
  uncache := fun _ _ h => h
  push := fun _ _ _ _ _ h => h
  port := fun _ _ _ _ h => h
  fed := fun _ h => h
  hold := fun _ h => h
  trigger := fun _ h => names_trigger h
  remove := fun _ _ h => h
  cache := fun _ _ _ _ h => h
  serve := fun _ h => h
  flush := fun _ h => h
  review := fun r s _ h => (names_signal c).timer (some r) s h
  pass := fun s ⟨config, names⟩ => by
    have marked : ∀ (f : Planner → Planner) (u : State), (∀ p, (f p).work = p.work) → u.namesUnder c →
        (u.onPlanner f).namesUnder c := by
      intro f u work ⟨config, names⟩
      have same := work u.planner
      simp only [Planner.work, Prod.mk.injEq] at same
      obtain ⟨slot, grant, lost, -⟩ := same
      exact ⟨config, names.anchor, by rw [State.onPlanner_planner, grant]; exact names.grant,
        by rw [State.onPlanner_planner, slot]; exact names.slot, by rw [State.onPlanner_planner, lost]; exact names.lost⟩
    unfold planningPass
    split
    · exact marked _ _ (fun _ => rfl) ((names_work c).passBody _ (marked _ s (fun _ => rfl) ⟨config, names⟩))
    · exact ⟨config, names⟩
  status := fun b t s valid h => by
    refine names_trigger ((names_signal c).statusTaken ?_ h)
    have phase := readStatusBody_phase valid
    rwa [State.phaseCount, h.1] at phase
  stale := (names_signal c).stale

/-! ### The commands beside the ordinary ones -/

theorem ringSound_of_namesUnder {c : Configuration} {s : State} (ringed : c.ringed) (h : s.namesUnder c) : s.RingSound := by
  obtain ⟨rfl, names⟩ := h
  exact s.ringSound_iff.2 ⟨ringed, names⟩

theorem ringSound_wide : WideKept State.RingSound :=
  ⟨fun {s t} r h => by
    obtain ⟨ringed, names⟩ := s.ringSound_iff.1 h
    exact ringSound_of_namesUnder ringed ((names_wide s.config).reports r ⟨rfl, names⟩)⟩

theorem structureOk_sound {c : Configuration} {count : Nat} {r : Items} (ok : structureOk c count r = true) :
    ∀ it ∈ r.items, it.sound = true := by
  simp only [structureOk, Bool.and_eq_true, List.all_eq_true] at ok
  obtain ⟨⟨-, sound⟩, -⟩ := ok
  exact sound

theorem discardAnchor_anchor (s : State) : (discardAnchor s).model.anchor = none := by
  rw [discardAnchor, setModelState_model]

/-- A part at rest with no anchor names no phase. -/
theorem State.Resting.names {s : State} (h : s.Resting) (anchor : s.model.anchor = none) (N : Nat → Prop) : s.names N := by
  refine ⟨?_, ?_, ?_, ?_⟩
  · rw [anchor]; nofun
  · rw [h.grant]; nofun
  · rw [h.slot]; nofun
  · rw [h.lost]; nofun

/-- A PHASE_TABLE is written in STANDBY only, where the anchor it discards was the last name of a phase (R46, R151). -/
theorem writeAll_ringSound {count : Nat} {r : Items} {s : State} (writes : s.writes count r) (empty : s.StandbyEmpty)
    (h : s.RingSound) : (writeAll r.items s).RingSound := by
  obtain ⟨ok, mode⟩ := writes
  obtain ⟨ringed, names⟩ := s.ringSound_iff.1 h
  have written : (r.items.foldl writeItem s.config).ringed := foldl_writeItem_ringed (structureOk_sound ok) ringed
  refine ringSound_of_namesUnder written ?_
  have keeps : ∀ t it, State.namesUnder (r.items.foldl writeItem s.config) t →
      State.namesUnder (r.items.foldl writeItem s.config) (sectionEffect t it) :=
    (names_parts _).sectionEffect (fun _ _ _ _ h => h) (names_signal _).discardAnchor
  by_cases hit : ∃ it ∈ r.items, it.name = .phaseTable
  · have standby : s.mode = .standby := by
      obtain ⟨it, hi, name⟩ := hit
      by_contra awake
      exact mode ⟨awake, List.any_eq_true.2 ⟨it, hi, by rw [name]; rfl⟩⟩
    have rests := s.standbyEmpty_iff.1 empty standby
    refine foldl_settles (hits := fun it => it.name = .phaseTable)
      (Q := fun t => t.Resting ∧ t.config = r.items.foldl writeItem s.config)
      (fun t it ⟨rests, config⟩ => ⟨rests.sectionEffect it, by rw [sectionEffect_config, config]⟩) keeps
      (fun t it hits ⟨rests, config⟩ => ?_) r.items _ ⟨⟨rests.mode, rests.queues, rests.table, rests.engaged⟩, rfl⟩
      (.inr hit)
    have discards : sectionEffect t it = discardAnchor t := by
      unfold sectionEffect
      rw [hits]
    refine ⟨by rw [sectionEffect_config, config], ?_⟩
    exact (rests.sectionEffect it).names (by rw [discards, discardAnchor_anchor]) _
  · refine foldl_kept keeps r.items _ ⟨rfl, ?_⟩
    have phases := foldl_writeItem_phases s.config fun it hi name => hit ⟨it, hi, name⟩
    have same : (r.items.foldl writeItem s.config).hasPhase = s.config.hasPhase := by
      funext i
      rw [Configuration.hasPhase, Configuration.hasPhase, phases]
    rw [same]
    exact names

theorem ringSound_cleared (s : State) {c : Configuration} (ringed : c.ringed) (mask : PerLatch Bool)
    (counters : List Counter) : (s.cleared c mask counters).RingSound :=
  ringSound_of_namesUnder ringed ⟨rfl, (resting_cleared s c mask counters).names rfl _⟩

theorem takeReset_ringSound (r : Selector) {s : State} (h : s.RingSound) : (takeReset r s).RingSound :=
  ringSound_wide.report.reset (fun s h => ringSound_cleared s (s.ringSound_iff.1 h).1 _ _)
    (fun s => ringSound_cleared s factory_ringed _ _) r s h

theorem effect_ringSound (c : Instr) {s : State} (empty : s.StandbyEmpty) (h : s.RingSound) :
    (effect c s).RingSound := by
  obtain ⟨ringed, names⟩ := s.ringSound_iff.1 h
  have K := names_parts s.config
  by_cases resets : Instr.resets c = true
  · cases c <;> simp only [Instr.resets, Bool.false_eq_true] at resets
    case powerOnReset straps =>
      exact ringSound_wide.report.power (fun s => ringSound_cleared s factory_ringed _ _) straps s
    case restartTakesEffect =>
      show (finalReplySent .restart s).RingSound
      rcases finalReplySent_cases .restart s with stays | resets
      · rw [stays]; exact h
      · rw [resets]; exact takeReset_ringSound _ h
    case factoryTakesEffect =>
      show (finalReplySent .factory s).RingSound
      rcases finalReplySent_cases .factory s with stays | resets
      · rw [stays]; exact h
      · rw [resets]; exact takeReset_ringSound _ h
    case outboundFrameSent =>
      show (frameSent s).RingSound
      rcases frameSent_cases s with stays | ⟨r, resets⟩
      · exact ringSound_wide.reports stays h
      · rw [resets]; exact takeReset_ringSound _ h
  · by_cases configures : c = .configure
    · subst configures
      have both : WideKept fun t => t.StandbyEmpty ∧ t.RingSound :=
        ⟨fun r h => ⟨standbyEmpty_wide.reports r h.1, ringSound_wide.reports r h.2⟩⟩
      refine takeAsked_leads both.line ringSound_wide.line (fun _ h => h.2) (fun m u ⟨empty, h⟩ => ?_) s ⟨empty, h⟩
      rcases configureOwner_cases m u with stays | ⟨count, r, ok, writes⟩
      · rw [stays]; exact h
      · rw [writes]; exact writeAll_ringSound ok empty h
    · refine ringSound_of_namesUnder ringed (K.kept.effect_unreset (names_wide s.config).line
        (fun _ t u _ _ h => K.admitAny (fun _ _ h => h) t u h) (by simpa using resets)
        (fun want owner asked commands m u h => ?_) s ⟨rfl, names⟩)
      have mode : State.namesUnder s.config (withLength 2 setModeOwner m u).1 := by
        rcases setModeOwner_cases m u with stays | ⟨target, -, changes⟩
        · rw [stays]; exact h
        · rw [changes]
          exact K.changeMode (fun _ h => ⟨h.1, h.2.anchor, h.2.grant, h.2.slot, h.2.lost⟩) (fun _ _ _ h => h) target u h
      cases c <;> simp only [Instr.commands, Bool.false_eq_true] at commands
      case configure => exact absurd rfl configures
      case setModeStandby => cases asked; exact mode
      case setModeMonitor => cases asked; exact mode
      case setModeRun => cases asked; exact mode

/-- Settles O58: anchor, model state and review timer move together, a pass is whole in one step, and a phase is named
only as the anchor, the projection or an older name gives it, while a phase table is written only in an empty STANDBY. -/
theorem everyStepKeepsModelAndPass : Obligations.EveryStepKeepsModelAndPass := by
  unfold Obligations.EveryStepKeepsModelAndPass
  intro s t next
  have ring : StepKept fun u => u.StandbyEmpty ∧ u.RingSound :=
    ⟨fun _ _ _ h => h, fun _ h => h, fun c u ⟨empty, h⟩ => ⟨effect_standbyEmpty c u empty, effect_ringSound c empty h⟩⟩
  exact ⟨(modelSound_all.steps (fun _ _ _ h => h) fun _ h => h).step next,
    (passSound_all.steps (fun _ _ _ h => h) fun _ h => h).step next, fun empty h => (ring.step next ⟨empty, h⟩).2⟩

end Sys2Proof.Machine
end

section
/-! SUPPORT. The cabinet link: the asked messages that stand unanswered, and the outbound queue as R138 counts it. -/

namespace Sys2Proof.Machine

/-! ### The outbound queue (R138) -/

/-- Behind the message in transmission stands no PRIORITY_COMMAND, or one, and it is that of the slot. -/
def commandsFit (slot : Option Slot) (l : List OutMessage) : Prop :=
  countKind .priorityCommand l.tail ≤ 1 ∧
    ∀ m ∈ l.tail, m.kind = .priorityCommand → ∃ c, slot = some c ∧ m.tag = octet c.tag

theorem countKind_eq_zero {k : OutKind} {l : List OutMessage} : countKind k l = 0 ↔ ∀ m ∈ l, m.kind ≠ k := by
  simp [countKind, List.filter_eq_nil_iff]

theorem countKind_le_of_sublist (k : OutKind) {l l' : List OutMessage} (sub : l.Sublist l') :
    countKind k l ≤ countKind k l' := (sub.filter _).length_le

theorem commandsFit_of_sublist {slot : Option Slot} {l l' : List OutMessage} (sub : l.tail.Sublist l'.tail)
    (fit : commandsFit slot l') : commandsFit slot l :=
  ⟨(countKind_le_of_sublist _ sub).trans fit.1, fun m hm => fit.2 m (sub.subset hm)⟩

/-- Other messages join behind. -/
theorem commandsFit_append {slot : Option Slot} {l out : List OutMessage} (others : ∀ m ∈ out, m.kind ≠ .priorityCommand)
    (fit : commandsFit slot l) : commandsFit slot (l ++ out) := by
  obtain ⟨most, named⟩ := fit
  cases l with
  | nil =>
    have tail : ∀ m ∈ out.tail, m.kind ≠ .priorityCommand := fun m hm => others m (List.mem_of_mem_tail hm)
    exact ⟨(countKind_eq_zero.2 tail).trans_le (Nat.zero_le _), fun m hm command => absurd command (tail m hm)⟩
  | cons a l =>
    refine ⟨?_, fun m hm command => ?_⟩
    · rw [List.cons_append, List.tail_cons, countKind_append, countKind_eq_zero.2 others]
      exact most
    · rcases List.mem_append.1 hm with old | new
      · exact named m old command
      · exact absurd command (others m new)

/-- The command of the slot leaves, and none stands behind the head any more (R89, log entry 6). -/
theorem commandsFit_removeUnsent {c : Slot} {l : List OutMessage} (fit : commandsFit (some c) l) :
    commandsFit none (removeUnsent c.tag l) := by
  obtain ⟨-, named⟩ := fit
  have none_left : ∀ m ∈ (removeUnsent c.tag l).tail, m.kind ≠ .priorityCommand := by
    cases l with
    | nil => exact nofun
    | cons a l =>
      intro m hm command
      obtain ⟨stands, other⟩ := List.mem_filter.1 hm
      obtain ⟨c', same, tag⟩ := named m stands command
      cases same
      simp [command, tag] at other
  exact ⟨(countKind_eq_zero.2 none_left).trans_le (Nat.zero_le _), fun m hm command => absurd command (none_left m hm)⟩

/-- With the slot empty no command stands behind the head, and a new one joins alone. -/
theorem commandsFit_send {c : Slot} {m : OutMessage} {l : List OutMessage} (tag : m.tag = octet c.tag)
    (fit : commandsFit none l) : commandsFit (some c) (l ++ [m]) := by
  have before : ∀ q ∈ l.tail, q.kind ≠ .priorityCommand := fun q hq command => by
    obtain ⟨_, none_held, -⟩ := fit.2 q hq command
    cases none_held
  cases l with
  | nil => exact ⟨Nat.zero_le _, nofun⟩
  | cons a l =>
    rw [List.tail_cons] at before
    refine ⟨?_, fun q hq command => ?_⟩
    · rw [List.cons_append, List.tail_cons, countKind_append, countKind_eq_zero.2 before, Nat.zero_add]
      exact countKind_le_length _ [m]
    · rcases List.mem_append.1 hq with old | new
      · exact absurd command (before q old)
      · rw [List.mem_singleton.1 new]
        exact ⟨c, rfl, tag⟩

theorem removeUnsent_sublist (tag : Nat) : ∀ l : List OutMessage, (removeUnsent tag l).Sublist l
  | [] => .slnil
  | _ :: _ => (List.filter_sublist).cons_cons _

/-- At most 4 replies, 10 notices and, with the head, 2 commands: 16 messages (R138). -/
theorem length_eq_countKinds (l : List OutMessage) :
    l.length = countKind .reply l + countKind .notice l + countKind .priorityCommand l := by
  induction l with
  | nil => rfl
  | cons m l ih =>
    have one : ∀ k, countKind k (m :: l) = (if m.kind = k then 1 else 0) + countKind k l := fun k => by
      rw [← List.singleton_append, countKind_append]
      congr 1
      by_cases same : m.kind = k <;> simp [countKind, same]
    rw [one, one, one, List.length_cons, ih]
    cases m.kind <;> simp <;> omega

/-! ### The link -/

/-- The state is sound at the link, with at most `n` asked messages unanswered. -/
def State.linkWithin (n : Nat) (s : State) : Prop :=
  s.unanswered ≤ n ∧ countKind .notice s.link.outbound ≤ 10 ∧ commandsFit s.planner.slot s.link.outbound

theorem State.unanswered_eq (s : State) : s.unanswered = s.link.asked.length + countKind .reply s.link.outbound := rfl

theorem linkWithin_report (n : Nat) : ReportKept (State.linkWithin n) where
  reports := fun {s t} told ⟨few, notices, fit⟩ => by
    obtain ⟨out, joined, new⟩ := told.joined
    have others : ∀ k, k ≠ .notice → countKind k out = 0 := fun k other =>
      countKind_eq_zero.2 fun m hm same => other (same.symm.trans (new m hm))
    refine ⟨?_, told.room notices, ?_⟩
    · rw [State.unanswered_eq, told.asked, joined, countKind_append, others .reply (by decide)]
      exact few
    · rw [told.reported.planner, joined]
      exact commandsFit_append (fun m hm => by rw [new m hm]; nofun) fit

theorem linkWithin_of_slot {n : Nat} {s t : State} (link : t.link = s.link)
    (slot : t.planner.slot.map Slot.undated = s.planner.slot.map Slot.undated) (h : s.linkWithin n) : t.linkWithin n := by
  obtain ⟨few, notices, most, named⟩ := h
  rw [State.linkWithin, State.unanswered, link]
  refine ⟨few, notices, most, fun m hm command => ?_⟩
  obtain ⟨c, held, tag⟩ := named m hm command
  rw [held, Option.map_some] at slot
  obtain ⟨c', held', same⟩ := Option.map_eq_some_iff.1 slot
  simp only [Slot.undated, Slot.mk.injEq] at same
  exact ⟨c', held', by rw [tag, same.1]⟩

theorem linkWithin_work (n : Nat) : WorkKept anyPhase (State.linkWithin n) where
  toReportKept := linkWithin_report n
  allowance := fun _ s step _ h => linkWithin_of_slot (s := s) rfl step.slot h
  rewritten := fun _ _ _ _ h => h
  emptySlot := fun s h => by
    obtain ⟨few, notices, fit⟩ := h
    unfold Machine.emptySlot
    split
    · exact ⟨few, notices, fit⟩
    · next c held =>
      have left := removeUnsent_sublist c.tag s.link.outbound
      refine ⟨?_, (countKind_le_of_sublist _ left).trans notices, commandsFit_removeUnsent (held ▸ fit)⟩
      exact (Nat.add_le_add_left (countKind_le_of_sublist .reply left) _).trans few
  sendCommand := fun c s free _ ⟨few, notices, fit⟩ => by
    have queued : State.linkWithin n
        (queueMessage (commandMessage c) (s.onPlanner fun p => { p with slot := some c, tagCounter := c.tag })) := by
      refine ⟨?_, ?_, commandsFit_send rfl (free ▸ fit)⟩
      · show s.link.asked.length + countKind .reply (s.link.outbound ++ [commandMessage c]) ≤ n
        rw [countKind_append]
        exact few
      · show countKind .notice (s.link.outbound ++ [commandMessage c]) ≤ 10
        rw [countKind_append]
        exact notices
    have sent := (linkWithin_report n).counted .commandSent (sentIndex c) (some (.port c.approach)) _ queued
    unfold Machine.sendCommand
    dsimp only
    split
    · exact (linkWithin_report n).totals (f := fun t => { t with sent := tally32 t.sent })
        (fun _ ⟨_, rest⟩ => ⟨tally32_le _, rest⟩) _ sent
    · exact sent
  slotNamed := fun _ _ _ _ _ => trivial
  lostNamed := fun _ _ _ _ => trivial
  projected := fun _ _ _ _ _ _ _ _ => trivial

theorem linkWithin_signal (n : Nat) : SignalKept anyPhase (State.linkWithin n) where
  toWorkKept := linkWithin_work n
  timer := fun _ _ h => h
  modelState := fun _ _ h => h
  anchor := fun _ _ _ h => h

theorem linkWithin_trigger {n : Nat} {s : State} (h : s.linkWithin n) : (triggerPass s).linkWithin n := by
  unfold triggerPass
  split
  · exact h
  · split <;> exact h

theorem linkWithin_parts (n : Nat) : PartsKept anyPhase (State.linkWithin n) where
  toWorkKept := linkWithin_work n
  uncache := fun _ _ h => h
  push := fun _ _ _ _ _ h => h
  port := fun _ _ _ _ h => h
  fed := fun _ h => h
  hold := fun _ h => h
  trigger := fun _ h => linkWithin_trigger h
  remove := fun _ _ h => h
  cache := fun _ _ _ _ h => h
  serve := fun _ h => h
  flush := fun _ h => h
  review := fun _ _ _ h => h
  pass := fun s h => by
    unfold planningPass
    split
    · exact (linkWithin_work n).passBody (beginPass s) h
    · exact h
  status := fun _ _ _ _ h => linkWithin_trigger ((linkWithin_signal n).statusTaken trivial h)
  stale := (linkWithin_signal n).stale

theorem linkWithin_change (n : Nat) (target : Mode) {s : State} (h : s.linkWithin n) :
    (changeMode target s).linkWithin n :=
  (linkWithin_parts n).changeMode (fun _ h => h) (fun _ _ _ h => h) target s h

theorem linkWithin_write (n : Nat) (items : List Item) {s : State} (h : s.linkWithin n) : (writeAll items s).linkWithin n :=
  foldl_kept ((linkWithin_parts n).sectionEffect (fun _ _ _ _ h => h) (linkWithin_signal n).discardAnchor) items _ h

theorem linkWithin_owner {c : Instr} {want : AskedMessage → Bool} {owner : AskedMessage → State → State × Reply} {n : Nat}
    (asked : Instr.asked c = some (want, owner)) (m : AskedMessage) {s : State} (h : s.linkWithin n) :
    (owner m s).1.linkWithin n := by
  have mode : (withLength 2 setModeOwner m s).1.linkWithin n := by
    rcases setModeOwner_cases m s with stays | ⟨target, -, changes⟩
    · rw [stays]; exact h
    · rw [changes]; exact linkWithin_change n target h
  by_cases commands : Instr.commands c = true
  · cases c <;> simp only [Instr.commands, Bool.false_eq_true] at commands
    case configure =>
      cases asked
      rcases configureOwner_cases m s with stays | ⟨count, r, -, writes⟩
      · rw [stays]; exact h
      · rw [writes]; exact linkWithin_write n r.items h
    case setModeStandby => cases asked; exact mode
    case setModeMonitor => cases asked; exact mode
    case setModeRun => cases asked; exact mode
  · refine (linkWithin_parts n).kept.owner_kept asked ?_ m s h
    cases c <;> simp [Instr.asked, Instr.reads, Instr.commands] at asked commands ⊢

/-- A message leaves the asked queue, and what its owner keeps leaves room for its REPLY (R136). -/
theorem linkWithin_dequeue {s : State} {m : AskedMessage} (head : s.nextAsked = some m) (h : s.linkWithin 4) :
    (s.onLink fun k => { k with asked := k.asked.tail }).linkWithin 3 := by
  obtain ⟨few, rest⟩ := h
  refine ⟨?_, rest⟩
  rw [State.unanswered_eq] at few ⊢
  have waits : s.link.asked ≠ [] := fun none_waits => by
    unfold State.nextAsked at head
    rw [none_waits] at head
    cases restarts : s.link.restart <;> rw [restarts] at head <;> cases head
  have one := List.length_pos_iff.2 waits
  show s.link.asked.tail.length + countKind .reply s.link.outbound ≤ 3
  rw [List.length_tail]
  omega

theorem linkWithin_reply {m : OutMessage} {s : State} (reply : m.kind = .reply) (h : s.linkWithin 3) :
    (queueMessage m s).linkWithin 4 := by
  obtain ⟨few, notices, fit⟩ := h
  refine ⟨?_, ?_, commandsFit_append (by simp [reply]) fit⟩
  · have one := countKind_le_length .reply [m]
    rw [State.unanswered_eq] at few
    show s.link.asked.length + countKind .reply (s.link.outbound ++ [m]) ≤ 4
    rw [countKind_append]
    rw [List.length_singleton] at one
    omega
  · show countKind .notice (s.link.outbound ++ [m]) ≤ 10
    have none_new : countKind .notice [m] = 0 := countKind_eq_zero.2 (by simp [reply])
    rw [countKind_append, none_new]
    exact notices

theorem linkWithin_takeAsked {want : AskedMessage → Bool} {owner : AskedMessage → State → State × Reply}
    (owns : ∀ m s, s.linkWithin 3 → (owner m s).1.linkWithin 3) {s : State} (h : s.linkWithin 4) :
    (takeAsked want owner s).linkWithin 4 := by
  unfold takeAsked
  split
  · next m head =>
    split
    · exact linkWithin_reply rfl (owns m _ (linkWithin_dequeue head h))
    · exact h
  · exact h

theorem linkWithin_askRestart (r : Selector) {s : State} (h : s.linkWithin 4) : (askRestart r s).linkWithin 4 := by
  unfold askRestart
  split
  · next m head =>
    split
    · refine linkWithin_reply rfl (withLength_kept (P := State.linkWithin 3) (fun b s h => ?_) m _ (linkWithin_dequeue head h))
      obtain ⟨few, rest⟩ := h
      unfold restartOwner
      split
      · exact ⟨(Nat.add_le_add_right (Nat.zero_le _) _).trans few, rest⟩
      · exact ⟨few, rest⟩
    · exact h
  · exact h

theorem linkWithin_askedArrival {s : State} (h : s.linkWithin 4) : (askedMessageArrival s).linkWithin 4 := by
  have K := linkWithin_report 4
  refine K.takeReceived (fun f s h => ?_) s h
  unfold askedArrives
  split
  · exact h
  · split
    · exact K.latch _ _ _ (K.link h fun ⟨crc, _, dropped⟩ => ⟨crc, tally16_le _, dropped⟩)
    · next room =>
      obtain ⟨-, rest⟩ := h
      refine ⟨?_, rest⟩
      have few := Nat.lt_of_not_le room
      rw [State.unanswered_eq] at few ⊢
      simp only [State.onLink_link, List.length_append, List.length_singleton]
      omega

/-- The head leaves, and what stood behind it stays (R138). -/
theorem linkWithin_sent {n : Nat} {m : OutMessage} {rest : List OutMessage} {s : State} (queue : s.link.outbound = m :: rest)
    (h : s.linkWithin n) : (s.onLink fun k => { k with outbound := rest }).linkWithin n := by
  obtain ⟨few, notices, fit⟩ := h
  rw [State.unanswered_eq, queue] at few
  rw [queue] at notices fit
  have sub : rest.Sublist (m :: rest) := List.sublist_cons_self _ _
  exact ⟨(Nat.add_le_add_left (countKind_le_of_sublist .reply sub) _).trans few,
    (countKind_le_of_sublist .notice sub).trans notices, commandsFit_of_sublist (l' := m :: rest) (List.tail_sublist rest) fit⟩

theorem linkWithin_cleared (n : Nat) (s : State) (c : Configuration) (mask : PerLatch Bool) (counters : List Counter) :
    (s.cleared c mask counters).linkWithin n := ⟨Nat.zero_le _, Nat.zero_le _, Nat.zero_le _, nofun⟩

theorem linkWithin_reset (n : Nat) (r : Selector) {s : State} (h : s.linkWithin n) : (takeReset r s).linkWithin n :=
  (linkWithin_report n).reset (fun s _ => linkWithin_cleared n s _ _ _) (fun s => linkWithin_cleared n s _ _ _) r s h

theorem linkWithin_frameSent {s : State} (h : s.linkWithin 4) : (frameSent s).linkWithin 4 := by
  unfold frameSent
  split
  · exact h
  · next m rest queue =>
    have freed := linkWithin_sent queue h
    dsimp only
    split
    · split
      · split
        · exact linkWithin_reset 4 _ h
        · exact freed
      · exact freed
    · exact freed
    · exact freed

theorem effect_linkWithin (c : Instr) {s : State} (h : s.linkWithin 4) : (effect c s).linkWithin 4 := by
  have K := (linkWithin_parts 4).kept
  by_cases ordinary : Instr.ordinary c = true
  · exact K.effect_ordinary ordinary s h
  · cases asked : Instr.asked c with
    | some row =>
      rw [effect_asked asked]
      exact linkWithin_takeAsked (fun m _ h => linkWithin_owner asked m h) h
    | none =>
      have admits : ∀ (t : Telegram) (s : State), s.linkWithin 4 → (admitAny t s).linkWithin 4 := fun t s h =>
        (linkWithin_parts 4).admitAny (fun _ _ h => h) t s h
      have restarts : ∀ r, (finalReplySent r s).linkWithin 4 := fun r => by
        rcases finalReplySent_cases r s with stays | resets
        · rw [stays]; exact h
        · rw [resets]; exact linkWithin_reset 4 r h
      cases c <;> simp [Instr.ordinary, Instr.asked] at ordinary asked
      case powerOnReset straps =>
        exact (linkWithin_report 4).power (fun s => linkWithin_cleared 4 s _ _ _) straps s
      case askedMessageArrival => exact linkWithin_askedArrival h
      case restart => exact linkWithin_askRestart _ h
      case factory => exact linkWithin_askRestart _ h
      case restartTakesEffect => exact restarts _
      case factoryTakesEffect => exact restarts _
      case outboundFrameSent => exact linkWithin_frameSent h
      case checkIn => exact K.takeTelegram_admits (fun t s _ _ h => admits t s h) _ s h
      case position => exact K.takeTelegram_admits (fun t s _ _ h => admits t s h) _ s h

/-- Settles O57: a message is taken before its REPLY is queued, a notice joins only below ten messages, and a command
joins only with the slot empty and leaves with it. -/
theorem everyStepKeepsTheLink : Obligations.EveryStepKeepsTheLink := by
  unfold Obligations.EveryStepKeepsTheLink
  have link : StepKept (State.linkWithin 4) :=
    ⟨fun _ _ _ h => h, fun _ h => h, fun c _ h => effect_linkWithin c h⟩
  refine ⟨fun s t next h => link.step next h, fun s ⟨few, notices, most, _⟩ => ?_⟩
  rw [State.unanswered_eq] at few
  rw [length_eq_countKinds]
  have head : countKind .priorityCommand s.link.outbound ≤ 1 + countKind .priorityCommand s.link.outbound.tail := by
    cases s.link.outbound with
    | nil => exact Nat.zero_le _
    | cons m l =>
      rw [← List.singleton_append, countKind_append]
      exact Nat.add_le_add_right (countKind_le_length _ [m]) _
  omega

end Sys2Proof.Machine
end

section
/-! SUPPORT. The members of the active grant and the GRANTED entries are the same buses, and a COMMANDED entry is the one
of the command in the slot (R98, R80, R88): what the exchange, the pass and the exits do to both at once. -/

namespace Sys2Proof.Machine

/-! ### Table, members and slot -/

/-- What matters of a grant: its id and its members. -/
def Grant.terms (g : Grant) : Nat × List Nat := (g.id, g.members)

/-- The members of a grant, none when no grant is active. -/
def memberList (g : Option (Nat × List Nat)) : List Nat := (g.map Prod.snd).getD []

/-- The GRANTED entries of a table of distinct buses are the members `l`, and a COMMANDED entry is of the bus `b`. -/
structure Bound (T : List Entry) (l : List Nat) (b : Option Nat) : Prop where
  buses : (T.map Entry.bus).Nodup
  distinct : l.Nodup
  five : l.length ≤ 5
  present : ∀ x ∈ l, x ∈ T.map Entry.bus
  granted : ∀ e ∈ T, e.state = .granted ↔ e.bus ∈ l
  commanded : ∀ e ∈ T, e.state = .commanded → b = some e.bus

/-- What R77 and R88 say of the command in the slot beside a grant: a REVISE names no bus, a lead stands with no grant,
and a follower's grant has room. -/
def slotFits (k : Option Slot) (g : Option (Nat × List Nat)) : Prop :=
  ∀ c, k = some c → (c.action = .revise → c.bus = none) ∧ (c.action ≠ .revise → c.role = .lead → g = none) ∧
    (c.action ≠ .revise → c.role = .follower → ∀ t, g = some t → t.1 = c.grantId → t.2.length < 5)

/-- What GrantSound rests on: the table, the terms of the grant, and the command in the slot but for its due time. -/
def State.terms (s : State) : List Entry × Option (Nat × List Nat) × Option Slot :=
  (s.table, s.planner.grant.map Grant.terms, s.planner.slot.map Slot.undated)

/-- GrantSound, with the buses of the table distinct. -/
def State.granting (s : State) : Prop :=
  Bound s.table (memberList (s.planner.grant.map Grant.terms)) ((s.planner.slot.map Slot.undated).bind Slot.bus) ∧
    slotFits (s.planner.slot.map Slot.undated) (s.planner.grant.map Grant.terms)

theorem granting_of_terms {s t : State} (same : t.terms = s.terms) (h : s.granting) : t.granting := by
  simp only [State.terms, Prod.mk.injEq] at same
  obtain ⟨table, grant, slot⟩ := same
  rw [State.granting, table, grant, slot]
  exact h

theorem undated_bus (k : Option Slot) : (k.map Slot.undated).bind Slot.bus = k.bind Slot.bus := by cases k <;> rfl

theorem State.granting_iff (s : State) : s.granting ↔ (s.table.map Entry.bus).Nodup ∧ s.GrantSound := by
  rw [State.granting, undated_bus]
  constructor
  · rintro ⟨bound, fits⟩
    refine ⟨bound.buses, fun g active => ?_, fun e he granted => ?_, fun e he commanded => ?_, fun c held => ?_,
      fun c held adjusts lead => ?_, fun c g held adjusts follower active id => ?_⟩
    · have members := bound.present
      have state := bound.granted
      have distinct := bound.distinct
      have five := bound.five
      rw [active] at members state distinct five
      refine ⟨distinct, five, fun b hb => ?_⟩
      obtain ⟨e, he, bus⟩ := List.mem_map.1 (members b hb)
      exact ⟨e, he, bus, (state e he).2 (bus ▸ hb)⟩
    · have member := (bound.granted e he).1 granted
      cases active : s.planner.grant with
      | none => rw [active] at member; exact absurd member List.not_mem_nil
      | some g => exact ⟨g, rfl, by rw [active] at member; exact member⟩
    · obtain ⟨c, held, bus⟩ := Option.bind_eq_some_iff.1 (bound.commanded e he commanded)
      exact ⟨c, held, bus⟩
    · exact (fits c.undated (by rw [held]; rfl)).1
    · have none_active := (fits c.undated (by rw [held]; rfl)).2.1 adjusts lead
      simpa using none_active
    · exact (fits c.undated (by rw [held]; rfl)).2.2 adjusts follower g.terms (by rw [active]; rfl) id
  · rintro ⟨buses, members, granted, commanded, revise, lead, follower⟩
    refine ⟨?_, fun c held => ?_⟩
    · have bounds : (memberList (s.planner.grant.map Grant.terms)).Nodup ∧
          (memberList (s.planner.grant.map Grant.terms)).length ≤ 5 ∧
          ∀ b ∈ memberList (s.planner.grant.map Grant.terms), ∃ e ∈ s.table, e.bus = b ∧ e.state = .granted := by
        cases active : s.planner.grant with
        | none => exact ⟨List.nodup_nil, Nat.zero_le _, nofun⟩
        | some g => exact members g active
      obtain ⟨distinct, five, present⟩ := bounds
      refine ⟨buses, distinct, five, fun b hb => ?_, fun e he => ⟨fun state => ?_, fun member => ?_⟩,
        fun e he state => ?_⟩
      · obtain ⟨e, he, bus, -⟩ := present b hb
        exact List.mem_map.2 ⟨e, he, bus⟩
      · obtain ⟨g, active, member⟩ := granted e he state
        rw [active]
        exact member
      · obtain ⟨q, hq, bus, state⟩ := present _ member
        exact List.inj_on_of_nodup_map buses hq he bus ▸ state
      · obtain ⟨c, held, bus⟩ := commanded e he state
        rw [held]
        exact bus
    · obtain ⟨c', held', rfl⟩ := Option.map_eq_some_iff.1 held
      refine ⟨revise c' held', fun adjusts leads => by rw [lead c' held' adjusts leads]; rfl,
        fun adjusts follows t active id => ?_⟩
      obtain ⟨g, active', rfl⟩ := Option.map_eq_some_iff.1 active
      exact follower c' g held' adjusts follows active' id

/-! ### Changes of table and members -/

theorem slotFits_none (g : Option (Nat × List Nat)) : slotFits none g := nofun

/-- The grant closes, or keeps its id and gains no member. -/
theorem slotFits_fewer {k : Option Slot} {g g' : Option (Nat × List Nat)} (fits : slotFits k g)
    (fewer : ∀ t, g' = some t → ∃ t', g = some t' ∧ t'.1 = t.1 ∧ t.2.length ≤ t'.2.length) : slotFits k g' := by
  intro c held
  obtain ⟨revise, lead, follower⟩ := fits c held
  refine ⟨revise, fun adjusts leads => ?_, fun adjusts follows t active id => ?_⟩
  · cases active : g' with
    | none => rfl
    | some t =>
      obtain ⟨t', before, -⟩ := fewer t active
      rw [lead adjusts leads] at before
      cases before
  · obtain ⟨t', before, same, less⟩ := fewer t active
    exact less.trans_lt (follower adjusts follows t' before (same.trans id))

namespace Bound
variable {T : List Entry} {l : List Nat} {b : Option Nat} (h : Bound T l b)
include h

/-- Two entries of a bus are one. -/
theorem unique {e q : Entry} (he : e ∈ T) (hq : q ∈ T) (bus : q.bus = e.bus) : q = e :=
  List.inj_on_of_nodup_map h.buses hq he bus

theorem rewrites {f : Entry → Entry} {l' : List Nat} {b' : Option Nat} (bus : ∀ e ∈ T, (f e).bus = e.bus)
    (distinct : l'.Nodup) (five : l'.length ≤ 5) (present : ∀ x ∈ l', x ∈ T.map Entry.bus)
    (granted : ∀ e ∈ T, (f e).state = .granted ↔ e.bus ∈ l')
    (commanded : ∀ e ∈ T, (f e).state = .commanded → b' = some e.bus) : Bound (T.map f) l' b' := by
  have same : (T.map f).map Entry.bus = T.map Entry.bus := by
    rw [List.map_map]
    exact List.map_congr_left bus
  refine ⟨same ▸ h.buses, distinct, five, fun x hx => same ▸ present x hx, ?_, ?_⟩
  · simp only [List.forall_mem_map]
    intro e he
    rw [bus e he]
    exact granted e he
  · simp only [List.forall_mem_map]
    intro e he
    rw [bus e he]
    exact commanded e he

/-- Entries are rewritten, and none comes to be GRANTED or COMMANDED, or ceases to be GRANTED. -/
theorem keeps {f : Entry → Entry} (bus : ∀ e ∈ T, (f e).bus = e.bus)
    (granted : ∀ e ∈ T, (f e).state = .granted ↔ e.state = .granted)
    (commanded : ∀ e ∈ T, (f e).state = .commanded → e.state = .commanded) : Bound (T.map f) l b :=
  h.rewrites bus h.distinct h.five h.present (fun e he => (granted e he).trans (h.granted e he))
    fun e he state => h.commanded e he (commanded e he state)

/-- The members leave the grant. -/
theorem closes {f : Entry → Entry} (bus : ∀ e ∈ T, (f e).bus = e.bus)
    (members : ∀ e ∈ T, e.bus ∈ l → (f e).state ≠ .granted ∧ (f e).state ≠ .commanded)
    (others : ∀ e ∈ T, e.bus ∉ l → f e = e) : Bound (T.map f) [] b := by
  refine h.rewrites bus List.nodup_nil (Nat.zero_le _) nofun (fun e he => ⟨fun state => ?_, nofun⟩) fun e he state => ?_
  · by_cases member : e.bus ∈ l
    · exact absurd state (members e he member).1
    · rw [others e he member] at state
      exact absurd ((h.granted e he).1 state) member
  · by_cases member : e.bus ∈ l
    · exact absurd state (members e he member).2
    · rw [others e he member] at state
      exact h.commanded e he state

/-- The entry of a bus that is no member joins, and no other stands COMMANDED. -/
theorem joins {x : Nat} {f : Entry → Entry} (bus : ∀ e, (f e).bus = e.bus) (owns : ∀ y, b = some y → y = x)
    (strange : x ∉ l) (room : l.length < 5) (here : x ∈ T.map Entry.bus)
    (granted : ∀ e ∈ T, e.bus = x → (f e).state = .granted) :
    Bound (T.map fun e => if e.bus = x then f e else e) (l ++ [x]) none := by
  refine h.rewrites (fun e _ => ?_) ?_ (by simpa using room) ?_ (fun e he => ?_) fun e he state => ?_
  · split
    · exact bus e
    · rfl
  · rw [List.nodup_append]
    refine ⟨h.distinct, List.nodup_singleton x, fun y hy z hz => ?_⟩
    rw [List.mem_singleton.1 hz]
    rintro rfl
    exact strange hy
  · intro y hy
    rcases List.mem_append.1 hy with old | new
    · exact h.present y old
    · rw [List.mem_singleton.1 new]; exact here
  · by_cases same : e.bus = x
    · simp [same, granted e he same]
    · simp [same, h.granted e he]
  · by_cases same : e.bus = x
    · simp [same, granted e he same] at state
    · rw [if_neg same] at state
      exact absurd (owns _ (h.commanded e he state)) same

/-- The COMMANDED entry of a bus is placed elsewhere, and none stays COMMANDED. -/
theorem settles {x : Nat} {f : Entry → Entry} (bus : ∀ e, (f e).bus = e.bus) (owns : ∀ y, b = some y → y = x)
    (settled : ∀ e, (f e).state ≠ .granted ∧ (f e).state ≠ .commanded) :
    Bound (T.map fun e => if e.bus = x then (if e.state = .commanded then f e else e) else e) l none := by
  refine h.rewrites (fun e _ => ?_) h.distinct h.five h.present (fun e he => ?_) fun e he state => ?_
  · split
    · split
      · exact bus e
      · rfl
    · rfl
  · rw [← h.granted e he]
    split
    · split
      · next state => simp [settled e, state]
      · rfl
    · rfl
  · split at state
    · split at state
      · exact absurd state (settled e).2
      · next other => exact absurd state other
    · next other => exact absurd (owns _ (h.commanded e he state)) other

/-- No entry stands COMMANDED, though a bus was named. -/
theorem unbound (free : ∀ e ∈ T, e.state ≠ .commanded) : Bound T l none :=
  ⟨h.buses, h.distinct, h.five, h.present, h.granted, fun e he state => absurd state (free e he)⟩

/-- The entry of a bus leaves the table and the grant. -/
theorem removes (x : Nat) : Bound (T.filter fun e => e.bus != x) (l.filter fun y => y != x) b := by
  refine ⟨(List.filter_sublist.map _).nodup h.buses, h.distinct.filter _, (List.length_filter_le _ _).trans h.five,
    fun y hy => ?_, fun e he => ?_, fun e he => h.commanded e (List.mem_filter.1 he).1⟩
  · obtain ⟨member, other⟩ := List.mem_filter.1 hy
    obtain ⟨e, he, rfl⟩ := List.mem_map.1 (h.present y member)
    exact List.mem_map.2 ⟨e, List.mem_filter.2 ⟨he, other⟩, rfl⟩
  · obtain ⟨he, other⟩ := List.mem_filter.1 he
    rw [List.mem_filter, h.granted e he]
    exact ⟨fun member => ⟨member, other⟩, And.left⟩

/-- An entry of another bus joins the table outside the grant. -/
theorem admits {e : Entry} (absent : ∀ q ∈ T, q.bus ≠ e.bus) (outside : e.state ≠ .granted ∧ e.state ≠ .commanded) :
    Bound (T ++ [e]) l b := by
  have strange : e.bus ∉ l := fun member => by
    obtain ⟨q, hq, bus⟩ := List.mem_map.1 (h.present _ member)
    exact absent q hq bus
  refine ⟨?_, h.distinct, h.five, fun x hx => by simp [List.mem_append, h.present x hx], fun q hq => ?_, fun q hq => ?_⟩
  · rw [List.map_append, List.nodup_append]
    refine ⟨h.buses, List.nodup_singleton _, fun x hx y hy => ?_⟩
    obtain ⟨q, hq, rfl⟩ := List.mem_map.1 hx
    rw [List.mem_singleton.1 hy]
    exact absent q hq
  · rcases List.mem_append.1 hq with old | new
    · exact h.granted q old
    · rw [List.mem_singleton.1 new]
      simp [outside, strange]
  · rcases List.mem_append.1 hq with old | new
    · exact h.commanded q old
    · rw [List.mem_singleton.1 new]
      exact fun state => absurd state outside.2

end Bound

theorem bound_nil (b : Option Nat) : Bound [] [] b :=
  ⟨List.nodup_nil, List.nodup_nil, Nat.zero_le _, fun _ hx => absurd hx List.not_mem_nil,
    fun _ he => absurd he List.not_mem_nil, fun _ he => absurd he List.not_mem_nil⟩

end Sys2Proof.Machine
end

section
/-! SUPPORT. Every operation of the exchange, of a pass and of the table keeps the members of the grant and the GRANTED
entries the same buses. -/

namespace Sys2Proof.Machine

/-! ### Operations that judge the grant -/

/-- A property of the terms alone, kept by the close of the grant. -/
structure TermsKept (P : State → Prop) : Prop where
  same : ∀ s t, t.terms = s.terms → P s → P t
  close : ∀ s, P s → P (closeGrant s)

namespace TermsKept
variable {P : State → Prop} (K : TermsKept P)
include K

theorem stays {s t : State} (h : P s) (same : t.terms = s.terms := by exact rfl) : P t := K.same s t same h

theorem report : ReportKept P :=
  ⟨fun {s t} told h => K.same s t (by rw [State.terms, told.reported.table, told.reported.planner]; rfl) h⟩

theorem onGrant {f : Grant → Grant} {s : State} (h : P s) (terms : ∀ g, (f g).terms = g.terms := by exact fun _ => rfl) :
    P (s.onGrant f) := by
  refine K.same s _ ?_ h
  simp only [State.terms, State.onGrant, State.onPlanner_table, State.onPlanner_planner, Option.map_map]
  rw [show Grant.terms ∘ f = Grant.terms from funext terms]

theorem callRevise (g : Grant) (total : Nat) (s : State) (h : P s) : P (callRevise g total s) := by
  unfold Machine.callRevise
  split
  · split
    · exact K.close s h
    · exact K.onGrant h
  · exact K.stays h

theorem trimTest (s : State) (h : P s) : P (trimTest s) := by
  unfold Machine.trimTest
  split
  · split
    · dsimp only
      split
      · exact K.callRevise _ _ s h
      · exact h
    · exact h
  · exact h

theorem raiseTotal (n : Nat) (s : State) (h : P s) : P (raiseTotal n s) := by
  unfold Machine.raiseTotal
  split
  · exact h
  · next g active =>
    refine K.trimTest _ (K.same s _ ?_ h)
    simp [State.terms, active, Grant.terms]

theorem closeIfVain (s : State) (h : P s) : P (closeIfVain s) := by
  unfold Machine.closeIfVain
  split
  · exact h
  · split <;> split
    · exact h
    · exact K.close s h
    · exact h
    · exact K.close s h

theorem grantStatus (p : Nat) (i : Interval) (s : State) (h : P s) : P (grantStatus p i s) := by
  unfold Machine.grantStatus
  split
  · exact h
  · dsimp only
    split
    · split
      · exact h
      · exact K.close s h
    · split
      · split
        · exact K.onGrant h
        · exact h
      · exact K.onGrant h

theorem trigger (s : State) (h : P s) : P (triggerPass s) := by
  refine K.same s _ ?_ h
  unfold triggerPass
  split
  · rfl
  · split <;> rfl

theorem onLedger {f : Ledger → Ledger} {s : State} (h : P s) : P (s.onLedger f) := K.stays h

/-! #### The signal model -/

theorem setModelState (m : ModelState) (s : State) (h : P s) : P (setModelState m s) := by
  have entered : P (latchNotice .signalModel m.code { s with model := { s.model with state := m } }) :=
    K.report.latch _ _ _ (K.stays h)
  unfold Machine.setModelState
  split
  · exact h
  · unfold signalPlanner
    split
    · exact K.stays entered
    · split
      · have stopped : P ((latchNotice .signalModel m.code { s with model := { s.model with state := m } }).onPlanner
            fun p => { p with review := none }) := K.stays entered
        dsimp only
        split
        · split
          · exact K.close _ stopped
          · exact stopped
        · exact stopped
      · exact entered

theorem cycleStart (s : State) (h : P s) : P (cycleStart s) := by
  have refilled : P (allApproaches.foldl refillOne s) := foldl_kept (fun s x h => K.same s _ ?_ h) allApproaches s h
  · unfold Machine.cycleStart renewLedger
    exact K.onLedger refilled
  · unfold refillOne
    dsimp only
    split <;> rfl

theorem status (t : Status) (s : State) (h : P s) : P (validStatus t s) := by
  have taken := K.setModelState (t.modelState s.config) { s with model := { s.model with anchor := some (t.anchor s.now) } }
    (K.stays h)
  rw [validStatus_eq]
  refine K.trigger _ ?_
  unfold statusTaken
  refine K.grantStatus _ _ _ ?_
  split
  · exact K.cycleStart _ taken
  · exact taken

theorem stale (s : State) (h : P s) : P (staleExpires s) := by
  unfold staleExpires
  split
  · exact K.setModelState _ s h
  · exact h

theorem discardAnchor (s : State) (h : P s) : P (discardAnchor s) := K.setModelState _ _ (K.stays h)

theorem quiet : QuietKept P where
  toReportKept := K.report
  uncache := fun _ s h => K.stays h
  push := fun _ _ s _ _ h => K.stays h
  port := fun _ _ s _ h => K.stays h
  fed := fun s h => K.stays h
  hold := fun s h => K.stays h

theorem sectionEffect (s : State) (it : Item) (h : P s) : P (sectionEffect s it) := by
  have anyPort : ∀ x f s, P s → P (s.onPort x f) := fun _ _ s h => K.stays h
  unfold Machine.sectionEffect
  split
  · exact K.discardAnchor s h
  · exact K.discardAnchor s h
  · split
    · next x _ =>
      have followed : P (followEnabled x s) := by
        unfold followEnabled enablePort
        split
        · split
          · exact anyPort _ _ s h
          · exact h
        · exact K.quiet.disablePort (fun x f s _ => anyPort x f s) x s h
      refine K.same _ _ ?_ followed
      unfold limitTokens
      split <;> rfl
    · exact h
  all_goals exact h

end TermsKept

/-! ### The close of the grant -/

theorem closeGrant_granting {s : State} (h : s.granting) : (closeGrant s).granting := by
  obtain ⟨bound, fits⟩ := h
  unfold closeGrant
  split
  · exact ⟨bound, fits⟩
  · next g active =>
    rw [active] at bound fits
    refine ⟨bound.closes (fun e _ => ?_) (fun e _ member => ?_) (fun e _ outside => ?_), slotFits_fewer fits nofun⟩
    · split <;> rfl
    · rw [if_pos (show g.members.contains e.bus = true from List.contains_iff_mem.2 member)]
      exact ⟨nofun, nofun⟩
    · rw [if_neg fun member : g.members.contains e.bus = true => outside (List.contains_iff_mem.1 member)]

theorem granting_terms : TermsKept State.granting := ⟨fun _ _ => granting_of_terms, fun _ => closeGrant_granting⟩

/-- What is judged with an entry still in the table is judged as without it. -/
theorem removed_terms (bus : Nat) : TermsKept fun s => (removeEntry bus s).granting where
  same := fun s t same h => by
    simp only [State.terms, Prod.mk.injEq] at same
    obtain ⟨table, grant, slot⟩ := same
    refine granting_of_terms ?_ h
    simp only [State.terms, removeEntry_table, removeEntry_planner, table, grant, slot]
  close := fun s h => by
    have commutes : removeEntry bus (closeGrant s) = closeGrant (removeEntry bus s) := by
      unfold closeGrant
      rw [removeEntry_planner]
      split
      · rfl
      · next g _ =>
        have same : ∀ e : Entry, (if g.members.contains e.bus then e.spend s.now (g.state == .running) else e).bus =
            e.bus := fun e => by split <;> rfl
        simp only [removeEntry, State.onPlanner, List.filter_map, Function.comp_def, same]
    rw [commutes]
    exact closeGrant_granting h

/-! ### The slot is settled -/

theorem emptySlot_planner (s : State) : (emptySlot s).planner = { s.planner with slot := none } := by
  unfold emptySlot
  split
  · next free => rw [← free]
  · rfl

theorem takeToken_slot (x : Approach) (s : State) : (takeToken x s).planner.slot = s.planner.slot := by
  unfold takeToken
  dsimp only
  split
  · rw [latchNotice_planner]; rfl
  · rfl

/-- With the slot empty, the table and the members are all that is judged. -/
theorem granting_of_bound {s : State} (free : s.planner.slot = none)
    (bound : Bound s.table (memberList (s.planner.grant.map Grant.terms)) none) : s.granting := by
  rw [State.granting, free]
  exact ⟨bound, slotFits_none _⟩

/-- The command in the slot bounds the COMMANDED entries to its bus. -/
theorem State.granting.bound {s : State} (h : s.granting) {k : Option Slot} (held : s.planner.slot = k) :
    Bound s.table (memberList (s.planner.grant.map Grant.terms)) (k.bind Slot.bus) := by
  subst held
  rw [← undated_bus]
  exact h.1

theorem Slot.owns {c : Slot} : ∀ y, (some c : Option Slot).bind Slot.bus = some y → y = c.bus.getD 0 := by
  intro y named
  rw [Option.bind_some] at named
  rw [named]
  rfl

/-- The entry found for a bus is its only one. -/
theorem Bound.found {s : State} {l : List Nat} {b : Option Nat} (bound : Bound s.table l b) {e : Entry}
    (he : e ∈ s.table) : s.findEntry e.bus = some e := by
  cases found : s.findEntry e.bus with
  | none => exact absurd rfl (findEntry_none found e he)
  | some q => rw [bound.unique he (findEntry_mem found) (findEntry_bus found)]

theorem stillCommanded_true {s : State} {l : List Nat} {b : Option Nat} (bound : Bound s.table l b) {bus : Nat}
    (present : s.stillCommanded bus = true) : bus ∈ s.table.map Entry.bus ∧ ∀ e ∈ s.table, e.bus = bus → e.state = .commanded := by
  unfold State.stillCommanded at present
  split at present
  · next q found =>
    refine ⟨List.mem_map.2 ⟨q, findEntry_mem found, findEntry_bus found⟩, fun e he same => ?_⟩
    rw [bound.unique (findEntry_mem found) he (same.trans (findEntry_bus found).symm)]
    simpa using present
  · cases present

theorem stillCommanded_false {s : State} {l : List Nat} {b : Option Nat} (bound : Bound s.table l b) {bus : Nat}
    (gone : s.stillCommanded bus = false) (owns : ∀ y, b = some y → y = bus) :
    ∀ e ∈ s.table, e.state ≠ .commanded := by
  intro e he state
  have same := owns _ (bound.commanded e he state)
  subst same
  rw [State.stillCommanded, bound.found he] at gone
  simp [state] at gone

theorem acceptLead_granting {c : Slot} {act : Action} (n : Nat) (p : Bool) {s : State} (held : s.planner.slot = some c)
    (adjusts : c.action = .adjust act) (lead : c.role = .lead) (h : s.granting) : (acceptLead c act n p s).granting := by
  have K := granting_terms
  have free : s.planner.grant = none := by
    have fits := (h.2 c.undated (by rw [held]; rfl)).2.1 (by rw [Slot.undated, adjusts]; nofun) lead
    simpa using fits
  have bound := h.bound held
  rw [free] at bound
  unfold acceptLead
  dsimp only
  generalize taken : takeToken c.approach ((emptySlot s).onLedger fun l => l.convert n) = u
  have table : u.table = s.table := by rw [← taken]; simp [State.onLedger]
  have slot : u.planner.slot = none := by
    rw [← taken, takeToken_slot]
    exact emptySlot_slot s
  rw [← table] at bound
  refine K.closeIfVain _ (K.same _ _ rfl ?_)
  split
  · next present =>
    obtain ⟨here, commanded⟩ := stillCommanded_true bound present
    refine granting_of_bound slot (bound.joins (l := []) (fun e => ?_) Slot.owns List.not_mem_nil (by simp) here
      fun e he same => ?_)
    · split <;> rfl
    · rw [if_pos (commanded e he same)]; rfl
  · next gone =>
    exact granting_of_bound slot (bound.unbound (stillCommanded_false bound (by simpa using gone) Slot.owns))

theorem acceptFollower_granting {c : Slot} {act : Action} (n : Nat) {s : State} (held : s.planner.slot = some c)
    (adjusts : c.action = .adjust act) (follower : c.role = .follower) (h : s.granting) :
    (acceptFollower c n s).granting := by
  have K := granting_terms
  have bound := h.bound held
  have fits := (h.2 c.undated (by rw [held]; rfl)).2.2 (by rw [Slot.undated, adjusts]; nofun) follower
  have grant : (emptySlot s).planner.grant = s.planner.grant := by rw [emptySlot_planner]
  have waits : (updateCommanded (c.bus.getD 0) (fun e => { e.place .waiting (some .needsGreen) with applied := some n })
      ((emptySlot s).onLedger fun l => l.convert n)).granting := by
    refine granting_of_bound (emptySlot_slot s) ?_
    show Bound _ (memberList ((emptySlot s).planner.grant.map Grant.terms)) none
    rw [grant]
    exact (emptySlot_table s ▸ bound).settles (fun _ => rfl) Slot.owns fun _ => ⟨nofun, nofun⟩
  unfold acceptFollower
  dsimp only
  generalize freed : (emptySlot s).onLedger (fun l => l.convert n) = u at waits
  have table : u.table = s.table := by rw [← freed]; exact emptySlot_table s
  have active : u.planner.grant = s.planner.grant := by rw [← freed]; exact grant
  have slot : u.planner.slot = none := by rw [← freed]; exact emptySlot_slot s
  rw [← table] at bound
  split
  · next g hg =>
    rw [← active, hg] at bound fits
    split
    · next names =>
      have room := fits g.terms rfl names
      split
      · next present =>
        obtain ⟨here, commanded⟩ := stillCommanded_true bound present
        refine K.raiseTotal _ _ (granting_of_bound slot ?_)
        have joined := bound.joins (f := fun e => if e.state = .commanded then e.join .follower n false else e)
          (fun e => by split <;> rfl) Slot.owns (fun member => ?_) room here
          fun e he same => by rw [if_pos (commanded e he same)]; rfl
        · show Bound _ (memberList ((u.planner.grant.map fun q => { q with members := q.members ++ [c.bus.getD 0] }).map
            Grant.terms)) none
          rw [hg]
          exact joined
        · obtain ⟨e, he, same⟩ := List.mem_map.1 here
          have granted := (bound.granted e he).2 (same ▸ member)
          rw [commanded e he same] at granted
          cases granted
      · next gone =>
        refine K.raiseTotal _ _ (granting_of_bound slot ?_)
        rw [hg]
        exact bound.unbound (stillCommanded_false bound (by simpa using gone) Slot.owns)
    · exact waits
  · exact waits

theorem Entry.refuse_state (firm : Bool) (most : Nat) (e : Entry) :
    (e.refuse firm most).state ≠ .granted ∧ (e.refuse firm most).state ≠ .commanded := by
  unfold Entry.refuse
  dsimp only
  split
  · exact ⟨nofun, nofun⟩
  · split <;> exact ⟨nofun, nofun⟩

theorem refuseCommand_granting {c : Slot} (firm : Bool) {s : State} (held : s.planner.slot = some c) (h : s.granting) :
    (refuseCommand c firm s).granting := by
  refine granting_of_bound (emptySlot_slot s) ?_
  show Bound _ (memberList ((emptySlot s).planner.grant.map Grant.terms)) none
  rw [emptySlot_planner]
  exact (emptySlot_table s ▸ h.bound held).settles (fun e => (keepsEntry_refuse firm _).bus e) Slot.owns
    (Entry.refuse_state firm _)

/-- A REVISE names no bus, so no entry stands COMMANDED beside it (R88). -/
theorem emptyRevise_granting {c : Slot} {s : State} (held : s.planner.slot = some c) (revises : c.action = .revise)
    (h : s.granting) : (emptySlot s).granting := by
  have bound := h.bound held
  rw [Option.bind_some, show c.bus = none from (h.2 c.undated (by rw [held]; rfl)).1 revises] at bound
  refine granting_of_bound (emptySlot_slot s) ?_
  rw [emptySlot_planner, emptySlot_table]
  exact bound

theorem settleRevise_granting {c : Slot} (v : VerdictCode) {s : State} (held : s.planner.slot = some c)
    (revises : c.action = .revise) (h : s.granting) : (settleRevise c v s).granting := by
  have freed := emptyRevise_granting held revises h
  unfold settleRevise
  dsimp only
  split
  · exact freed
  · split
    · split
      · split
        · exact closeGrant_granting freed
        · split
          · exact granting_terms.onGrant freed
          · exact freed
      · exact freed
    · exact freed

/-- The entry of a lost command waits, so it is no member (R96, R97). -/
theorem lostWaits_joins {s : State} {l : List Nat} {b : Option Nat} (bound : Bound s.table l b) {bus : Nat}
    (waits : s.lostWaits bus = true) : bus ∈ s.table.map Entry.bus ∧ bus ∉ l := by
  unfold State.lostWaits at waits
  split at waits
  · next e found =>
    have he := findEntry_mem found
    have same := findEntry_bus found
    refine ⟨List.mem_map.2 ⟨e, he, same⟩, fun member => ?_⟩
    rw [(bound.granted e he).2 (same ▸ member)] at waits
    cases waits
  · cases waits

theorem adoptLead_granting {m : LostTag} {n : Nat} {s : State} (adopts : s.adoptsLead m n = true) (h : s.granting) :
    (adoptLead m n s).granting := by
  have K := granting_terms
  simp only [State.adoptsLead, Bool.and_eq_true, Option.isNone_iff_eq_none] at adopts
  obtain ⟨⟨⟨⟨⟨-, free⟩, empty⟩, -⟩, -⟩, waits⟩ := adopts
  have bound := h.bound empty
  rw [free] at bound
  obtain ⟨here, -⟩ := lostWaits_joins bound waits
  unfold adoptLead
  dsimp only
  refine K.closeIfVain _ (granting_of_bound ?_ ?_)
  · show (takeToken m.approach (s.onLedger fun l => l.charge n .lead)).planner.slot = none
    rw [takeToken_slot]
    exact empty
  · show Bound ((takeToken m.approach (s.onLedger fun l => l.charge n .lead)).table.map _) [m.bus] none
    rw [takeToken_table]
    exact bound.joins (l := []) (fun _ => rfl) nofun List.not_mem_nil (by simp) here fun _ _ _ => rfl

theorem adoptFollower_granting {m : LostTag} {n : Nat} {s : State} (adopts : s.adoptsFollower m n = true)
    (h : s.granting) : (adoptFollower m n s).granting := by
  unfold State.adoptsFollower at adopts
  split at adopts
  · next g active =>
    simp only [Bool.and_eq_true, Option.isNone_iff_eq_none, decide_eq_true_eq] at adopts
    obtain ⟨⟨⟨⟨⟨-, empty⟩, -⟩, -⟩, room⟩, waits⟩ := adopts
    have bound := h.bound empty
    rw [active] at bound
    obtain ⟨here, strange⟩ := lostWaits_joins bound waits
    unfold adoptFollower
    refine granting_terms.raiseTotal _ _ (granting_of_bound empty ?_)
    show Bound (s.table.map _) (memberList ((s.planner.grant.map fun q => { q with members := q.members ++ [m.bus] }).map
      Grant.terms)) none
    rw [active]
    exact bound.joins (fun _ => rfl) nofun strange room here fun _ _ _ => rfl
  · cases adopts

theorem granting_exchange : ExchangeKept State.granting where
  toReportKept := granting_terms.report
  acceptLead := fun _ _ n p _ held adjusts lead h => acceptLead_granting n p held adjusts lead h
  acceptFollower := fun _ _ n _ held adjusts follower h => acceptFollower_granting n held adjusts follower h
  refuse := fun _ _ firm _ held _ h => refuseCommand_granting firm held h
  timedOut := fun _ _ s held _ h => granting_terms.stays (refuseCommand_granting (s := s) false held h)
  settleRevise := fun _ v _ held revises h => settleRevise_granting v held revises h
  reviseLost := fun _ _ held revises h => emptyRevise_granting held revises h
  forget := fun s h => granting_terms.stays h
  adoptLead := fun _ _ s _ _ adopts h => adoptLead_granting adopts (granting_terms.stays h)
  adoptFollower := fun _ _ s _ _ adopts h => adoptFollower_granting adopts (granting_terms.stays h)
  pending := fun _ s h => granting_terms.stays h
  takeReport := fun s h => by
    refine granting_terms.same s _ ?_ h
    unfold takeReport
    split
    · rfl
    · dsimp only
      split
      · next c held =>
        split
        · simp [State.terms, held, Slot.undated]
        · rfl
      · rfl
  close := fun _ => closeGrant_granting
  trigger := granting_terms.trigger

end Sys2Proof.Machine
end

section
/-! SUPPORT. The exits, the updates, the pass and the admission keep the members of the grant and the GRANTED entries the
same buses; and so does every command. -/

namespace Sys2Proof.Machine

/-! ### Placements leave the exchange's states alone -/

/-- Two entries are both GRANTED or neither, and both COMMANDED or neither. -/
structure Entry.alike (q e : Entry) : Prop where
  granted : q.state = .granted ↔ e.state = .granted
  commanded : q.state = .commanded ↔ e.state = .commanded

theorem Entry.alike_of_state {q e : Entry} (same : q.state = e.state) : q.alike e := ⟨by rw [same], by rw [same]⟩

/-- Two entries of states outside the exchange are alike. -/
theorem Entry.alike_of_free {q e : Entry} (hq : q.state ≠ .granted ∧ q.state ≠ .commanded)
    (he : e.state ≠ .granted ∧ e.state ≠ .commanded) : q.alike e :=
  ⟨by simp [hq.1, he.1], by simp [hq.2, he.2]⟩

theorem Entry.placeByEstimate_alike {e : Entry} (free : e.state ≠ .granted ∧ e.state ≠ .commanded) :
    e.placeByEstimate.alike e := by
  refine alike_of_free ?_ free
  unfold Entry.placeByEstimate
  split
  · exact ⟨nofun, nofun⟩
  · split
    · exact ⟨nofun, nofun⟩
    · split
      case h_3 => exact ⟨nofun, nofun⟩
      case h_4 => exact ⟨nofun, nofun⟩
      case h_5 => exact ⟨nofun, nofun⟩
      all_goals exact free

theorem Entry.placeAfterUpdate_alike (e : Entry) : e.placeAfterUpdate.alike e := by
  unfold Entry.placeAfterUpdate
  cases state : e.state <;> dsimp only
  case new =>
    split
    · exact alike_of_state rfl
    · exact placeByEstimate_alike (by simp [state])
  case commanded => exact alike_of_state rfl
  case granted => exact alike_of_state rfl
  case spent => exact alike_of_state rfl
  case denied => exact alike_of_state rfl
  all_goals exact placeByEstimate_alike (by simp [state])

theorem Entry.placeAfterPass_alike (e : Entry) : e.placeAfterPass.alike e := by
  unfold Entry.placeAfterPass
  cases state : e.state <;> dsimp only
  case far => exact placeByEstimate_alike (by simp [state])
  case watch => exact placeByEstimate_alike (by simp [state])
  case covered => exact placeByEstimate_alike (by simp [state])
  case waiting => exact placeByEstimate_alike (by simp [state])
  all_goals exact alike_of_state rfl

theorem EntryState.classifiable_free {st : EntryState} (h : st.classifiable = true) : st ≠ .granted ∧ st ≠ .commanded := by
  cases st <;> simp_all [EntryState.classifiable]

theorem granting_alike {f : Entry → Entry} {s : State} (h : s.granting) (bus : ∀ e ∈ s.table, (f e).bus = e.bus)
    (alike : ∀ e ∈ s.table, (f e).alike e) : State.granting { s with table := s.table.map f } :=
  ⟨h.1.keeps bus (fun e he => (alike e he).granted) fun e he => (alike e he).commanded.1, h.2⟩

/-! ### Exits (R19) -/

theorem removeEntry_granting {e : Entry} {s : State} (he : e ∈ s.table) (free : e.state ≠ .granted) (h : s.granting) :
    (removeEntry e.bus s).granting := by
  obtain ⟨bound, fits⟩ := h
  have left := bound.removes e.bus
  have strange : ∀ y ∈ memberList (s.planner.grant.map Grant.terms), (y != e.bus) = true := fun y hy => by
    rw [bne_iff_ne]
    rintro rfl
    exact free ((bound.granted e he).2 hy)
  rw [List.filter_eq_self.2 strange] at left
  exact ⟨left, fits⟩

/-- The planner is told first, so that an entry leaves table and grant together (R19 step 1, R102). -/
theorem tellDeparture_removed {e : Entry} {s : State} (he : e ∈ s.table) (h : s.granting) :
    (removeEntry e.bus (tellDeparture e s)).granting := by
  have K := removed_terms e.bus
  unfold tellDeparture
  split
  · next granted =>
    have member := (h.1.granted e he).1 granted
    split
    · next none_active =>
      rw [none_active] at member
      exact absurd member List.not_mem_nil
    · next g active =>
      have left : (removeEntry e.bus (s.onPlanner fun p =>
          { p with grant := some { g with members := g.members.filter fun b => b != e.bus } })).granting := by
        obtain ⟨bound, fits⟩ := h
        rw [active] at bound fits
        refine ⟨bound.removes e.bus, slotFits_fewer fits fun t ht => ⟨g.terms, rfl, ?_⟩⟩
        cases ht
        exact ⟨rfl, List.length_filter_le _ _⟩
      dsimp only
      split
      · split
        · exact K.callRevise _ _ _ left
        · exact left
      · exact K.trimTest _ left
  · next free => exact removeEntry_granting he free h

theorem leaveTable_granting {e : Entry} (code : OutcomeCode) (byOut toCache : Bool) {s : State} (he : e ∈ s.table)
    (h : s.granting) : (leaveTable e code byOut toCache s).granting := by
  have R := (removed_terms e.bus).report
  have removed := R.counted .close code.code (some (.port e.approach)) _ (R.reports (outcomeArrives_told
    (outcomeRecord e code (tellDeparture e s).now byOut) _) (tellDeparture_removed he h))
  unfold leaveTable
  refine granting_terms.trigger _ ?_
  split
  · exact granting_terms.stays removed
  · exact removed

theorem updateKnown_granting (t : Telegram) {e : Entry} {s : State} (he : e ∈ s.table) (h : s.granting) :
    (updateKnown t e s).granting := by
  refine granting_terms.trigger _ (granting_alike h (fun q _ => ?_) fun q hq => ?_)
  · split
    · next same => rw [Entry.placeAfterUpdate_bus, same]; rfl
    · rfl
  · split
    · next same =>
      rw [h.1.unique he hq same]
      have placed := Entry.placeAfterUpdate_alike (s.updateEvaluation (e.move t s.now))
      exact ⟨placed.granted, placed.commanded⟩
    · exact Entry.alike_of_state rfl

/-! ### The pass -/

theorem sendCommand_granting {c : Slot} {s : State}
    (bound : Bound s.table (memberList (s.planner.grant.map Grant.terms)) c.bus)
    (fits : slotFits (some c.undated) (s.planner.grant.map Grant.terms)) : (sendCommand c s).granting := by
  have placed : (s.onPlanner fun p => { p with slot := some c, tagCounter := c.tag }).granting := ⟨bound, fits⟩
  have queued : (queueMessage (commandMessage c) (s.onPlanner fun p =>
      { p with slot := some c, tagCounter := c.tag })).granting := granting_terms.stays placed
  have sent := granting_terms.report.counted .commandSent (sentIndex c) (some (.port c.approach)) _ queued
  unfold sendCommand
  dsimp only
  split
  · exact granting_terms.stays sent
  · exact sent

/-- A follower is a candidate only beside a grant with room (R77). -/
theorem finding_candidate_grantRoom {s : State} {v : PassView} {e : Entry} {act : Action} {n : Nat}
    (h : s.finding v e = .candidate act n) {g : Grant} (active : s.planner.grant = some g) : g.members.length < 5 := by
  unfold State.finding at h
  rw [active] at h
  split at h
  · cases h
  · split at h
    · cases h
    · unfold State.testFollower at h
      dsimp only at h
      split at h
      · cases h
      · split at h
        · cases h
        · split at h
          · cases h
          · split at h
            · cases h
            · next room => exact Nat.lt_of_not_le room

/-- What the classification of the entries of a pass keeps: the grant and its members, the planner, the buses, and that an
entry it classifies stands outside the exchange. -/
structure Classifying (p : Planner) (entries : List Entry) (s : State) : Prop where
  granting : s.granting
  planner : s.planner = p
  buses : s.table.map Entry.bus = entries.map Entry.bus
  free : ∀ e ∈ entries, e.state.classifiable = true → ∀ q ∈ s.table, q.bus = e.bus → q.state.classifiable = true

namespace Classifying
variable {p : Planner} {entries : List Entry} {s : State} (h : Classifying p entries s)
include h

theorem reported {t : State} (told : t.toldFrom s) : Classifying p entries t where
  granting := granting_terms.report.reports told h.granting
  planner := told.reported.planner.trans h.planner
  buses := by rw [told.reported.table]; exact h.buses
  free := by rw [told.reported.table]; exact h.free

theorem rewrites {e : Entry} (he : e ∈ entries) (classified : e.state.classifiable = true) {f : Entry → Entry}
    (bus : ∀ q, (f q).bus = q.bus) (state : ∀ q, q.state.classifiable = true → (f q).state.classifiable = true) :
    Classifying p entries (updateEntry e.bus f s) where
  granting := by
    refine granting_alike h.granting (fun q _ => ?_) fun q hq => ?_
    · split
      · exact bus q
      · rfl
    · split
      · next same =>
        have open_ := h.free e he classified q hq same
        exact Entry.alike_of_free (EntryState.classifiable_free (state q open_)) (EntryState.classifiable_free open_)
      · exact Entry.alike_of_state rfl
  planner := h.planner
  buses := by
    rw [← h.buses]
    refine updateEntry_buses (fun q => ?_) s.table
    split
    · exact bus q
    · rfl
  free := fun d hd open_ q hq same => by
    obtain ⟨q', hq', rfl⟩ := List.mem_map.1 hq
    by_cases touched : q'.bus = e.bus
    · rw [if_pos touched] at same ⊢
      rw [bus] at same
      exact state q' (h.free d hd open_ q' hq' same)
    · rw [if_neg touched] at same ⊢
      exact h.free d hd open_ q' hq' same

theorem coverOne {e : Entry} (he : e ∈ entries) (ws : List Window) : Classifying p entries (coverOne ws s e) := by
  unfold Machine.coverOne
  split
  · next classified =>
    have written := h.rewrites he classified (f := fun q => if coveredBy ws s.config.general.clearance e then
      { q.place .covered none with classified := true } else { q with classified := true })
      (fun q => by split <;> rfl) (fun q open_ => by split; exacts [rfl, open_])
    dsimp only
    split
    · exact written.reported (countEvent_told _ _ _ _)
    · exact written
  · exact h

theorem testOne {e : Entry} (he : e ∈ entries) (v : PassView) : Classifying p entries (testOne v s e) := by
  unfold Machine.testOne
  split
  · next tested =>
    rw [Bool.and_eq_true] at tested
    have written := h.rewrites he tested.1 (f := fun q => q.place .waiting (some (s.finding v e).reason)) (fun _ => rfl)
      (fun _ _ => rfl)
    dsimp only
    split
    · exact written.reported (countEvent_told _ _ _ _)
    · exact written
  · exact h

/-- With the slot empty, a classified entry becomes COMMANDED, and no other is. -/
theorem commands {e : Entry} (he : e ∈ entries) (classified : e.state.classifiable = true) (empty : s.planner.slot = none)
    (act : Action) (n : Nat) (now : PartTime) :
    Bound (s.table.map fun q => if q.bus = e.bus then q.command act n now else q)
      (memberList (s.planner.grant.map Grant.terms)) (some e.bus) := by
  have bound := h.granting.bound empty
  refine bound.rewrites (fun q _ => ?_) bound.distinct bound.five bound.present (fun q hq => ?_) fun q hq state => ?_
  · split <;> rfl
  · rw [← bound.granted q hq]
    split
    · next same =>
      have free := EntryState.classifiable_free (h.free e he classified q hq same)
      exact ⟨nofun, fun granted => absurd granted free.1⟩
    · rfl
  · split at state
    · next same => rw [same]
    · next other => cases bound.commanded q hq state

theorem handOver {k : Candidate} (hk : k.entry ∈ entries) (classified : k.entry.state.classifiable = true)
    (room : ∀ g, s.planner.grant = some g → g.members.length < 5) (empty : s.planner.slot = none) :
    (handOver k s).granting := by
  have K := granting_terms
  have commanded := h.commands hk classified empty k.action k.amount s.now
  have here : k.entry.bus ∈ (s.table.map fun q => if q.bus = k.entry.bus then q.command k.action k.amount s.now else q).map
      Entry.bus := by
    rw [updateEntry_buses (fun q => by split <;> rfl), h.buses]
    exact List.mem_map_of_mem hk
  have strange : k.entry.bus ∉ memberList (s.planner.grant.map Grant.terms) := fun member => by
    obtain ⟨q, hq, same⟩ := List.mem_map.1 (h.granting.1.present _ member)
    have granted := (h.granting.1.granted q hq).2 (same ▸ member)
    exact (EntryState.classifiable_free (h.free _ hk classified q hq same)).1 granted
  have owns : ∀ y, some k.entry.bus = some y → y = k.entry.bus := fun y same => (Option.some.inj same).symm
  unfold Machine.handOver
  dsimp only
  split
  · refine sendCommand_granting commanded fun c held => ?_
    cases held
    refine ⟨nofun, fun _ lead => ?_, fun _ _ t active _ => ?_⟩
    · cases active : s.planner.grant with
      | none => simp [State.onLedger, active]
      | some g => simp [Slot.undated, active] at lead
    · obtain ⟨g, standing, rfl⟩ := Option.map_eq_some_iff.1 active
      exact room g standing
  · split
    · next lead =>
      have free : s.planner.grant = none := by
        cases active : s.planner.grant with
        | none => rfl
        | some g => simp [active] at lead
      rw [free] at commanded
      unfold shadowLead
      dsimp only
      refine K.closeIfVain _ (granting_of_bound ?_ ?_)
      · simp only [updateEntry_planner, State.onPlanner_planner, takeToken_slot]
        exact empty
      · simp only [updateEntry_table, State.onPlanner_table, takeToken_table]
        exact commanded.joins (l := []) (fun _ => rfl) owns List.not_mem_nil (by simp) here fun _ _ _ => rfl
    · next follows =>
      obtain ⟨g, active⟩ : ∃ g, s.planner.grant = some g := by
        cases active : s.planner.grant with
        | none => simp [active] at follows
        | some g => exact ⟨g, rfl⟩
      rw [active] at commanded strange
      refine K.raiseTotal _ _ (granting_of_bound empty ?_)
      show Bound _ (memberList ((s.planner.grant.map fun q => { q with members := q.members ++ [k.entry.bus] }).map
        Grant.terms)) none
      rw [active]
      exact commanded.joins (fun _ => rfl) owns strange (room g active) here fun _ _ _ => rfl

end Classifying

theorem sendRevise_granting (r : Revise) {s : State} (empty : s.planner.slot = none) (h : s.granting) :
    (sendRevise r s).granting := by
  refine sendCommand_granting (h.bound empty) fun c held => ?_
  cases held
  exact ⟨fun _ => rfl, fun other => absurd rfl other, fun other => absurd rfl other⟩

theorem classifyAll_granting (a : Anchor) (p : Plan) {s : State} (h : s.granting) : (classifyAll a p s).granting := by
  have start : Classifying s.planner s.table s :=
    ⟨h, rfl, rfl, fun e he open_ q hq same => h.1.unique he hq same ▸ open_⟩
  unfold classifyAll
  dsimp only
  generalize s.config.project p a s.now (adjustmentOf s.planner.grant) = ws
  generalize hv : PassView.mk a p ws _ = v
  have covered : Classifying s.planner s.table (s.table.foldl (coverOne ws) s) :=
    List.foldlRecOn s.table (coverOne ws) start fun u hu e he => hu.coverOne he ws
  have tested : Classifying s.planner s.table (s.table.foldl (testOne v) (s.table.foldl (coverOne ws) s)) :=
    List.foldlRecOn s.table (testOne v) covered fun u hu e he => hu.testOne he v
  unfold chooseAndSend
  split
  · exact tested.granting
  · next empty =>
    split
    · exact sendRevise_granting _ empty tested.granting
    · split
      · next k hk =>
        obtain ⟨he, classified, -, found⟩ := mem_candidates.1 (chooseCandidate_mem hk)
        refine tested.handOver he classified (fun g active => ?_) empty
        rw [tested.planner] at active
        exact finding_candidate_grantRoom found active
      · exact tested.granting

theorem passBody_granting {s : State} (h : s.granting) : (passBody s).granting := by
  unfold passBody
  split
  · refine classifyAll_granting _ _ (granting_alike h (fun e _ => ?_) fun e _ => ?_)
    · split
      · rfl
      · exact Entry.placeAfterPass_bus _
    · split
      · exact Entry.alike_of_state rfl
      · have placed := Entry.placeAfterPass_alike (s.keepEvaluation e)
        exact ⟨placed.granted, placed.commanded⟩
  · refine granting_alike h (fun e _ => ?_) fun e _ => ?_
    · split <;> rfl
    · split
      · next open_ => exact Entry.alike_of_free ⟨nofun, nofun⟩ (EntryState.classifiable_free open_)
      · exact Entry.alike_of_state rfl

theorem planningPass_granting {s : State} (h : s.granting) : (planningPass s).granting := by
  unfold planningPass
  split
  · exact granting_terms.stays (passBody_granting (s := beginPass s) (granting_terms.stays h))
  · exact h

/-! ### All commands -/

theorem granting_kept : Kept State.granting where
  toExchangeKept := granting_exchange
  uncache := granting_terms.quiet.uncache
  push := granting_terms.quiet.push
  port := granting_terms.quiet.port
  fed := granting_terms.quiet.fed
  hold := granting_terms.quiet.hold
  leave := fun _ code byOut toCache _ he h => leaveTable_granting code byOut toCache he h
  update := fun t _ _ he h => updateKnown_granting t he h
  cache := fun _ _ _ _ h => granting_terms.stays h
  serve := fun _ h => granting_terms.stays h
  review := fun _ _ _ h => granting_terms.stays h
  pass := fun _ h => planningPass_granting h
  status := fun _ t s _ h => granting_terms.status t s h
  stale := granting_terms.stale

/-- With an empty table and no work in the exchange there is nothing to agree. -/
theorem granting_of_empty {s : State} (table : s.table = []) (grant : s.planner.grant = none)
    (slot : s.planner.slot = none) : s.granting := by
  refine granting_of_bound slot ?_
  rw [table, grant]
  exact bound_nil none

theorem dropShadow_granting {s : State} (h : s.granting) : (dropShadow s).granting := by
  unfold dropShadow
  split
  · next g active =>
    split
    · obtain ⟨bound, fits⟩ := h
      rw [active] at bound fits
      refine ⟨bound.closes (fun e _ => ?_) (fun e _ member => ?_) (fun e _ outside => ?_), slotFits_fewer fits nofun⟩
      · split <;> rfl
      · rw [if_pos (show g.members.contains e.bus = true from List.contains_iff_mem.2 member)]
        exact ⟨nofun, nofun⟩
      · rw [if_neg fun member : g.members.contains e.bus = true => outside (List.contains_iff_mem.1 member)]
    · exact h
  · exact h

theorem changeMode_granting (target : Mode) {s : State} (h : s.granting) : (changeMode target s).granting := by
  unfold changeMode
  split
  · have rests := enterStandby_resting s
    exact granting_of_empty rests.table rests.grant rests.slot
  · exact granting_terms.stays h
  · exact granting_terms.stays (dropShadow_granting h)

theorem admitBus_granting {t : Telegram} {s : State} (unknown : ∀ e ∈ s.table, e.bus ≠ t.bus) (h : s.granting) :
    (admitBus t s).granting := by
  have outside : ∀ e : Entry, e.state = .new → e.placeAfterUpdate.state ≠ .granted ∧ e.placeAfterUpdate.state ≠ .commanded := by
    intro e new
    have placed := e.placeAfterUpdate_alike
    exact ⟨fun state => by simpa [new] using placed.granted.1 state,
      fun state => by simpa [new] using placed.commanded.1 state⟩
  refine granting_terms.trigger _ (granting_terms.report.counted _ _ _ _ ⟨h.1.admits ?_ (outside _ rfl), h.2⟩)
  rw [newcomer_bus]
  exact unknown

theorem admitAny_granting (t : Telegram) {s : State} (unknown : ∀ e ∈ s.table, e.bus ≠ t.bus) (h : s.granting) :
    (admitAny t s).granting := by
  unfold admitAny
  split
  · exact admitBus_granting unknown h
  · have evaluated : State.granting { s with table := s.table.map s.victimEvaluation } :=
      granting_alike h (fun e _ => (keepsEntry_victimEvaluation s).bus e) fun e _ => by
        unfold State.victimEvaluation
        split <;> exact Entry.alike_of_state rfl
    unfold admitFull
    dsimp only
    split
    · next e v victim =>
      split
      · refine admitBus_granting (fun q hq => ?_) (granting_terms.report.counted _ _ _ _
          (leaveTable_granting _ _ _ (chooseVictim_mem victim) evaluated))
        rw [countEvent_table] at hq
        have left := List.mem_map_of_mem (f := Entry.bus) hq
        rw [leaveTable_buses, updateEntry_buses (keepsEntry_victimEvaluation s).bus] at left
        obtain ⟨d, hd, same⟩ := List.mem_map.1 (List.mem_filter.1 left).1
        exact same ▸ unknown d hd
      · exact granting_terms.report.counted _ _ _ _ evaluated
    · exact granting_terms.report.counted _ _ _ _ evaluated

theorem granting_all : AllKept State.granting where
  toKept := granting_kept
  line :=
    { toReportKept := granting_terms.report
      asks := fun _ _ _ h => granting_terms.stays h
      taken := fun _ h => granting_terms.stays h
      reply := fun _ _ _ h => granting_terms.stays h
      restarts := fun _ _ h => granting_terms.stays h
      sent := fun _ _ _ _ h => granting_terms.stays h }
  reset := granting_terms.report.reset (fun _ _ => granting_of_empty rfl rfl rfl) fun _ => granting_of_empty rfl rfl rfl
  power := fun straps s _ => granting_terms.report.power (fun _ => granting_of_empty rfl rfl rfl) straps s
  write := fun _ r s _ h => foldl_kept granting_terms.sectionEffect r.items _ (granting_terms.stays h)
  change := fun target _ _ h => changeMode_granting target h
  admission := fun t _ unknown _ h => admitAny_granting t unknown h

/-- Settles O59: an entry joins the grant, leaves it or is commanded in one operation with the member list and the slot. -/
theorem everyStepKeepsTheGrant : Obligations.EveryStepKeepsTheGrant := by
  unfold Obligations.EveryStepKeepsTheGrant
  intro s t next ⟨_, buses, _⟩ sound
  have before : s.granting := s.granting_iff.2 ⟨buses, sound⟩
  have after := (granting_all.steps (fun _ _ _ h => granting_terms.stays h) fun _ h => granting_terms.stays h).step next before
  exact (t.granting_iff.1 after).2

end Sys2Proof.Machine
end

section
/-! SUPPORT. The entries that stay keep their order, a newcomer takes the tail with the next admission number, and only a
reset puts the counter back (R7, R25). -/

namespace Sys2Proof.Machine

/-- The table holds only entries of the buses `B`, in that order, and the admission counter stands at `n`. -/
def State.orderedAs (B : List Nat) (n : BitVec 16) (s : State) : Prop :=
  (s.table.map Entry.bus).Sublist B ∧ s.admissions = n

/-- Behind such a table stands a newcomer with the next admission number. -/
def State.joinedTo (B : List Nat) (n : BitVec 16) (s : State) : Prop :=
  ∃ init e, s.table = init ++ [e] ∧ (init.map Entry.bus).Sublist B ∧ e.admission = n + 1 ∧ s.admissions = n + 1

/-- Nothing but an admission, a reset or the removal of an entry touches the order. -/
theorem ordered_free (B : List Nat) (n : BitVec 16) : FreeKept (State.orderedAs B n) where
  reports := fun r ⟨order, counter⟩ => ⟨by rw [r.table]; exact order, r.admissions.trans counter⟩
  allowance := fun _ _ _ _ h => h
  rewritten := fun f s bus _ ⟨order, counter⟩ => ⟨by rw [updateEntry_buses bus]; exact order, counter⟩
  timer := fun _ _ h => h
  marks := fun _ _ _ h => h
  model := fun _ _ h => h
  remove := fun _ _ ⟨order, counter⟩ => ⟨(List.filter_sublist.map _).trans order, counter⟩
  cache := fun _ _ _ _ h => h
  uncache := fun _ _ h => h
  push := fun _ _ _ _ _ h => h
  serve := fun _ h => h
  flush := fun _ h => h
  port := fun _ _ _ _ h => h
  fed := fun _ h => h
  hold := fun _ h => h

theorem Entry.placeByEstimate_admission (e : Entry) : e.placeByEstimate.admission = e.admission := by
  unfold Entry.placeByEstimate
  repeat' split
  all_goals rfl

theorem Entry.placeAfterUpdate_admission (e : Entry) : e.placeAfterUpdate.admission = e.admission := by
  unfold Entry.placeAfterUpdate
  repeat' split
  all_goals simp [Entry.placeByEstimate_admission]

theorem admitBus_joins {B : List Nat} {n : BitVec 16} (t : Telegram) {s : State} (h : s.orderedAs B n) :
    (admitBus t s).joinedTo B n := by
  obtain ⟨order, counter⟩ := h
  refine ⟨s.table, (s.updateEvaluation (s.newEntry t)).placeAfterUpdate, by simp [admitBus], order, ?_, ?_⟩
  · rw [Entry.placeAfterUpdate_admission, ← counter]
    rfl
  · simp [admitBus, counter]

theorem admitAny_joins {B : List Nat} {n : BitVec 16} (t : Telegram) {s : State} (h : s.orderedAs B n) :
    (admitAny t s).orderedAs B n ∨ (admitAny t s).joinedTo B n := by
  unfold admitAny
  split
  · exact .inr (admitBus_joins t h)
  · exact (ordered_free B n).parts.admitFull (Q := fun u => u.orderedAs B n ∨ u.joinedTo B n) (fun _ => .inl)
      (fun _ _ _ _ _ _ left => .inr (admitBus_joins t left)) h

/-- A reset leaves an empty table and the counter at 0 (R25). -/
theorem reset_empties (s : State) (c : Configuration) (mask : PerLatch Bool) (counters : List Counter) (d : Nat) :
    (latchNotice .restarted d (s.cleared c mask counters)).table = [] ∧
      (latchNotice .restarted d (s.cleared c mask counters)).admissions = 0 := by
  rw [latchNotice_table, latchNotice_admissions]
  exact ⟨rfl, rfl⟩

theorem takeReset_empties (r : Selector) (s : State) : (takeReset r s).table = [] ∧ (takeReset r s).admissions = 0 := by
  cases r
  · exact reset_empties s _ _ _ 1
  · exact reset_empties s _ _ _ 2

/-- A final REPLY heads the outbound queue, with the restart it answers pending (R145). -/
def State.restarts (s : State) : Prop := s.link.restart.isSome = true ∧ ∃ m, s.link.outbound.head? = some m ∧ m.final = true

theorem finalReplySent_resets (r : Selector) (s : State) :
    finalReplySent r s = s ∨ (s.restarts ∧ finalReplySent r s = takeReset r s) := by
  unfold finalReplySent
  split
  · next m head =>
    split
    · next due => exact .inr ⟨⟨by rw [due.2]; rfl, m, head, due.1⟩, rfl⟩
    · exact .inl rfl
  · exact .inl rfl

theorem frameSent_resets (s : State) :
    (frameSent s).reportedFrom s ∨ (s.restarts ∧ ∃ r, frameSent s = takeReset r s) := by
  unfold frameSent
  split
  · exact .inl (.refl s)
  · next m rest queued =>
    have freed : (s.onLink fun k => { k with outbound := rest }).reportedFrom s := State.onLink_reported id
    dsimp only
    split
    · split
      · next final =>
        split
        · next r pending =>
          exact .inr ⟨⟨by rw [pending]; rfl, m, by rw [queued]; rfl, final⟩, r, rfl⟩
        · exact .inl freed
      · exact .inl freed
    · exact .inl ((State.onLink_reported id).trans freed)
    · exact .inl freed

/-- Settles O54: entries are only rewritten in place or filtered, an admission appends one, and the resets alone write the
counter otherwise. -/
theorem everyCommandKeepsAdmissionOrder : Obligations.EveryCommandKeepsAdmissionOrder := by
  unfold Obligations.EveryCommandKeepsAdmissionOrder
  intro c s t next
  rw [exec_eq_ran] at next
  cases next
  have ordered : s.orderedAs (s.table.map Entry.bus) s.admissions := ⟨List.Sublist.refl _, rfl⟩
  have F := ordered_free (s.table.map Entry.bus) s.admissions
  unfold State.ran
  split
  · exact .inl ordered
  · by_cases resets : Instr.resets c = true
    · cases c <;> simp only [Instr.resets, Bool.false_eq_true] at resets
      case powerOnReset => exact .inr (.inr ⟨.inl ⟨_, rfl⟩, reset_empties _ _ _ _ 0⟩)
      case restartTakesEffect =>
        rw [effect]
        rcases finalReplySent_resets .restart s with stays | ⟨restarts, takes⟩
        · rw [stays]; exact .inl ordered
        · rw [takes]; exact .inr (.inr ⟨.inr ⟨.inl rfl, restarts⟩, takeReset_empties _ s⟩)
      case factoryTakesEffect =>
        rw [effect]
        rcases finalReplySent_resets .factory s with stays | ⟨restarts, takes⟩
        · rw [stays]; exact .inl ordered
        · rw [takes]; exact .inr (.inr ⟨.inr ⟨.inr (.inl rfl), restarts⟩, takeReset_empties _ s⟩)
      case outboundFrameSent =>
        rw [effect]
        rcases frameSent_resets s with stays | ⟨restarts, r, takes⟩
        · exact .inl (F.reports stays ordered)
        · rw [takes]; exact .inr (.inr ⟨.inr ⟨.inr (.inr rfl), restarts⟩, takeReset_empties _ s⟩)
    · by_cases admits : c = .checkIn ∨ c = .position
      · have joins : ∀ k, (takeTelegram k s).orderedAs (s.table.map Entry.bus) s.admissions ∨
            (takeTelegram k s).joinedTo (s.table.map Entry.bus) s.admissions := fun k =>
          F.kept.takeTelegram_admits_leads (Q := fun u => u.orderedAs (s.table.map Entry.bus) s.admissions ∨
            u.joinedTo (s.table.map Entry.bus) s.admissions) (fun _ => .inl) (fun t u _ _ h => admitAny_joins t h) k s ordered
        have taken : (effect c s).orderedAs (s.table.map Entry.bus) s.admissions ∨
            (effect c s).joinedTo (s.table.map Entry.bus) s.admissions := by
          rcases admits with rfl | rfl
          · exact joins .checkIn
          · exact joins .position
        exact taken.imp id fun joined => .inl ⟨admits, joined⟩
      · exact .inl (F.effect_stays (fun _ _ h => h) (fun _ _ h => h) (fun _ _ _ h => h) (fun other => absurd other admits)
          (by simpa using resets) s ordered)

end Sys2Proof.Machine
end

section
/-! SUPPORT. The machine as a whole: every command answers, the idle step, power-on reset, RSTn low, and the commands of
one short effect. -/

namespace Sys2Proof.Machine

/-! ### Steps -/

/-- Settles O1: it is the definition of a step. -/
theorem stepRunsFrontCommand : Obligations.StepRunsFrontCommand := by
  unfold Obligations.StepRunsFrontCommand
  intros
  rfl

theorem pending_free (l : List Instr) : FreeKept fun t => t.pending = l where
  reports := fun r h => r.pending.trans h
  allowance := fun _ _ _ _ h => h
  rewritten := fun _ _ _ _ h => h
  timer := fun _ _ h => h
  marks := fun _ _ _ h => h
  model := fun _ _ h => h
  remove := fun _ _ h => h
  cache := fun _ _ _ _ h => h
  uncache := fun _ _ h => h
  push := fun _ _ _ _ _ h => h
  serve := fun _ h => h
  flush := fun _ h => h
  port := fun _ _ _ _ h => h
  fed := fun _ h => h
  hold := fun _ h => h

theorem takeReset_pending (r : Selector) (s : State) : (takeReset r s).pending = s.pending := by
  cases r
  · exact latchNotice_pending _ _ _
  · exact latchNotice_pending _ _ _

/-- No command touches the commands that wait. -/
theorem effect_pending (c : Instr) (s : State) : (effect c s).pending = s.pending := by
  have K := pending_free s.pending
  by_cases resets : Instr.resets c = true
  · cases c <;> simp only [Instr.resets, Bool.false_eq_true] at resets
    case powerOnReset straps => exact latchNotice_pending _ _ _
    case restartTakesEffect =>
      rcases finalReplySent_cases .restart s with stays | takes
      · exact congrArg State.pending stays
      · exact (congrArg State.pending takes).trans (takeReset_pending _ s)
    case factoryTakesEffect =>
      rcases finalReplySent_cases .factory s with stays | takes
      · exact congrArg State.pending stays
      · exact (congrArg State.pending takes).trans (takeReset_pending _ s)
    case outboundFrameSent =>
      rcases frameSent_cases s with stays | ⟨r, takes⟩
      · exact stays.pending
      · exact (congrArg State.pending takes).trans (takeReset_pending r s)
  · exact K.effect_stays (fun _ _ h => h) (fun _ _ h => h) (fun _ _ _ h => h) (fun _ t u h => K.parts.admitAny (fun _ _ h => h) t u h)
      (by simpa using resets) s rfl

/-- Settles O2: every command is a function of the state that leaves the queue, and a step is one or the idle step. -/
theorem everyCommandAnswers : Obligations.EveryCommandAnswers := by
  unfold Obligations.EveryCommandAnswers
  refine ⟨fun c s => ⟨s.ran c, exec_eq_ran c s, ?_⟩, fun s => ⟨_, step_eq s⟩⟩
  unfold State.ran
  split
  · rfl
  · exact effect_pending c s

/-! ### The idle step -/

theorem insertAt_perm (n : Nat) (i : Instr) (l : List Instr) : (insertAt n i l).Perm (i :: l) := by
  have split : (l.take n ++ l.drop n).Perm l := by rw [List.take_append_drop]
  exact List.perm_middle.trans (split.cons i)

/-- Free choices bring commands into some order, and neither lose nor add one. -/
theorem arrange_perm (k : Nat) : ∀ l : List Instr, (arrange k l).1.Perm l
  | [] => .refl _
  | [_] => .refl _
  | i :: j :: l => (insertAt_perm _ i _).trans ((arrange_perm k (j :: l)).cons i)

/-- Settles O3, by the cases of the idle step. -/
theorem idleStepTicksOrRaises : Obligations.IdleStepTicksOrRaises := by
  unfold Obligations.IdleStepTicksOrRaises
  intro s waiting
  have idles : step s = .next (idle s) := by rw [step_eq, waiting]
  refine ⟨fun held => ?_, fun running none_due => ?_, fun running due => ?_⟩
  · rw [idles, idle, if_pos held]
  · rw [idles, idle, if_neg (by simp [running]), none_due]
    rfl
  · refine ⟨(arrange s.choices (dueNow s)).1, (arrange s.choices (dueNow s)).2, arrange_perm _ _, ?_⟩
    rw [idles, idle, if_neg (by simp [running])]
    split
    · next none_due => exact absurd none_due due
    · rfl

/-! ### Resets -/

theorem offerNotice_few {l : Latch} {d : Nat} {s : State} (few : s.link.outbound.length < 10) :
    offerNotice l d s = queueMessage (noticeOf l d s) s := if_pos few

theorem noticeOf_restarted (d : Nat) {s : State} (start : s.now = 0) :
    noticeOf .restarted d s = restartedNotice (octet d) := by
  rw [noticeOf, start]
  rfl

/-- What a reset latches and queues, once every block is cleared (R168, R138). -/
theorem latchNotice_cleared (s : State) (c : Configuration) (mask : PerLatch Bool) (counters : List Counter) (d : Nat) :
    latchNotice .restarted d (s.cleared c mask counters) =
      { s.cleared c mask counters with
        notices := { mask := mask, latches := { PerLatch.all none with restarted := some { detail := d, time := 0 } } },
        link := { Link.atReset with outbound := if mask.restarted = true then [restartedNotice (octet d)] else [] } } := by
  have clear : (s.cleared c mask counters).notices.latches.get .restarted = none := rfl
  have opened : (s.cleared c mask counters).notices.mask.get .restarted = mask.restarted := rfl
  unfold latchNotice
  rw [clear, opened]
  cases mask.restarted
  · rfl
  · dsimp only
    rw [if_pos rfl, if_pos rfl, offerNotice_few, noticeOf_restarted]
    · rfl
    · rfl
    · exact Nat.zero_lt_succ 9

theorem powerOn_eq (straps : BitVec 2) (s : State) :
    powerOn straps s = { State.reset with pending := s.pending, rate := straps, choices := s.choices } :=
  latchNotice_cleared { s with rate := straps } .factory maskFactory (List.replicate 8 Counter.blank) 0

/-- Settles O4: clearing every block and latching RESTARTED is the reset state. -/
theorem powerOnResetsEveryBlock : Obligations.PowerOnResetsEveryBlock := by
  unfold Obligations.PowerOnResetsEveryBlock
  exact fun straps s => congrArg Host.Outcome.next (powerOn_eq straps s)

/-- Settles O5: the outputs are functions of `held`, and every other command waits for the rise of RSTn. -/
theorem rstnLowHoldsThePart : Obligations.RstnLowHoldsThePart := by
  unfold Obligations.RstnLowHoldsThePart
  refine fun s => ⟨rfl, fun t next => ?_⟩
  cases next
  refine ⟨rfl, rfl, fun _ => rfl, fun c other => ?_⟩
  by_cases always : Instr.always c = true
  · cases c <;> simp only [Instr.always, Bool.false_eq_true] at always
    case powerOnReset straps => exact absurd rfl (other straps)
    case rstnLow => rfl
  · rw [exec_eq_ran, State.ran_held rfl (by simpa using always)]

/-- Settles O6: the values are read off, and each sense of soundness is met by every cleared state. -/
theorem resetIsSound : Obligations.ResetIsSound := by
  unfold Obligations.ResetIsSound
  have none_held : ∀ {α : Type} {x : α}, (none : Option α) ≠ some x := nofun
  refine ⟨by decide, by decide, fun _ he => absurd he List.not_mem_nil, by decide, fun _ => by decide, by decide, by decide,
    by decide, by decide, ?_, by decide, by decide, ?_⟩
  · exact ⟨fun _ h => absurd h none_held, fun _ h => absurd h List.not_mem_nil, fun _ h => absurd h List.not_mem_nil,
      fun _ h => absurd h none_held, fun _ h => absurd h none_held, fun _ _ h => absurd h none_held⟩
  · exact ⟨by decide, by decide, by decide, by decide, fun _ h => absurd h none_held, fun _ h => absurd h none_held,
      fun _ h => absurd h none_held, fun _ h => absurd h none_held⟩

/-! ### Instants (section 1.6 of the scope) -/

theorem reached_of_lt {now due : PartTime} (near : (now - due).toNat < 2147483648) : reached now due = true :=
  decide_eq_true near

theorem not_reached_of_le {now due : PartTime} (far : 2147483648 ≤ (now - due).toNat) : reached now due = false :=
  decide_eq_false (Nat.not_lt.2 far)

/-! ### Commands of one short effect -/

/-- Outside a running pass a trigger makes a pass due (R66). -/
theorem triggerPass_idle {s : State} (awake : s.mode ≠ .standby) (idle : s.planner.passRunning = false) :
    triggerPass s = s.onPlanner fun p => { p with passDue := true } := by
  rw [triggerPass, if_neg awake, idle]
  rfl

/-- Settles O9: the row of a frame that fails its check takes it and counts it. -/
theorem badFrameIsTallied : Obligations.BadFrameIsTallied := by
  unfold Obligations.BadFrameIsTallied
  intro f rest s running heads fails
  have bad : framePasses f = false := by
    unfold framePasses
    simp [fails]
  rw [exec_running running]
  simp only [effect, discardBadFrame, takeReceived, heads]
  simp [bad, State.onLink, tally16]

/-- Settles O12, by the kind of the message that was sent. -/
theorem outboundFrameSentFreesPlace : Obligations.OutboundFrameSentFreesPlace := by
  unfold Obligations.OutboundFrameSentFreesPlace
  intro m rest s running queued plain
  rw [exec_running running]
  simp only [effect, frameSent, queued]
  cases kind : m.kind <;> simp [plain, State.onLink, answerDue, after]

/-- Settles O13, by whether the report is the slot's. -/
theorem transmissionSetsAnswerDue : Obligations.TransmissionSetsAnswerDue := by
  unfold Obligations.TransmissionSetsAnswerDue
  intro r rest s running reports
  rw [exec_running running]
  simp only [effect, takeReport, reports]
  refine ⟨fun c held names undated => ?_, fun other => ?_⟩
  · simp [held, names, undated, State.onPlanner, State.onLink]
  · cases held : s.planner.slot with
    | none => rfl
    | some c => simp [other c held, State.onLink]

/-- Settles O19, by the two instants reached. -/
theorem reviewAndForgetTimers : Obligations.ReviewAndForgetTimers := by
  unfold Obligations.ReviewAndForgetTimers
  intro s running
  rw [exec_running running, exec_running running]
  refine ⟨fun d review due awake idle => ?_, fun m lost due => ?_⟩
  · have reaches : s.isDue s.planner.review = true := by rw [review]; exact reached_of_lt due
    rw [effect, reviewExpires, if_pos reaches, triggerPass_idle]
    · rfl
    · exact awake
    · exact idle
  · simp only [effect, forgetLost, lost]
    rw [if_pos (reached_of_lt due)]
    rfl

/-! ### RESTART and FACTORY (R145) -/

theorem askRestart_run {s : State} {m : AskedMessage} {rest : List AskedMessage} (takes : s.takes m rest) {r : Selector}
    (wants : wantsSelector r m = true) :
    askRestart r s =
      queueMessage (restartReply m (withLength 1 restartOwner m (s.onLink fun k => { k with asked := rest })).2)
        (withLength 1 restartOwner m (s.onLink fun k => { k with asked := rest })).1 := by
  obtain ⟨-, free, asked⟩ := takes
  simp [askRestart, State.nextAsked, free, asked, wants, State.onLink]

/-- Settles O45, by the selector. -/
theorem restartIsMadePending : Obligations.RestartIsMadePending := by
  unfold Obligations.RestartIsMadePending
  intro m rest sel s takes kind body
  have length : m.body.length = 1 := by rw [body]; rfl
  rw [exec_running takes.1, exec_running takes.1, effect, effect]
  refine ⟨fun zero => ?_, fun one => ?_, fun other => ?_⟩
  · rw [askRestart_run takes (by rw [wantsSelector, kind, body, zero]; rfl), withLength, if_pos length, body, zero]
    simp [restartOwner, selectorOf, bodyOctet, queueMessage, State.onLink, restartReply, replyMessage, kind]
    exact ⟨⟨rfl, rfl⟩, rfl⟩
  · rw [askRestart_run takes (by rw [wantsSelector, kind, body, one]; rfl), withLength, if_pos length, body, one]
    simp [restartOwner, selectorOf, bodyOctet, queueMessage, State.onLink, restartReply, replyMessage, kind]
    exact ⟨⟨rfl, rfl⟩, rfl⟩
  · have nameless : selectorOf (bodyOctet m.body 0) = none := by
      rw [body]
      show (if sel = 0 then some Selector.restart else if sel = 1 then some .factory else none) = none
      rw [if_neg (by rintro rfl; simp at other), if_neg (by rintro rfl; simp at other)]
    have wants : ∀ r, wantsSelector r m = true := fun r => by simp [wantsSelector, kind, nameless]
    rw [askRestart_run takes (wants _), askRestart_run takes (wants _), withLength, if_pos length, restartOwner, nameless]
    exact ⟨rfl, rfl⟩

/-- Settles O46: either row runs the reset of its selector, whose whole state is written out. -/
theorem resetTakesEffect : Obligations.ResetTakesEffect := by
  unfold Obligations.ResetTakesEffect
  intro m rest s running queued final
  have head : s.link.outbound.head? = some m := by rw [queued]; rfl
  refine ⟨fun pending c row => ?_, fun pending c row => ?_⟩
  · have takes : effect c s = takeReset .restart s := by
      rcases row with rfl | ⟨rfl, reply⟩
      · simp [effect, finalReplySent, head, final, pending]
      · simp [effect, frameSent, queued, reply, final, pending]
    rw [exec_running running, takes]
    exact congrArg Host.Outcome.next (latchNotice_cleared s s.config s.notices.mask s.countersKept 1)
  · have takes : effect c s = takeReset .factory s := by
      rcases row with rfl | ⟨rfl, reply⟩
      · simp [effect, finalReplySent, head, final, pending]
      · simp [effect, frameSent, queued, reply, final, pending]
    rw [exec_running running, takes]
    exact congrArg Host.Outcome.next (latchNotice_cleared s .factory maskFactory (List.replicate 8 Counter.blank) 2)

end Sys2Proof.Machine
end

section
/-! SUPPORT. The cabinet line: framed messages, messages that are refused before their owners act, told messages that are
discarded. -/

namespace Sys2Proof.Machine

/-! ### Octets from the line (R133, R134) -/

theorem effect_octetReceived (o : Octet) (s : State) : effect (.octetReceived o) s = s.onLink (takeOctet o) := by
  show s.onLink (takeCharacter (lineForm o)) = _
  exact congrArg (fun k => { s with link := k }) (takeCharacter_lineForm o s.link)

/-- Octets at the front of the queue are taken one by one. -/
theorem run_octetReceived : ∀ (os : List Octet) (s : State), s.held = false →
    Host.Core.run Sys2Proof.core os.length ({ s with pending := os.map Instr.octetReceived ++ s.pending } : State) =
      .next (s.onLink fun k => os.foldl (fun k o => takeOctet o k) k)
  | [], _, _ => rfl
  | o :: os, s, running => by
    have front : step { s with pending := (o :: os).map Instr.octetReceived ++ s.pending } =
        .next { s.onLink (takeOctet o) with pending := os.map Instr.octetReceived ++ s.pending } := by
      rw [step_eq]
      show Host.Outcome.next (State.ran { s with pending := os.map Instr.octetReceived ++ s.pending } _) = _
      rw [State.ran_running (s := { s with pending := os.map Instr.octetReceived ++ s.pending }) running,
        effect_octetReceived]
      rfl
    show (match step { s with pending := (o :: os).map Instr.octetReceived ++ s.pending } with
      | .next t => Host.Core.run Sys2Proof.core os.length t
      | .fault r => .fault r
      | .refused r => .refused r) = _
    rw [front]
    exact run_octetReceived os (s.onLink (takeOctet o)) running

/-- A receiving framer takes octets until the frame is as long as its length octet says, and hands it over (R134). -/
theorem takeOctet_collects {len : Octet} : ∀ (os got : List Octet) (k : Link), k.framer = .receiving (len :: got) →
    got.length + os.length = len.toNat + 2 → os ≠ [] →
    os.foldl (fun k o => takeOctet o k) k =
      { k with framer := .idle, received := k.received ++ [len :: got ++ os] }
  | [o], got, k, receiving, full, _ => by
    have last : got.length + 1 = len.toNat + 2 := full
    simp only [List.foldl_cons, List.foldl_nil, takeOctet, receiving, if_pos last]
  | o :: p :: os, got, k, receiving, full, _ => by
    have more : got.length + 1 ≠ len.toNat + 2 := by simp at full; omega
    have taken : takeOctet o k = { k with framer := .receiving (len :: (got ++ [o])) } := by
      simp only [takeOctet, receiving, if_neg more]
      rfl
    rw [List.foldl_cons, taken, takeOctet_collects (p :: os) (got ++ [o]) _ rfl (by simp at full ⊢; omega) (by simp)]
    simp

/-- What a frame's check covers: length, kind, tag and body (R133). -/
def OutMessage.covered (m : OutMessage) : List Octet := octet (m.body.length + 2) :: m.kind.code :: m.tag :: m.body

/-- The two octets of a frame's check (R133). -/
def OutMessage.check (m : OutMessage) : List Octet := octets2 (crc16 m.covered).toNat

theorem frameOctets_tail (m : OutMessage) : (frameOctets m).tail = m.covered ++ m.check := rfl

theorem takeOctet_frame {m : OutMessage} (short : m.body.length ≤ 248) {k : Link} (idle : k.framer = .idle) :
    (frameOctets m).foldl (fun k o => takeOctet o k) k = { k with received := k.received ++ [(frameOctets m).tail] } := by
  have length : (octet (m.body.length + 2)).toNat = m.body.length + 2 := by
    rw [octet, BitVec.toNat_ofNat]
    omega
  have start : takeOctet 0xA5 k = { k with framer := .receiving [] } := by simp [takeOctet, idle]
  have first : takeOctet (octet (m.body.length + 2)) { k with framer := .receiving [] } =
      { k with framer := .receiving [octet (m.body.length + 2)] } := by
    simp only [takeOctet, length]
    rw [if_neg (by omega)]
  show ((octet (m.body.length + 2)) :: (m.kind.code :: m.tag :: m.body ++ m.check)).foldl _ (takeOctet 0xA5 k) = _
  rw [start, List.foldl_cons, first, takeOctet_collects _ [] _ rfl (by rw [length]; simp [OutMessage.check, octets2]) (by simp)]
  cases k
  cases idle
  rfl

/-- Settles O8: the octets run through the framer to the frame's end, and the check is the one it was framed with. -/
theorem framedMessageIsCollected : Obligations.FramedMessageIsCollected := by
  unfold Obligations.FramedMessageIsCollected
  intro m s short running idle
  have tail : (frameOctets m).tail.take ((frameOctets m).tail.length - 2) = m.covered ∧
      (frameOctets m).tail.drop ((frameOctets m).tail.length - 2) = m.check := by
    have two : (m.covered ++ m.check).length - 2 = m.covered.length := by simp [OutMessage.check, octets2]
    rw [frameOctets_tail, two]
    exact ⟨List.take_left, List.drop_left⟩
  refine ⟨?_, ?_, rfl, rfl, ?_⟩
  · have length : (frameOctets m).length = m.body.length + 6 := by simp [frameOctets, octets2]
    rw [← length, run_octetReceived _ s running]
    show Host.Outcome.next (s.onLink fun k => (frameOctets m).foldl (fun k o => takeOctet o k) k) = _
    rw [State.onLink, takeOctet_frame short idle]
    rfl
  · rw [framePasses, tail.1, tail.2]
    exact beq_self_eq_true _
  · rw [frameBody, tail.1]
    rfl

/-! ### Asked messages refused before their owners act (R137, R170) -/

/-- A body of another length is answered BAD_LENGTH, and the owner does not see it. -/
theorem exec_badLength {c : Instr} {want : AskedMessage → Bool} {owner : List Octet → State → State × Reply} {n : Nat}
    (asked : Instr.asked c = some (want, withLength n owner)) {m : AskedMessage} {rest : List AskedMessage} {s : State}
    (takes : s.takes m rest) (wants : want m = true) (other : m.body.length ≠ n) :
    exec c s = .next (s.answered m rest 3 []) := by
  have row := takeAsked_run takes want (withLength n owner) wants
  rw [whenRunning_running takes.1] at row
  rw [exec_running takes.1, effect_asked asked, row, withLength, if_neg other]
  rfl

/-- Either row of RESTART judges a wrong length (log entry 10). -/
theorem exec_askRestart_badLength {c : Instr} {r : Selector} (row : effect c = askRestart r) {m : AskedMessage}
    {rest : List AskedMessage} {s : State} (takes : s.takes m rest) (kind : m.kind = 16) (other : m.body.length ≠ 1) :
    exec c s = .next (s.answered m rest 3 []) := by
  rw [exec_running takes.1, row, askRestart_run takes (by simp [wantsSelector, kind, other]), withLength, if_neg other]
  rfl

theorem kind_eq_of_toNat {m : AskedMessage} {k : Nat} (kind : m.kind.toNat = k) : m.kind = BitVec.ofNat 8 k := by
  rw [← kind, BitVec.ofNat_toNat, BitVec.setWidth_eq]

/-- Settles O11: the first check is the kind, the second the length, and each answers before anything is done. -/
theorem unknownKindAndBadLength : Obligations.UnknownKindAndBadLength := by
  unfold Obligations.UnknownKindAndBadLength
  intro m rest s takes
  refine ⟨fun unknown => ?_, fun c k n row kind other => ?_⟩
  · have strange : (!askedKind m.kind) = true := by simp [askedKind]; omega
    have row := takeAsked_run takes (fun m => !askedKind m.kind) (fun _ st => (st, .bare .unknownKind)) strange
    rw [whenRunning_running takes.1] at row
    rw [exec_running takes.1]
    exact row
  · have kind := kind_eq_of_toNat kind
    simp only [List.mem_cons, Prod.mk.injEq, List.not_mem_nil, or_false] at row
    rcases row with ⟨rfl, rfl, rfl⟩ | ⟨rfl, rfl, rfl⟩ | ⟨rfl, rfl, rfl⟩ | ⟨rfl, rfl, rfl⟩ | ⟨rfl, rfl, rfl⟩ |
      ⟨rfl, rfl, rfl⟩ | ⟨rfl, rfl, rfl⟩ | ⟨rfl, rfl, rfl⟩ | ⟨rfl, rfl, rfl⟩ | ⟨rfl, rfl, rfl⟩ | ⟨rfl, rfl, rfl⟩ |
      ⟨rfl, rfl, rfl⟩ | ⟨rfl, rfl, rfl⟩ | ⟨rfl, rfl, rfl⟩ | ⟨rfl, rfl, rfl⟩ | ⟨rfl, rfl, rfl⟩ | ⟨rfl, rfl, rfl⟩
    case inr.inr.inr.inr.inr.inr.inr.inr.inr.inr.inr.inr.inr.inr.inr.inl => exact exec_askRestart_badLength rfl takes kind other
    case inr.inr.inr.inr.inr.inr.inr.inr.inr.inr.inr.inr.inr.inr.inr.inr => exact exec_askRestart_badLength rfl takes kind other
    all_goals exact exec_badLength rfl takes (by simp [wantsMode, kind, other]) other

/-! ### Told messages that are discarded (R47, R90) -/

theorem exec_commandAnswer_of_hears {s : State} {f : List Octet} {rest : List (List Octet)} (h : s.hears 0x21 f rest) :
    exec .commandAnswer s = .next (commandAnswered (frameBody f) (s.heard rest)) := by
  obtain ⟨running, received, passes, kind⟩ := h
  rw [exec_running running, effect, takeReceived, received]
  simp only [passes, kind]
  rfl

theorem ne_of_lt_toNat {o k : Octet} {n : Nat} (above : n < o.toNat) (few : k.toNat ≤ n) : o ≠ k := by
  rintro rfl
  omega

theorem intervalOf_none {o : Octet} (nameless : 2 < o.toNat) : intervalOf o = none := by
  rw [intervalOf, if_neg (ne_of_lt_toNat nameless (by decide)), if_neg (ne_of_lt_toNat nameless (by decide)),
    if_neg (ne_of_lt_toNat nameless (by decide))]

theorem readStatusBody_none {n : Nat} {b : List Octet} (unusable : b.length ≠ 7 ∨ (bodyOctet b 1).toNat = 0 ∨
    n < (bodyOctet b 1).toNat ∨ 2 < (bodyOctet b 2).toNat) : readStatusBody n b = none := by
  unfold readStatusBody
  split
  · next plan phase interval hi lo flags mask =>
    have reason : phase.toNat = 0 ∨ n < phase.toNat ∨ 2 < interval.toNat := by simpa [bodyOctet] using unusable
    split
    · next i named =>
      rw [if_neg]
      rintro ⟨least, most⟩
      rcases reason with zero | above | nameless
      · omega
      · omega
      · rw [intervalOf_none nameless] at named
        cases named
    · rfl
  · rfl

theorem readAnswer_none {b : List Octet} (unusable : b.length ≠ 5 ∨ 2 < (bodyOctet b 1).toNat ∨ 1 < (bodyOctet b 4).toNat) :
    readAnswer b = none := by
  unfold readAnswer
  split
  · next tag v hi lo r =>
    have reason : 2 < v.toNat ∨ 1 < r.toNat := by simpa [bodyOctet] using unusable
    rcases reason with verdict | reason
    · rw [if_neg (ne_of_lt_toNat verdict (by decide)), if_neg (ne_of_lt_toNat verdict (by decide)),
        if_neg (ne_of_lt_toNat verdict (by decide))]
    · have flag : readFlag r = none := by
        rw [readFlag, if_neg (ne_of_lt_toNat reason (by decide)), if_neg (ne_of_lt_toNat reason (by decide))]
      rw [flag]
      split
      · next nameless => cases nameless
      · rfl
  · rfl

/-- A body of five octets with a verdict and a reason that have names is an answer to its tag (R90). -/
theorem readAnswer_some {b : List Octet} (length : b.length = 5) (verdict : (bodyOctet b 1).toNat ≤ 2)
    (reason : (bodyOctet b 4).toNat ≤ 1) : ∃ a, readAnswer b = some a ∧ a.tag = (bodyOctet b 0).toNat := by
  match b, length with
  | [tag, v, hi, lo, r], _ =>
    have named : ∃ w, (if v = 0 then some VerdictCode.accept else if v = 1 then some .someGiven
        else if v = 2 then some .refuse else none) = some w := by
      obtain code | code | code : v.toNat = 0 ∨ v.toNat = 1 ∨ v.toNat = 2 := by
        have few : v.toNat ≤ 2 := verdict
        omega
      · exact ⟨.accept, by rw [show v = 0 from BitVec.eq_of_toNat_eq code]; rfl⟩
      · exact ⟨.someGiven, by rw [show v = 1 from BitVec.eq_of_toNat_eq code]; rfl⟩
      · exact ⟨.refuse, by rw [show v = 2 from BitVec.eq_of_toNat_eq code]; rfl⟩
    have flag : ∃ f, readFlag r = some f := by
      obtain code | code : r.toNat = 0 ∨ r.toNat = 1 := by
        have few : r.toNat ≤ 1 := reason
        omega
      · exact ⟨false, by rw [show r = 0 from BitVec.eq_of_toNat_eq code]; rfl⟩
      · exact ⟨true, by rw [show r = 1 from BitVec.eq_of_toNat_eq code]; rfl⟩
    obtain ⟨w, named⟩ := named
    obtain ⟨f, flag⟩ := flag
    exact ⟨{ tag := tag.toNat, verdict := w, applied := number [hi, lo], firm := f }, by simp only [readAnswer, named, flag],
      rfl⟩

/-- An answer of a tag that neither the slot nor the lost tag memory holds is late (R90). -/
theorem matchAnswer_unmatched {a : Answer} {s : State} (slot : ∀ c, s.planner.slot = some c → c.tag ≠ a.tag)
    (lost : ∀ m, s.planner.lost = some m → m.tag ≠ a.tag) : matchAnswer a s = countAnswer .late none s := by
  have unmatched : (match s.planner.lost with
      | some m => if m.tag = a.tag then lateAnswer m a s else countAnswer .late none s
      | none => countAnswer .late none s) = countAnswer .late none s := by
    split
    · next m held => rw [if_neg (lost m held)]
    · rfl
  unfold matchAnswer
  split
  · next c held => rw [if_neg (slot c held)]; exact unmatched
  · exact unmatched

/-- Settles O14: what cannot be read is discarded, and counting is all that a status or an unmatched answer does. -/
theorem unusableToldMessagesDiscarded : Obligations.UnusableToldMessagesDiscarded := by
  unfold Obligations.UnusableToldMessagesDiscarded
  intro f rest s
  refine ⟨fun hears unusable => ?_, fun hears => ⟨fun unusable => ?_, fun length verdict reason slot lost => ?_⟩⟩
  · refine ⟨_, exec_phaseStatus_of_hears hears, ?_⟩
    have read : readStatusBody (s.heard rest).phaseCount (frameBody f) = none := readStatusBody_none unusable
    rw [statusArrives, read]
    exact addToCounters_saturation _ (s.heard rest)
  · rw [exec_commandAnswer_of_hears hears, commandAnswered, readAnswer_none unusable]
  · obtain ⟨a, read, tag⟩ := readAnswer_some length verdict reason
    refine ⟨_, exec_commandAnswer_of_hears hears, ?_⟩
    rw [commandAnswered, read]
    show State.sameButSaturation (matchAnswer a (s.heard rest)) _
    rw [matchAnswer_unmatched (s := s.heard rest) (fun c held => tag ▸ slot c held) (fun m held => tag ▸ lost m held)]
    exact addToCounters_saturation _ (s.heard rest)

end Sys2Proof.Machine
end

section
/-! SUPPORT. A valid PHASE_STATUS and the stale timer: what they do to the tokens and the ledger, and to the active
grant. -/

namespace Sys2Proof.Machine

/-! ### The close of a grant, written out (R101) -/

/-- A member at the close of its grant. -/
def Entry.closed (now : PartTime) (ran : Bool) (e : Entry) : Entry :=
  { e with state := .spent, reason := none, indication := .none, closeTime := some now, grantRan := some ran }

theorem Entry.spend_eq (now : PartTime) (ran : Bool) (e : Entry) : e.spend now ran = e.closed now ran := rfl

/-- The close of the active grant: its members are spent, and a pending revise that names it is discarded. -/
theorem closeGrant_of_some {g : Grant} {s : State} (active : s.planner.grant = some g) :
    closeGrant s = { s with
      table := s.table.map fun e => if e.bus ∈ g.members then e.closed s.now (g.state == .running) else e,
      planner := { s.planner with
        grant := none, revise := s.planner.revise.bind fun r => if r.grantId = g.id then none else some r } } := by
  unfold closeGrant
  rw [active]
  cases revise : s.planner.revise <;>
    simp only [State.onPlanner, List.contains_iff_mem, Entry.spend_eq, revise] <;> rfl

/-- The close of an ARMED grant: its members have not run. -/
theorem closeGrant_of_armed {g : Grant} {s : State} (active : s.planner.grant = some g) (armed : g.state = .armed) :
    closeGrant s = { s with
      table := s.table.map fun e => if e.bus ∈ g.members then e.closed s.now false else e,
      planner := { s.planner with
        grant := none, revise := s.planner.revise.bind fun r => if r.grantId = g.id then none else some r } } := by
  rw [closeGrant_of_some active, armed]
  rfl

/-! ### Tokens and ledger (R53, R83, R84) -/

/-- Tokens, refill counters and ledger. -/
def Planner.allowance (p : Planner) : PerApproach Nat × PerApproach Nat × Ledger := (p.tokens, p.refills, p.ledger)

theorem closeGrant_allowance (s : State) : (closeGrant s).planner.allowance = s.planner.allowance := by
  cases active : s.planner.grant with
  | none => rw [closeGrant_of_none active]
  | some g => rw [closeGrant_of_some active]; rfl

theorem grantStatus_allowance (p : Nat) (i : Interval) (s : State) :
    (grantStatus p i s).planner.allowance = s.planner.allowance := by
  obtain same | closed | ⟨f, rewritten⟩ := grantStatus_cases p i s
  · rw [same]
  · rw [closed, closeGrant_allowance]
  · rw [rewritten]; rfl

theorem triggerPass_allowance (s : State) : (triggerPass s).planner.allowance = s.planner.allowance := by
  unfold triggerPass
  split
  · rfl
  · split <;> rfl

theorem setModelState_allowance (m : ModelState) (s : State) :
    (setModelState m s).planner.allowance = s.planner.allowance := by
  unfold setModelState
  split
  · rfl
  · unfold signalPlanner
    split
    · simp [Planner.allowance]
    · split
      · dsimp only
        split
        · split
          · rw [closeGrant_allowance]
            simp [Planner.allowance]
          · simp [Planner.allowance]
        · simp [Planner.allowance]
      · simp [Planner.allowance]

/-- A valid status changes the allowance by its cycle start alone. -/
theorem validStatus_allowance (t : Status) (s : State) :
    (validStatus t s).planner.allowance =
      (if t.cycleStart && s.model.state != .noStatus then cycleStart (modelTaken t s) else modelTaken t s).planner.allowance := by
  rw [validStatus_eq, triggerPass_allowance, statusTaken, grantStatus_allowance]

/-- What an approach holds: its tokens, and its refill counter. -/
def State.purse (s : State) (x : Approach) : Nat × Nat := (s.planner.tokens.get x, s.planner.refills.get x)

/-- One cycle start for an approach with `c` cycles to a refill and at most `k` tokens (R83). -/
def refilled (c k : Nat) (purse : Nat × Nat) : Nat × Nat :=
  if c ≤ purse.2 + 1 then (if purse.1 < k then purse.1 + 1 else purse.1, 0) else (purse.1, purse.2 + 1)

theorem refillOne_purse_self (x : Approach) (s : State) :
    (refillOne s x).purse x = refilled (s.config.approaches.get x).refill (s.config.approaches.get x).kMax (s.purse x) := by
  unfold refillOne refilled State.purse
  dsimp only
  split
  · split <;> simp
  · simp

theorem refillOne_purse_other {x y : Approach} (other : y ≠ x) (s : State) : (refillOne s x).purse y = s.purse y := by
  unfold refillOne State.purse
  dsimp only
  split
  · simp only [State.onPlanner_planner, PerApproach.get_set_other _ _ _ _ other]
    split <;> simp [PerApproach.get_set_other _ _ _ _ other]
  · simp [PerApproach.get_set_other _ _ _ _ other]

theorem foldl_refillOne_other {x : Approach} : ∀ {l : List Approach}, x ∉ l → ∀ s : State,
    (l.foldl refillOne s).purse x = s.purse x
  | [], _, _ => rfl
  | y :: l, absent, s => by
    rw [List.mem_cons, not_or] at absent
    rw [List.foldl_cons, foldl_refillOne_other absent.2, refillOne_purse_other absent.1]

/-- The approaches take their cycle start one after another, each once. -/
theorem foldl_refillOne_purse {x : Approach} : ∀ {l : List Approach}, l.Nodup → x ∈ l → ∀ s : State,
    (l.foldl refillOne s).purse x =
      refilled (s.config.approaches.get x).refill (s.config.approaches.get x).kMax (s.purse x)
  | y :: l, nodup, mem, s => by
    rw [List.foldl_cons]
    rw [List.nodup_cons] at nodup
    rcases List.mem_cons.1 mem with rfl | later
    · rw [foldl_refillOne_other nodup.1, refillOne_purse_self]
    · have other : x ≠ y := fun same => nodup.1 (same ▸ later)
      rw [foldl_refillOne_purse nodup.2 later, refillOne_purse_other other, refillOne_config]

theorem cycleStart_purse (x : Approach) (s : State) :
    (cycleStart s).purse x = refilled (s.config.approaches.get x).refill (s.config.approaches.get x).kMax (s.purse x) := by
  have renewed : ∀ t : State, (renewLedger t).purse x = t.purse x := fun _ => rfl
  rw [cycleStart, renewed]
  exact foldl_refillOne_purse (by decide) (mem_allApproaches x) s

theorem refilled_early {c k tokens counter : Nat} (early : counter + 1 < c) :
    refilled c k (tokens, counter) = (tokens, counter + 1) := if_neg (Nat.not_le.2 early)

theorem refilled_due {c k tokens counter : Nat} (due : c ≤ counter + 1) :
    refilled c k (tokens, counter) = (if tokens < k then tokens + 1 else tokens, 0) := if_pos due

theorem cycleStart_ledger (s : State) :
    (cycleStart s).planner.ledger =
      { timeLimit := s.config.general.bCycle, grantLimit := s.config.general.gCycle, committed := 0, leads := 0,
        reservation := none } := by
  have config : (allApproaches.foldl refillOne s).config = s.config :=
    foldl_keeps State.config refillOne (fun t x => by simp) allApproaches s
  simp [cycleStart, renewLedger, State.onLedger, config]

theorem modelTaken_allowance (t : Status) (s : State) : (modelTaken t s).planner.allowance = s.planner.allowance :=
  setModelState_allowance _ { s with model := { s.model with anchor := some (t.anchor s.now) } }

/-- A valid status that starts a cycle (R53). -/
theorem validStatus_starts {t : Status} {s : State} (starts : t.cycleStart = true) (before : s.model.state ≠ .noStatus) :
    (validStatus t s).planner.ledger =
      { timeLimit := s.config.general.bCycle, grantLimit := s.config.general.gCycle, committed := 0, leads := 0,
        reservation := none } ∧
    ∀ x, (validStatus t s).purse x =
      refilled (s.config.approaches.get x).refill (s.config.approaches.get x).kMax (s.purse x) := by
  have config : (modelTaken t s).config = s.config := setModelState_config _ _
  have taken := modelTaken_allowance t s
  have allowance := validStatus_allowance t s
  rw [if_pos (by simp [starts, before])] at allowance
  simp only [Planner.allowance, Prod.mk.injEq] at allowance taken
  obtain ⟨tokens, refills, ledger⟩ := allowance
  obtain ⟨tokens', refills', -⟩ := taken
  refine ⟨by rw [ledger, cycleStart_ledger, config], fun x => ?_⟩
  have purse := cycleStart_purse x (modelTaken t s)
  simp only [State.purse, config, tokens', refills'] at purse ⊢
  rw [tokens, refills]
  exact purse

/-- A valid status that starts none. -/
theorem validStatus_continues {t : Status} {s : State} (none_starts : t.cycleStart = false ∨ s.model.state = .noStatus) :
    (validStatus t s).planner.allowance = s.planner.allowance := by
  rw [validStatus_allowance, if_neg (by rcases none_starts with h | h <;> simp [h]), modelTaken_allowance]

/-- The row of a status whose fields exist runs it. -/
theorem exec_phaseStatus_valid {s : State} {f : List Octet} {rest : List (List Octet)} (hears : s.hears 0x20 f rest)
    {plan phase interval hi lo flags mask : Octet} {i : Interval}
    (body : frameBody f = [plan, phase, interval, hi, lo, flags, mask]) (least : 1 ≤ phase.toNat)
    (most : phase.toNat ≤ s.config.phases.length) (code : interval.toNat = i.code) :
    exec .phaseStatus s =
      .next (validStatus (statusOf s.config.phases.length plan phase i hi lo flags mask) (s.heard rest)) := by
  have read : readStatusBody (s.heard rest).phaseCount (frameBody f) =
      some (statusOf s.config.phases.length plan phase i hi lo flags mask) := by
    rw [body]
    exact readStatusBody_valid plan hi lo flags mask least most code
  rw [exec_phaseStatus_of_hears hears, statusArrives_valid read]

/-- Settles O16: only the cycle start of a valid status touches the allowance, approach by approach and ledger. -/
theorem cycleStartRefillsAndRenews : Obligations.CycleStartRefillsAndRenews := by
  unfold Obligations.CycleStartRefillsAndRenews
  intro f rest plan phase interval hi lo flags mask i s hears body least most code
  refine ⟨_, exec_phaseStatus_valid hears body least most code, fun ⟨starts, before⟩ => ?_, fun none_starts => ?_⟩
  · obtain ⟨ledger, purses⟩ := validStatus_starts (t := statusOf s.config.phases.length plan phase i hi lo flags mask)
      (s := s.heard rest) starts before
    refine ⟨ledger, fun x => ?_⟩
    refine ⟨fun early => ?_, fun due => ?_⟩
    · obtain ⟨tokens, refills⟩ := Prod.mk.inj ((purses x).trans (refilled_early early))
      exact ⟨refills, tokens⟩
    · obtain ⟨tokens, refills⟩ := Prod.mk.inj ((purses x).trans (refilled_due due))
      exact ⟨refills, tokens⟩
  · have same := validStatus_continues (t := statusOf s.config.phases.length plan phase i hi lo flags mask)
      (s := s.heard rest) none_starts
    simp only [Planner.allowance, Prod.mk.injEq] at same
    obtain ⟨tokens, refills, ledger⟩ := same
    exact ⟨ledger, tokens, refills⟩

/-! ### The life of the grant (R99 to R101) -/

/-- What a status can reach of the exchange and the table. -/
def State.granted (s : State) : Option Grant × Option Revise × List Entry := (s.planner.grant, s.planner.revise, s.table)

theorem State.granted_eq_iff {s : State} {g : Option Grant} {r : Option Revise} {l : List Entry} :
    s.granted = (g, r, l) ↔ s.planner.grant = g ∧ s.planner.revise = r ∧ s.table = l := by
  simp [State.granted]

/-- The close of a grant reads only what it rewrites, and the time. -/
theorem closeGrant_granted {s t : State} (same : t.granted = s.granted) (now : t.now = s.now) :
    (closeGrant t).granted = (closeGrant s).granted := by
  simp only [State.granted, Prod.mk.injEq] at same
  obtain ⟨grant, revise, table⟩ := same
  cases active : s.planner.grant with
  | none => rw [closeGrant_of_none active, closeGrant_of_none (grant.trans active)]; simp [State.granted, grant, revise, table]
  | some g =>
    rw [closeGrant_of_some active, closeGrant_of_some (grant.trans active)]
    simp [State.granted, revise, table, now]

/-- Leaving TRACKING stops the review timer and closes an ARMED grant (R67, R100). -/
theorem signalPlanner_armed {g : Grant} {m : ModelState} {s : State} (leaves : m ≠ .tracking)
    (active : s.planner.grant = some g) (armed : g.state = .armed) :
    signalPlanner .tracking m s = closeGrant (s.onPlanner fun p => { p with review := none }) := by
  simp [signalPlanner, leaves, active, armed]

theorem signalPlanner_unarmed {m : ModelState} {s : State} (leaves : m ≠ .tracking)
    (unarmed : ∀ g, s.planner.grant = some g → g.state = .running) :
    signalPlanner .tracking m s = s.onPlanner fun p => { p with review := none } := by
  cases active : s.planner.grant with
  | none => simp [signalPlanner, leaves, active]
  | some g => simp [signalPlanner, leaves, active, unarmed g active]

theorem signalPlanner_outside {m n : ModelState} (before : m ≠ .tracking) (after : n ≠ .tracking) (s : State) :
    signalPlanner m n s = s := by
  simp [signalPlanner, before, after]

/-- The state that the planner judges a change of model state on. -/
def modelChanged (m : ModelState) (s : State) : State :=
  latchNotice .signalModel m.code { s with model := { s.model with state := m } }

theorem setModelState_of_ne {m : ModelState} {s : State} (change : s.model.state ≠ m) :
    setModelState m s = signalPlanner s.model.state m (modelChanged m s) := if_neg change

@[simp] theorem modelChanged_planner (m : ModelState) (s : State) : (modelChanged m s).planner = s.planner := by
  simp [modelChanged]

@[simp] theorem modelChanged_table (m : ModelState) (s : State) : (modelChanged m s).table = s.table := by
  simp [modelChanged]

@[simp] theorem modelChanged_now (m : ModelState) (s : State) : (modelChanged m s).now = s.now := by
  simp [modelChanged]

/-- The model as it leaves TRACKING closes an ARMED grant (R100). -/
theorem setModelState_granted_armed {g : Grant} {m : ModelState} {s : State} (before : s.model.state = .tracking)
    (leaves : m ≠ .tracking) (active : s.planner.grant = some g) (armed : g.state = .armed) :
    (setModelState m s).granted = (closeGrant s).granted := by
  rw [setModelState_of_ne (fun same => leaves (same.symm.trans before)), before,
    signalPlanner_armed leaves (by simp [active]) armed]
  exact closeGrant_granted (by simp [State.granted]) (by simp)

/-- Otherwise a change of model state moves nothing of the exchange. -/
theorem setModelState_granted {m : ModelState} {s : State}
    (unarmed : m = .tracking ∨ ∀ g, s.planner.grant = some g → g.state = .running) :
    (setModelState m s).granted = s.granted := by
  by_cases same : s.model.state = m
  · rw [setModelState, if_pos same]
  · rw [setModelState_of_ne same]
    by_cases enters : m = .tracking
    · simp [signalPlanner, enters, State.granted]
    · by_cases before : s.model.state = .tracking
      · rw [before, signalPlanner_unarmed enters (by simpa using unarmed.resolve_left enters)]
        simp [State.granted]
      · rw [signalPlanner_outside before enters]
        simp [State.granted]

theorem triggerPass_granted (s : State) : (triggerPass s).granted = s.granted := by
  unfold triggerPass
  split
  · rfl
  · split <;> rfl

theorem cycleStart_granted (s : State) : (cycleStart s).granted = s.granted := by
  have renewed : ∀ t : State, (renewLedger t).granted = t.granted := fun _ => rfl
  rw [cycleStart, renewed]
  refine foldl_keeps State.granted refillOne (fun t x => ?_) allApproaches s
  unfold refillOne
  dsimp only
  split <;> rfl

/-- The state that a valid status is judged on by the planner has the exchange of the state with its new model. -/
theorem statusTaken_granted (t : Status) (s : State) :
    ∃ u : State, u.granted = (modelTaken t s).granted ∧ u.now = s.now ∧
      (validStatus t s).granted = (grantStatus t.phase t.interval u).granted := by
  refine ⟨if t.cycleStart && s.model.state != .noStatus then cycleStart (modelTaken t s) else modelTaken t s, ?_, ?_, ?_⟩
  · split
    · exact cycleStart_granted _
    · rfl
  · have now : (modelTaken t s).now = s.now := setModelState_now _ _
    split
    · rw [cycleStart_now, now]
    · exact now
  · rw [validStatus_eq, triggerPass_granted]
    rfl

theorem grantStatus_running {g : Grant} {s : State} (active : s.planner.grant = some g) (running : g.state = .running)
    (p : Nat) (i : Interval) :
    grantStatus p i s = if p = g.phase ∧ i = .green then s else closeGrant s := by
  simp [grantStatus, active, running]

theorem grantStatus_armed {g : Grant} {s : State} (active : s.planner.grant = some g) (armed : g.state = .armed)
    (p : Nat) (i : Interval) :
    (grantStatus p i s).granted = (some (if p = g.phase ∧ i = .green then
      if g.outSeen = some true then { g with state := .running, armLimit := none, outSeen := none } else g
      else { g with outSeen := some true }), s.planner.revise, s.table) := by
  simp only [grantStatus, active, armed]
  split
  · split
    · simp [State.granted, State.onGrant, active]
    · simp [State.granted, active]
  · simp [State.granted, State.onGrant, active, armed]

/-- The exchange after a valid status, from the exchange with its new model (R54). -/
theorem validStatus_granted {t : Status} {s r : State} (taken : (modelTaken t s).granted = r.granted) (now : s.now = r.now) :
    ∃ u : State, u.granted = r.granted ∧ u.now = r.now ∧
      (validStatus t s).granted = (grantStatus t.phase t.interval u).granted := by
  obtain ⟨u, exchange, time, judged⟩ := statusTaken_granted t s
  exact ⟨u, exchange.trans taken, time.trans now, judged⟩

/-- The close of a grant, in the fields that a status can reach. -/
theorem closeGrant_granted_eq {g : Grant} {ran : Bool} {s : State} (active : s.planner.grant = some g)
    (runs : (g.state == .running) = ran) :
    (closeGrant s).granted = (none, s.planner.revise.bind fun r => if r.grantId = g.id then none else some r,
      s.table.map fun e => if e.bus ∈ g.members then e.closed s.now ran else e) := by
  rw [closeGrant_of_some active, runs]
  rfl

/-- A status and a RUNNING grant (R99, R101). -/
theorem validStatus_running {t : Status} {g : Grant} {s : State} (active : s.planner.grant = some g)
    (running : g.state = .running) :
    (t.phase = g.phase ∧ t.interval = .green → (validStatus t s).granted = s.granted) ∧
    (¬(t.phase = g.phase ∧ t.interval = .green) → (validStatus t s).granted = (closeGrant s).granted) := by
  have taken : (modelTaken t s).granted = s.granted :=
    setModelState_granted (.inr fun g' active' => by
      cases Option.some.inj (active.symm.trans active')
      exact running)
  obtain ⟨u, exchange, now, judged⟩ := validStatus_granted taken rfl
  have held : u.planner.grant = some g := by rw [← active]; exact congrArg Prod.fst exchange
  rw [judged, grantStatus_running held running]
  refine ⟨fun shown => ?_, fun hidden => ?_⟩
  · rw [if_pos shown, exchange]
  · rw [if_neg hidden, closeGrant_granted exchange now]

/-- A status that takes the model out of TRACKING, and an ARMED grant (R100). -/
theorem validStatus_armed_leaves {t : Status} {g : Grant} {s : State} (active : s.planner.grant = some g)
    (armed : g.state = .armed) (before : s.model.state = .tracking) (leaves : t.modelState s.config ≠ .tracking) :
    (validStatus t s).granted = (closeGrant s).granted := by
  have taken : (modelTaken t s).granted = (closeGrant s).granted :=
    setModelState_granted_armed (s := { s with model := { s.model with anchor := some (t.anchor s.now) } }) before leaves
      active armed |>.trans (closeGrant_granted rfl rfl)
  obtain ⟨u, exchange, now, judged⟩ := validStatus_granted taken (by simp)
  have free : u.planner.grant = none :=
    (congrArg Prod.fst exchange).trans (congrArg Prod.fst (closeGrant_granted_eq active rfl))
  rw [judged, grantStatus_of_none free, exchange]

/-- A status in TRACKING, and an ARMED grant (R100). -/
theorem validStatus_armed_stays {t : Status} {g : Grant} {s : State} (active : s.planner.grant = some g)
    (armed : g.state = .armed) (stays : t.modelState s.config = .tracking) :
    (validStatus t s).granted = (some (if t.phase = g.phase ∧ t.interval = .green then
      if g.outSeen = some true then { g with state := .running, armLimit := none, outSeen := none } else g
      else { g with outSeen := some true }), s.planner.revise, s.table) := by
  have taken : (modelTaken t s).granted = s.granted := setModelState_granted (.inl stays)
  obtain ⟨u, exchange, now, judged⟩ := validStatus_granted taken rfl
  simp only [State.granted, Prod.mk.injEq] at exchange
  obtain ⟨held, revise, table⟩ := exchange
  rw [judged, grantStatus_armed (held.trans active) armed, revise, table]

/-- Settles O17: the model first closes an ARMED grant as it leaves TRACKING, and the grant that is left is judged by the
phase and the interval shown. -/
theorem statusDecidesGrant : Obligations.StatusDecidesGrant := by
  unfold Obligations.StatusDecidesGrant
  intro f rest plan phase interval hi lo flags mask i g s hears body least most code active
  have model := validStatus_model (statusOf s.config.phases.length plan phase i hi lo flags mask) (s.heard rest)
  refine ⟨_, exec_phaseStatus_valid hears body least most code, fun running shown => ?_, fun running hidden => ?_,
    fun armed before leaves => ?_, fun armed stays => ?_⟩
  · obtain ⟨grant, -, table⟩ := State.granted_eq_iff.1 ((validStatus_running
      (t := statusOf s.config.phases.length plan phase i hi lo flags mask)
      (s := s.heard rest) active running).1 shown)
    exact ⟨grant.trans active, table⟩
  · obtain ⟨grant, revise, table⟩ := State.granted_eq_iff.1
      (((validStatus_running (t := statusOf s.config.phases.length plan phase i hi lo flags mask)
        (s := s.heard rest) active running).2 hidden).trans (closeGrant_granted_eq active (by rw [running])))
    exact ⟨grant, revise, table⟩
  · rw [model] at leaves
    obtain ⟨grant, -, table⟩ := State.granted_eq_iff.1
      ((validStatus_armed_leaves (s := s.heard rest) active armed before leaves).trans
        (closeGrant_granted_eq active (by rw [armed])))
    exact ⟨grant, table⟩
  · rw [model] at stays
    obtain ⟨grant, -, table⟩ := State.granted_eq_iff.1 (validStatus_armed_stays (s := s.heard rest) active armed stays)
    exact ⟨table, grant⟩

/-! ### The stale timer (R51, R52) -/

theorem staleDue_eq {a : Anchor} {s : State} (anchored : s.model.anchor = some a) (follows : s.model.state ≠ .noStatus)
    (fresh : s.model.state ≠ .stale) :
    s.staleDue = reached s.now (after a.arrival (10 * s.config.general.tSig)) := by
  cases state : s.model.state <;> simp_all [State.staleDue]

/-- Settles O18: at its instant the timer is a change of model state, judged by what the model and the grant were. -/
theorem staleTimerExpires : Obligations.StaleTimerExpires := by
  unfold Obligations.StaleTimerExpires
  intro a s running anchored follows fresh
  have row : exec .staleTimer s = .next (staleExpires s) := by rw [exec_running running]; rfl
  rw [row, staleExpires, staleDue_eq anchored follows fresh]
  refine ⟨fun near => ?_, fun far => by rw [after, not_reached_of_le far]; rfl⟩
  rw [if_pos (by rw [after, reached_of_lt near])]
  refine ⟨_, rfl, by simp [anchored], ?_, ?_, fun outside => ?_, fun before unarmed => ?_, fun g before active armed => ?_⟩
  · rw [setModelState_signalLatch]
    simp [fresh, ModelState.code]
  · refine sameButNotices_of
      (base := { s with model := (setModelState .stale s).model, planner := (setModelState .stale s).planner,
                        table := (setModelState .stale s).table })
      (noticedFrom_trans (setModelState_noticed _ _) (noticedFrom_of_eq rfl rfl)) ?_ ?_ ?_ ?_ ?_ ?_ ?_ rfl ?_ ?_ rfl rfl
      ?_ ?_ ?_ ?_ ?_ <;> simp
  · rw [setModelState_of_ne fresh, signalPlanner_outside outside (by decide)]
    simp
  · rw [setModelState_of_ne fresh, before, signalPlanner_unarmed (by decide) (by simpa using unarmed)]
    simp
  · rw [setModelState_of_ne fresh, before, signalPlanner_armed (by decide) (by simpa using active) armed,
      closeGrant_of_armed (by simpa using active) armed]
    exact ⟨by simp, by simp [Entry.closed]⟩

end Sys2Proof.Machine
end

section
/-! SUPPORT. Operations that neither read nor write what latching writes: two states that differ by latching alone still
do so after one of them. With it, which latches an operation can set, and what the settling operations of the command
exchange write. -/

namespace Sys2Proof.Machine

/-! ### States that differ by latching alone (R166, R138) -/

/-- The state with other latches, and with NOTICEs that have joined the outbound queue or been dropped. -/
def State.noticing (latches : PerLatch (Option LatchInfo)) (out : List OutMessage) (dropped : Nat) (s : State) : State :=
  { s with notices := { s.notices with latches := latches },
           link := { s.link with outbound := s.link.outbound ++ out, noticesDropped := dropped } }

theorem State.sameButNotices_iff {t base : State} :
    t.sameButNotices base ↔ ∃ latches out dropped, t = base.noticing latches out dropped ∧ (∀ m ∈ out, m.kind = .notice) ∧
      ∀ l ∈ latchesInOrder, (base.notices.latches.get l).isSome = true → latches.get l = base.notices.latches.get l :=
  Iff.rfl

/-- An operation that does not look at latches or at NOTICEs behind the outbound queue, and leaves them. -/
def Blind (f : State → State) : Prop :=
  ∀ (s : State) latches out dropped, (∀ m ∈ out, m.kind = .notice) →
    f (s.noticing latches out dropped) = (f s).noticing latches out dropped

theorem State.noticing_self (s : State) : s.noticing s.notices.latches [] s.link.noticesDropped = s := by
  simp [State.noticing]

/-- A blind operation leaves the latches. -/
theorem Blind.latches {f : State → State} (blind : Blind f) (s : State) : (f s).notices.latches = s.notices.latches := by
  have same := blind s s.notices.latches [] s.link.noticesDropped (by simp)
  rw [State.noticing_self] at same
  rw [same]
  rfl

theorem Blind.sameBut {f : State → State} (blind : Blind f) {t base : State} (h : t.sameButNotices base) :
    (f t).sameButNotices (f base) := by
  obtain ⟨latches, out, dropped, rfl, notices, kept⟩ := State.sameButNotices_iff.1 h
  refine State.sameButNotices_iff.2 ⟨latches, out, dropped, blind base latches out dropped notices, notices, ?_⟩
  rwa [blind.latches]

theorem Blind.comp {f g : State → State} (hf : Blind f) (hg : Blind g) : Blind (fun s => f (g s)) :=
  fun s latches out dropped notices =>
    (congrArg f (hg s latches out dropped notices)).trans (hf (g s) latches out dropped notices)

theorem Blind.id : Blind fun s => s := fun _ _ _ _ _ => rfl

theorem State.sameButNotices_refl (s : State) : s.sameButNotices s :=
  ⟨s.notices.latches, [], s.link.noticesDropped, (State.noticing_self s).symm, by simp, fun _ _ _ => rfl⟩

theorem State.sameButNotices.noticed {t base : State} (h : t.sameButNotices base) : t.noticedFrom base := by
  obtain ⟨latches, out, dropped, rfl, notices, kept⟩ := h
  exact ⟨latches, out, dropped, rfl, rfl, notices, kept⟩

theorem sameButNotices_table {t base : State} (h : t.sameButNotices base) : t.table = base.table := by
  obtain ⟨_, _, _, rfl, _, _⟩ := h
  rfl

theorem sameButNotices_planner {t base : State} (h : t.sameButNotices base) : t.planner = base.planner := by
  obtain ⟨_, _, _, rfl, _, _⟩ := h
  rfl

theorem State.sameButNotices_trans {r t base : State} (h : r.sameButNotices t) (h' : t.sameButNotices base) :
    r.sameButNotices base := by
  have noticed := noticedFrom_trans (State.sameButNotices.noticed h) (State.sameButNotices.noticed h')
  obtain ⟨_, _, _, rfl, _, _⟩ := h
  obtain ⟨_, _, _, rfl, _, _⟩ := h'
  exact sameButNotices_of noticed rfl rfl rfl rfl rfl rfl rfl rfl rfl rfl rfl rfl rfl rfl rfl rfl rfl

theorem latchNotice_sameBut (l : Latch) (d : Nat) (s : State) : (latchNotice l d s).sameButNotices s :=
  sameButNotices_of (latchNotice_noticed l d s) (by simp) (by simp) (by simp) (by simp) (by simp) (by simp) (by simp)
    (by simp) (by simp) (by simp) (by simp) (by simp) (by simp) (by simp) (by simp) (by simp) (by simp)

/-! ### Which latches are set -/

theorem State.latchesStay_of_eq {t s : State} (same : t.notices.latches = s.notices.latches) (but : List Latch) :
    t.latchesStay s but := fun _ _ _ _ => by rw [same]

theorem State.latchesStay_trans {r t s : State} {but : List Latch} (h : r.latchesStay t but) (h' : t.latchesStay s but) :
    r.latchesStay s but := fun l mem other stays => (h l mem other stays).trans (h' l mem other stays)

theorem State.latchesStay_weaken {t s : State} {but more : List Latch} (h : t.latchesStay s but)
    (sub : ∀ l ∈ but, l ∈ more) : t.latchesStay s more := fun l mem other stays => h l mem other (mt (sub l) stays)

theorem latchNotice_get_other {l k : Latch} (other : k ≠ l) (d : Nat) (s : State) :
    (latchNotice l d s).notices.latches.get k = s.notices.latches.get k := by
  rw [latchNotice_latches]
  split
  · rfl
  · exact perLatch_get_set_other _ _ _ _ other

theorem PerLatch.get_set_same {α : Type} (v : PerLatch α) (l : Latch) (x : α) : (v.set l x).get l = x := by
  cases l
  case tokensExhausted x => cases x <;> rfl
  case linkState x => cases x <;> rfl
  case farAlarm x => cases x <;> rfl
  case receiverFault x => cases x <;> rfl
  all_goals rfl

theorem latchNotice_get_same (l : Latch) (d : Nat) (s : State) :
    (latchNotice l d s).notices.latches.get l = setOnce (s.notices.latches.get l) d s.now := by
  rw [latchNotice_latches, setOnce]
  split
  · rfl
  · exact PerLatch.get_set_same _ _ _

theorem latchNotice_latchesStay (l : Latch) (d : Nat) (s : State) : (latchNotice l d s).latchesStay s [l] :=
  fun _ _ _ other => latchNotice_get_other (by simpa using other) d s

/-- Counting sets no latch but COUNTER_SATURATED. -/
theorem addToCounters_latchesStay (f : Counter → Nat) (s : State) (but : List Latch) :
    (addToCounters f s).latchesStay s but := by
  intro l _ other _
  rcases addToCounters_saturation f s with same | ⟨i, c, -, -, same⟩
  · rw [same]
  · rw [same, latchNotice_get_other other]

theorem countEvent_latchesStay (ev : EventKind) (sub : Nat) (src : Option Source) (s : State) (but : List Latch) :
    (countEvent ev sub src s).latchesStay s but := addToCounters_latchesStay _ s but

theorem Blind.latchesStay {f : State → State} (blind : Blind f) (s : State) (but : List Latch) :
    (f s).latchesStay s but := State.latchesStay_of_eq (blind.latches s) but

/-! ### The operations of the exchange, written out -/

theorem Blind.onPlanner (f : Planner → Planner) : Blind fun s => s.onPlanner f := fun _ _ _ _ _ => rfl
theorem Blind.onLedger (f : Ledger → Ledger) : Blind fun s => s.onLedger f := fun _ _ _ _ _ => rfl
theorem Blind.onGrant (f : Grant → Grant) : Blind fun s => s.onGrant f := fun _ _ _ _ _ => rfl
theorem Blind.onTotals (f : Totals → Totals) : Blind fun s => s.onTotals f := fun _ _ _ _ _ => rfl
theorem Blind.updateEntry (b : Nat) (f : Entry → Entry) : Blind (updateEntry b f) := fun _ _ _ _ _ => rfl
theorem Blind.makePending (r : Revise) : Blind (makePending r) := fun _ _ _ _ _ => rfl

theorem emptySlot_of_none {s : State} (free : s.planner.slot = none) : emptySlot s = s := by
  rw [emptySlot, free]

theorem emptySlot_of_some {c : Slot} {s : State} (held : s.planner.slot = some c) :
    emptySlot s = { s with planner := { s.planner with slot := none },
                           link := { s.link with outbound := removeUnsent c.tag s.link.outbound } } := by
  rw [emptySlot, held]
  rfl

theorem Blind.emptySlot : Blind emptySlot := by
  intro s latches out dropped notices
  cases held : s.planner.slot with
  | none => rw [emptySlot_of_none held, emptySlot_of_none (s := s.noticing latches out dropped) held]
  | some c =>
    rw [emptySlot_of_some held, emptySlot_of_some (s := s.noticing latches out dropped) held]
    simp [State.noticing, removeUnsent_append _ _ _ notices]

theorem Blind.closeGrant : Blind closeGrant := by
  intro s latches out dropped _
  cases active : s.planner.grant with
  | none => rw [closeGrant_of_none active, closeGrant_of_none (s := s.noticing latches out dropped) active]
  | some g =>
    rw [closeGrant_of_some active, closeGrant_of_some (s := s.noticing latches out dropped) active]
    rfl

theorem Blind.ite {f g : State → State} {c : State → Prop} [∀ s, Decidable (c s)]
    (same : ∀ (s : State) latches out dropped, c (s.noticing latches out dropped) ↔ c s) (hf : Blind f) (hg : Blind g) :
    Blind fun s => if c s then f s else g s := by
  intro s latches out dropped notices
  simp only [same]
  split
  · exact hf s latches out dropped notices
  · exact hg s latches out dropped notices

theorem Blind.triggerPass : Blind triggerPass :=
  .ite (fun _ _ _ _ => Iff.rfl) .id (.ite (fun _ _ _ _ => Iff.rfl) (.onPlanner _) (.onPlanner _))

theorem Blind.callRevise (g : Grant) (total : Nat) : Blind (callRevise g total) := by
  unfold Machine.callRevise
  split
  · split
    · exact .closeGrant
    · exact .onGrant _
  · exact .makePending _

/-- A pass trigger, written out (R65). -/
theorem triggerPass_eq (s : State) :
    triggerPass s = { s with planner := { s.planner with
      passDue := (triggerPass s).planner.passDue, passMark := (triggerPass s).planner.passMark } } := by
  unfold triggerPass
  split
  · rfl
  · split <;> rfl

/-- A trigger behind an operation whose result is known but for latching. -/
theorem triggerPass_sameBut {t base : State} (h : t.sameButNotices base) :
    (triggerPass t).sameButNotices { base with planner := { base.planner with
      passDue := (triggerPass t).planner.passDue, passMark := (triggerPass t).planner.passMark } } := by
  have same := Blind.triggerPass.sameBut h
  have planner : (triggerPass t).planner = (triggerPass base).planner := by
    obtain ⟨_, _, _, eq, _⟩ := same
    rw [eq]
  rw [planner]
  rwa [triggerPass_eq base] at same

/-- The entry a command was chosen for, rewritten where it stands (R91 to R93). -/
theorem updateCommanded_eq (b : Nat) (f : Entry → Entry) (s : State) :
    updateCommanded b f s =
      { s with table := s.table.map fun q => if q.bus = b ∧ q.state = .commanded then f q else q } := by
  unfold updateCommanded updateEntry
  congr 1
  refine List.map_congr_left fun q _ => ?_
  by_cases bus : q.bus = b <;> simp [bus]

theorem Blind.updateCommanded (b : Nat) (f : Entry → Entry) : Blind (updateCommanded b f) := .updateEntry b _

/-- A refused command, written out (R93). -/
theorem refuseCommand_eq {c : Slot} {b : Nat} {s : State} (held : s.planner.slot = some c) (bus : c.bus.getD 0 = b)
    (firm : Bool) :
    refuseCommand c firm s = { s with
      planner := { s.planner with slot := none, ledger := s.planner.ledger.release },
      link := { s.link with outbound := removeUnsent c.tag s.link.outbound },
      table := s.table.map fun q => if q.bus = b ∧ q.state = .commanded then
        Entry.refuse firm s.config.general.maxAttempts q else q } := by
  simp only [refuseCommand, updateCommanded_eq, emptySlot_of_some held, bus]
  rfl

theorem Blind.refuseCommand (c : Slot) (firm : Bool) : Blind (refuseCommand c firm) :=
  fun s latches out dropped notices => by
    rw [Machine.refuseCommand, Machine.refuseCommand, Blind.emptySlot s latches out dropped notices]
    rfl

end Sys2Proof.Machine
end

section
/-! SUPPORT. The answers to a command and its due events (chapter 5): refusal, timeout and arm limit. -/

namespace Sys2Proof.Machine

/-! ### The arm limit (R100) -/

/-- Settles O26: at its instant the row is the close of an ARMED grant. -/
theorem armLimitClosesUnused : Obligations.ArmLimitClosesUnused := by
  unfold Obligations.ArmLimitClosesUnused
  intro g d s running active armed limit near
  have due : s.isDue g.armLimit = true := by rw [limit]; exact reached_of_lt near
  have row : exec .armLimit s = .next (armLimitDue s) := by rw [exec_running running]; rfl
  have closes : armLimitDue s = closeGrant s := by simp [armLimitDue, active, armed, due]
  rw [row, closes, closeGrant_of_armed active armed]
  rfl

/-! ### Answers as read (R90) -/

/-- The verdict that an octet names. -/
def verdictOf (v : Octet) : VerdictCode := if v = 0 then .accept else if v = 1 then .someGiven else .refuse

/-- The answer in a body whose verdict and reason have names. -/
def answerOf (tag v hi lo r : Octet) : Answer :=
  { tag := tag.toNat, verdict := verdictOf v, applied := hi.toNat * 256 + lo.toNat, firm := r == 1 }

theorem eq_ofNat_of_toNat {o : Octet} {n : Nat} (value : o.toNat = n) : o = BitVec.ofNat 8 n := by
  rw [← value, BitVec.ofNat_toNat, BitVec.setWidth_eq]

theorem readAnswer_answerOf {tag v hi lo r : Octet} (verdict : v.toNat ≤ 2) (reason : r.toNat ≤ 1) :
    readAnswer [tag, v, hi, lo, r] = some (answerOf tag v hi lo r) := by
  have codes : v = 0 ∨ v = 1 ∨ v = 2 := by
    obtain code | code | code : v.toNat = 0 ∨ v.toNat = 1 ∨ v.toNat = 2 := by omega
    all_goals simp [eq_ofNat_of_toNat code]
  have reasons : r = 0 ∨ r = 1 := by
    obtain code | code : r.toNat = 0 ∨ r.toNat = 1 := by omega
    all_goals simp [eq_ofNat_of_toNat code]
  rcases codes with rfl | rfl | rfl <;> rcases reasons with rfl | rfl <;>
    simp [readAnswer, answerOf, verdictOf, readFlag, number_pair]

/-- The row of a well-formed answer matches it. -/
theorem exec_commandAnswer_answerOf {s : State} {f : List Octet} {rest : List (List Octet)} {tag v hi lo r : Octet}
    (hears : s.hears 0x21 f rest) (body : frameBody f = [tag, v, hi, lo, r]) (verdict : v.toNat ≤ 2)
    (reason : r.toNat ≤ 1) :
    exec .commandAnswer s = .next (matchAnswer (answerOf tag v hi lo r) (s.heard rest)) := by
  rw [exec_commandAnswer_of_hears hears, commandAnswered, body, readAnswer_answerOf verdict reason]

theorem matchAnswer_slot {a : Answer} {c : Slot} {s : State} (held : s.planner.slot = some c) (tag : c.tag = a.tag) :
    matchAnswer a s = slotAnswer c a s := by
  simp [matchAnswer, held, tag]

theorem slotAnswer_adjust {c : Slot} {act : Action} (adjusts : c.action = .adjust act) (a : Answer) (s : State) :
    slotAnswer c a s =
      triggerPass (settleAdjust c act (a.read c.amount) (countAnswer (a.read c.amount).event (some c.approach) s)) := by
  simp [slotAnswer, adjusts]

theorem read_refuse {tag v hi lo r : Octet} (refuses : v = 2 ∨ v = 1 ∧ hi.toNat * 256 + lo.toNat = 0) (wanted : Nat) :
    (answerOf tag v hi lo r).read wanted = .refuse (v == 2 && r == 1) := by
  rcases refuses with rfl | ⟨rfl, nothing⟩
  · rfl
  · simp [answerOf, verdictOf, Answer.read, nothing]

/-! ### Refusals and timeouts (R93, R94) -/

theorem countAnswer_sameBut (ev : AnswerEvent) (x : Approach) (s : State) :
    (countAnswer ev (some x) s).sameButNotices { s with stats := s.counted .answer ev.index (some (.port x)) } :=
  countEvent_sameBut _ _ _ _

/-- What a refusal does to an entry, written out (R93). -/
theorem Entry.refuse_eq (firm : Bool) (most : Nat) (e : Entry) :
    e.refuse firm most =
      if firm = true ∨ most ≤ e.attempts + 1 then
        { e with attempts := e.attempts + 1, state := .denied, reason := none, indication := .denied }
      else { e with attempts := e.attempts + 1, state := .waiting, reason := some .needsGreen, indication := .wait } := by
  unfold Entry.refuse
  cases firm
  · by_cases used : most ≤ e.attempts + 1 <;> simp [used, Entry.place, indicationOf]
  · simp [Entry.place, indicationOf]

/-- The fixed total that a refused lead adds to (R165). -/
def refusedTotals (c : Slot) (t : Totals) : Totals := if c.role = .lead then { t with refused := tally32 t.refused } else t

/-- The fixed total that a lost lead adds to (R165). -/
def lostTotals (c : Slot) (t : Totals) : Totals := if c.role = .lead then { t with lost := tally32 t.lost } else t

/-- The refusal of the lead or of the follower in the slot (R93). -/
theorem settleAdjust_refuse (c : Slot) (act : Action) (firm : Bool) (s : State) :
    settleAdjust c act (.refuse firm) s = (refuseCommand c firm s).onTotals (refusedTotals c) := by
  cases role : c.role <;> simp [settleAdjust, refusedTotals, State.onTotals, role]

/-- The timeout of the lead or of the follower in the slot (R94). -/
theorem timeOut_adjust {c : Slot} {act : Action} (adjusts : c.action = .adjust act) (s : State) :
    timeOut c s = triggerPass ((countAnswer .timeout (some c.approach)
      ((refuseCommand c false s).onPlanner fun p => { p with lost := some (lostTagOf c act s) })).onTotals (lostTotals c)) := by
  cases role : c.role with
  | lead => simp [timeOut, adjusts, lostTotals, State.onTotals, role]
  | follower =>
    have plain : lostTotals c = id := by
      funext t
      simp [lostTotals, role]
    simp only [timeOut, adjusts, role, plain, reduceCtorEq, if_false]
    rfl

/-- Settles O24. -/
theorem commandRefused : Obligations.CommandRefused := by
  unfold Obligations.CommandRefused
  intro f rest tag v hi lo r c act b s hears body reason held same adjusts bus refuses
  have few : v.toNat ≤ 2 := by rcases refuses with rfl | ⟨rfl, -⟩ <;> decide
  refine ⟨_, exec_commandAnswer_answerOf hears body few reason, ?_⟩
  rw [matchAnswer_slot (s := s.heard rest) held same, slotAnswer_adjust adjusts, read_refuse refuses,
    settleAdjust_refuse]
  have counted := countAnswer_sameBut .refuse c.approach (s.heard rest)
  have settled := triggerPass_sameBut (((Blind.onTotals (refusedTotals c)).comp
    (Blind.refuseCommand c (v == 2 && r == 1))).sameBut counted)
  rw [refuseCommand_eq (s := { s.heard rest with stats := _ }) (b := b) held (by simp [bus])] at settled
  simp only [Entry.refuse_eq, Bool.and_eq_true, beq_iff_eq] at settled
  exact ⟨settled, fun awake idle => triggerPass_due
    (by simpa [refuseCommand, updateCommanded, countAnswer, State.heard] using awake)
    (by simpa [refuseCommand, updateCommanded, countAnswer, emptySlot_planner, State.heard] using idle)⟩

/-- The timeout of a REVISE (R105). -/
theorem timeOut_revise {c : Slot} (revises : c.action = .revise) (s : State) :
    timeOut c s = triggerPass (countAnswer .timeout (some c.approach) (emptySlot s)) := by
  simp [timeOut, revises]

/-- Settles O25. -/
theorem answerTimeoutLosesCommand : Obligations.AnswerTimeoutLosesCommand := by
  unfold Obligations.AnswerTimeoutLosesCommand
  intro c d s running held due near
  have row : exec .answerTimeout s = .next (answerTimeout s) := by rw [exec_running running]; rfl
  have falls : answerTimeout s = timeOut c s := by
    have isDue : s.isDue c.due = true := by rw [due]; exact reached_of_lt near
    simp [answerTimeout, held, isDue]
  refine ⟨_, row, ?_⟩
  rw [falls]
  refine ⟨fun act adjusts => ?_, fun revises => ?_, fun awake idle => ?_⟩
  · have lost := triggerPass_sameBut ((Blind.onTotals (lostTotals c)).sameBut (countAnswer_sameBut .timeout c.approach
      ((refuseCommand c false s).onPlanner fun p => { p with lost := some (lostTagOf c act s) })))
    rw [← timeOut_adjust adjusts, refuseCommand_eq held rfl] at lost
    simp only [Entry.refuse_eq, Bool.false_eq_true, false_or] at lost
    exact lost
  · rw [timeOut_revise revises, emptySlot_of_some held]
    exact triggerPass_sameBut (countAnswer_sameBut .timeout c.approach _)
  · cases action : c.action with
    | adjust act =>
      rw [timeOut_adjust action]
      exact triggerPass_due (by simpa [refuseCommand, updateCommanded, countAnswer] using awake)
        (by simpa [refuseCommand, updateCommanded, countAnswer, emptySlot_planner] using idle)
    | revise =>
      rw [timeOut_revise action]
      exact triggerPass_due (by simpa [countAnswer] using awake) (by simpa [countAnswer, emptySlot_planner] using idle)

end Sys2Proof.Machine
end

section
/-! SUPPORT. The pending revise, the trim test and the departure of an entry (R102 to R104, R107), in the terms of the
statements. -/

namespace Sys2Proof.Machine

/-! ### The pending revise (R104) -/

theorem mergeRevise_eq (old : Option Revise) (r : Revise) : mergeRevise old r = reviseAfter old r := by
  cases old with
  | none => rfl
  | some o =>
    by_cases same : o.grantId = r.grantId
    · simp [mergeRevise, reviseAfter, same]
    · simp [mergeRevise, reviseAfter, same]

theorem makePending_eq (r : Revise) (s : State) :
    makePending r s = { s with planner := { s.planner with revise := reviseAfter s.planner.revise r } } := by
  rw [← mergeRevise_eq]
  rfl

theorem closeGrant_dropNamed {g : Grant} {s : State} (active : s.planner.grant = some g) :
    closeGrant s = { s with
      table := s.table.map fun e => if e.bus ∈ g.members then e.asSpent s.now (g.state == .running) else e,
      planner := { s.planner with grant := none, revise := dropNamed s.planner.revise g.id } } :=
  closeGrant_of_some active

/-- Whatever revise of the grant was made pending is discarded as the grant closes. -/
theorem dropNamed_reviseAfter (old : Option Revise) (id phase total : Nat) (x : Approach) :
    dropNamed (reviseAfter old { grantId := id, phase := phase, total := total, approach := x, revoke := false }) id =
      dropNamed old id := by
  cases old with
  | none => simp [reviseAfter, dropNamed]
  | some o =>
    by_cases same : o.grantId = id
    · simp [reviseAfter, dropNamed, same]
    · simp [reviseAfter, dropNamed, same]

/-! ### The trim test (R103) -/

theorem memberNeed_toNat (now : PartTime) (clearance rest : Nat) (e : Entry) :
    (memberNeed now clearance rest e).toNat = e.needNow now clearance rest := by
  simp only [memberNeed, Entry.needNow, elapsed]
  omega

theorem foldl_need_le (now : PartTime) (clearance rest : Nat) : ∀ (l : List Entry) (m : Nat),
    m ≤ l.foldl (fun m e => max m (memberNeed now clearance rest e).toNat) m ∧
    ∀ e ∈ l, e.needNow now clearance rest ≤ l.foldl (fun m e => max m (memberNeed now clearance rest e).toNat) m
  | [], _ => ⟨Nat.le_refl _, by simp⟩
  | e :: l, m => by
    obtain ⟨base, rest'⟩ := foldl_need_le now clearance rest l (max m (memberNeed now clearance rest e).toNat)
    rw [List.foldl_cons]
    refine ⟨Nat.le_trans (Nat.le_max_left _ _) base, fun q mem => ?_⟩
    rcases List.mem_cons.1 mem with rfl | later
    · rw [← memberNeed_toNat]
      exact Nat.le_trans (Nat.le_max_right _ _) base
    · exact rest' q later

theorem foldl_need_attained (now : PartTime) (clearance rest : Nat) : ∀ (l : List Entry) (m : Nat),
    l.foldl (fun m e => max m (memberNeed now clearance rest e).toNat) m = m ∨
    ∃ e ∈ l, e.needNow now clearance rest = l.foldl (fun m e => max m (memberNeed now clearance rest e).toNat) m
  | [], _ => .inl rfl
  | e :: l, m => by
    rw [List.foldl_cons]
    rcases foldl_need_attained now clearance rest l (max m (memberNeed now clearance rest e).toNat) with
      same | ⟨q, mem, attained⟩
    · rw [same]
      rcases Nat.le_total (memberNeed now clearance rest e).toNat m with below | above
      · exact .inl (Nat.max_eq_left below)
      · exact .inr ⟨e, List.mem_cons_self, by rw [Nat.max_eq_right above, memberNeed_toNat]⟩
    · exact .inr ⟨q, List.mem_cons_of_mem _ mem, attained⟩

/-- The needed total is the greatest need over the members, and no other number is. -/
theorem neededBy_iff {members : List Entry} {now : PartTime} {clearance rest n : Nat} :
    neededBy members now clearance rest n ↔ n = neededTotal now clearance rest members := by
  have bound := (foldl_need_le now clearance rest members 0).2
  have attained := foldl_need_attained now clearance rest members 0
  rw [← neededTotal] at bound attained
  refine ⟨fun ⟨above, reached⟩ => Nat.le_antisymm ?_ ?_, fun same => same ▸ ⟨bound, attained⟩⟩
  · rcases reached with zero | ⟨e, mem, same⟩
    · omega
    · exact same ▸ bound e mem
  · rcases attained with zero | ⟨e, mem, same⟩
    · omega
    · exact same ▸ above e mem

theorem trimTest_of_armed {g : Grant} {s : State} (active : s.planner.grant = some g) (armed : g.state = .armed) :
    trimTest s = s := by
  cases tracked : s.trackedPlan <;> simp [trimTest, active, tracked, armed]

theorem trimTest_free {s : State} (free : s.planner.grant = none) : trimTest s = s := by
  simp [trimTest, free]

theorem trimTest_untracked {s : State} (untracked : s.trackedPlan = none) : trimTest s = s := by
  cases active : s.planner.grant <;> simp [trimTest, active, untracked]

/-- The trim test of a RUNNING grant, written out. -/
theorem trimTest_running {g : Grant} {a : Anchor} {p : Plan} {n : Nat} {s : State} (active : s.planner.grant = some g)
    (running : g.state = .running) (tracked : s.trackedPlan = some (a, p))
    (need : neededBy (s.table.filter fun q => g.members.contains q.bus) s.now s.config.general.clearance
      (s.config.plannedGreen p g.phase - a.elapsedAt s.now) n) :
    trimTest s = if n + s.config.general.reviseThreshold < g.total then callRevise g n s else s := by
  have total := neededBy_iff.1 need
  unfold trimTest
  rw [active, tracked]
  simp only [if_pos running]
  rw [plannedRest, State.membersOf, ← total]
  by_cases exceeds : n + s.config.general.reviseThreshold < g.total
  · rw [if_pos exceeds, if_pos (by omega)]
  · rw [if_neg exceeds, if_neg (by omega)]

/-- What the trim test leaves (R103, R104, R107). -/
theorem trimTest_trims {g : Grant} {s : State} (active : s.planner.grant = some g) :
    s.trims g (trimTest s).table (trimTest s).planner.grant (trimTest s).planner.revise := by
  refine ⟨fun still => ?_, fun a p n running tracked need => ?_⟩
  · rw [still.elim (trimTest_of_armed active) trimTest_untracked]
    exact ⟨rfl, active, rfl⟩
  · rw [trimTest_running active running tracked need]
    refine ⟨fun within => ?_, fun exceeds real => ?_, fun exceeds shadow part => ?_, fun exceeds shadow nothing => ?_⟩
    · rw [if_neg (by omega)]
      exact ⟨rfl, active, rfl⟩
    · rw [if_pos exceeds, callRevise, if_neg (by simp [real]), makePending_eq]
      exact ⟨rfl, active, rfl⟩
    · rw [if_pos exceeds, callRevise, if_pos shadow, if_neg (by omega)]
      exact ⟨rfl, by simp [State.onGrant, active], rfl⟩
    · rw [if_pos exceeds, callRevise, if_pos shadow, if_pos nothing, closeGrant_dropNamed active, running]
      exact ⟨by simp, rfl, rfl⟩

theorem Blind.trimTest : Blind trimTest := by
  intro s latches out dropped notices
  cases active : s.planner.grant with
  | none => rw [trimTest_free active, trimTest_free (s := s.noticing latches out dropped) active]
  | some g =>
    cases tracked : s.trackedPlan with
    | none => rw [trimTest_untracked tracked, trimTest_untracked (s := s.noticing latches out dropped) tracked]
    | some ap =>
      cases state : g.state with
      | armed => rw [trimTest_of_armed active state, trimTest_of_armed (s := s.noticing latches out dropped) active state]
      | running =>
        rw [trimTest_running active state tracked (neededBy_iff.2 rfl),
          trimTest_running (s := s.noticing latches out dropped) active state tracked (neededBy_iff.2 rfl)]
        split
        · next exceeds =>
          rw [if_pos (by exact exceeds)]
          exact Blind.callRevise _ _ s latches out dropped notices
        · next within => rw [if_neg (by exact within)]

/-! ### Departures (R102) -/

theorem giveBack_iff {g : Grant} {s : State} : s.giveBack g = true ↔ s.givesBack g := by
  cases state : g.state with
  | armed => simp [State.giveBack, State.givesBack, state]
  | running =>
    cases tracked : s.trackedPlan with
    | none => simp [State.giveBack, State.givesBack, state, tracked]
    | some ap =>
      obtain ⟨a, p⟩ := ap
      simp [State.giveBack, State.givesBack, state, tracked]

/-- The entry that leaves is none of the members left, so that the trim test may be read with it gone. -/
theorem trims_left {s : State} {e : Entry} {g : Grant} {table : List Entry} {grant : Option Grant} {revise : Option Revise}
    (gone : e.bus ∉ g.members) (trims : s.trims g table grant revise) :
    State.trims { s with table := s.table.filter fun q => q.bus != e.bus } g (table.filter fun q => q.bus != e.bus) grant
      revise := by
  obtain ⟨still, tested⟩ := trims
  have members : (s.table.filter fun q => q.bus != e.bus).filter (fun q => g.members.contains q.bus) =
      s.table.filter fun q => g.members.contains q.bus := by
    rw [List.filter_filter]
    refine List.filter_congr fun q _ => ?_
    by_cases same : q.bus = e.bus
    · simp [same, gone]
    · simp [same]
  refine ⟨fun h => ?_, fun a p n running tracked need => ?_⟩
  · obtain ⟨rfl, rest⟩ := still h
    exact ⟨rfl, rest⟩
  · rw [members] at need
    obtain ⟨within, real, lowered, closed⟩ := tested a p n running tracked need
    refine ⟨fun h => ?_, fun h h' => ?_, fun h h' h'' => ?_, fun h h' h'' => ?_⟩
    · obtain ⟨rfl, rest⟩ := within h
      exact ⟨rfl, rest⟩
    · obtain ⟨rfl, rest⟩ := real h h'
      exact ⟨rfl, rest⟩
    · obtain ⟨rfl, rest⟩ := lowered h h' h''
      exact ⟨rfl, rest⟩
    · obtain ⟨rfl, rest⟩ := closed h h' h''
      refine ⟨?_, rest⟩
      rw [List.filter_map]
      congr 1
      refine List.filter_congr fun q _ => ?_
      simp only [Function.comp_apply]
      split <;> rfl

/-- What the departure of an entry leaves once the entry is gone (R19, R102, R107). -/
theorem tellDeparture_departs (e : Entry) (s : State) :
    s.departs e ((tellDeparture e s).table.filter fun q => q.bus != e.bus) (tellDeparture e s).planner.grant
      (tellDeparture e s).planner.revise := by
  refine ⟨fun idle => ?_, fun g g' granted active left => ?_⟩
  · have same : tellDeparture e s = s := by
      rcases idle with other | none_active
      · rw [tellDeparture, if_neg other]
      · rw [tellDeparture, none_active, ite_self]
    rw [same]
    exact ⟨rfl, rfl, rfl⟩
  · have held : (s.onPlanner fun p => { p with grant := some g' }).planner.grant = some g' := rfl
    have told : tellDeparture e s =
        if g'.members.isEmpty then
          if s.giveBack g then callRevise g' 0 (s.onPlanner fun p => { p with grant := some g' })
          else s.onPlanner fun p => { p with grant := some g' }
        else trimTest (s.onPlanner fun p => { p with grant := some g' }) := by
      rw [tellDeparture, if_pos granted, active, left]
    rw [told]
    refine ⟨fun some_left => ?_, fun none_left => ⟨fun kept => ?_, fun back real => ?_, fun back shadow => ?_⟩⟩
    · rw [if_neg (by simpa using some_left)]
      exact trims_left (by simp [left]) (trimTest_trims held)
    · rw [if_pos (by simp [none_left]), if_neg (mt giveBack_iff.1 kept)]
      exact ⟨rfl, rfl, rfl⟩
    · rw [if_pos (by simp [none_left]), if_pos (giveBack_iff.2 back), callRevise, if_neg (by simp [left, real]),
        makePending_eq]
      exact ⟨rfl, rfl, by simp [left]⟩
    · rw [if_pos (by simp [none_left]), if_pos (giveBack_iff.2 back), callRevise, if_pos (by simp [left, shadow]), if_pos rfl,
        closeGrant_dropNamed held]
      exact ⟨by simp [none_left], rfl, by simp [left]⟩

end Sys2Proof.Machine
end

section
/-! SUPPORT. The acceptance of a lead and of a follower command, the answer to a REVISE and the late answer (chapter 5), in
the terms of the statements. -/

namespace Sys2Proof.Machine

/-! ### The entry of a command (R91, R96) -/

/-- An entry of a bus stands in a state. -/
def State.stands (s : State) (b : Nat) (st : EntryState) : Bool := s.table.any fun e => e.bus == b && e.state == st

/-- With no bus twice, the entry found of a bus decides. -/
theorem stands_of_found {s : State} {b : Nat} {e : Entry} (nodup : (s.table.map Entry.bus).Nodup)
    (found : s.findEntry b = some e) (st : EntryState) : s.stands b st = (e.state == st) := by
  rw [Bool.eq_iff_iff]
  simp only [State.stands, List.any_eq_true, Bool.and_eq_true, beq_iff_eq]
  refine ⟨fun ⟨q, mem, bus, state⟩ => ?_, fun state => ⟨e, findEntry_mem found, findEntry_bus found, state⟩⟩
  rwa [← List.inj_on_of_nodup_map nodup mem (findEntry_mem found) (bus.trans (findEntry_bus found).symm)]

theorem stands_of_absent {s : State} {b : Nat} (absent : s.findEntry b = none) (st : EntryState) :
    s.stands b st = false := by
  rw [Bool.eq_false_iff]
  simp only [State.stands, ne_eq, List.any_eq_true, Bool.and_eq_true, beq_iff_eq, not_exists, not_and]
  exact fun q mem bus => absurd bus (findEntry_none absent q mem)

theorem stillCommanded_eq {s : State} (nodup : (s.table.map Entry.bus).Nodup) (b : Nat) :
    s.stillCommanded b = s.stands b .commanded := by
  unfold State.stillCommanded
  split
  · next e found => rw [stands_of_found nodup found]
  · next absent => rw [stands_of_absent absent]

theorem lostWaits_eq {s : State} (nodup : (s.table.map Entry.bus).Nodup) (b : Nat) :
    s.lostWaits b = s.stands b .waiting := by
  unfold State.lostWaits
  split
  · next e found => rw [stands_of_found nodup found]
  · next absent => rw [stands_of_absent absent]

theorem not_stands {s : State} {b : Nat} {st : EntryState} (absent : s.stands b st = false) :
    ∀ q ∈ s.table, ¬(q.bus = b ∧ q.state = st) := by
  simpa [State.stands] using absent

/-- Where no entry of a bus stands in a state, rewriting that entry changes nothing. -/
theorem map_absent {s : State} {b : Nat} {st : EntryState} (absent : s.stands b st = false) (f : Entry → Entry) :
    (s.table.map fun q => if q.bus = b ∧ q.state = st then f q else q) = s.table := by
  exact (List.map_congr_left (g := id) fun q mem => if_neg (not_stands absent q mem)).trans (List.map_id _)

/-- With no bus twice, the entry of a bus that stands in a state is the only one of that bus. -/
theorem state_of_stands {s : State} {b : Nat} {st : EntryState} (nodup : (s.table.map Entry.bus).Nodup)
    (present : s.stands b st = true) {q : Entry} (mem : q ∈ s.table) (bus : q.bus = b) : q.state = st := by
  simp only [State.stands, List.any_eq_true, Bool.and_eq_true, beq_iff_eq] at present
  obtain ⟨e, memE, busE, stateE⟩ := present
  rwa [List.inj_on_of_nodup_map nodup mem memE (bus.trans busE.symm)]

/-! ### Pass triggers behind an answer (R65) -/

/-- Whether a pass runs, and the mode, stay through the operations of the exchange. -/
theorem passing_plain (s : State) :
    PlainKept fun t => t.mode = s.mode ∧ t.planner.passRunning = s.planner.passRunning where
  reports := fun r ⟨mode, running⟩ => ⟨r.mode.trans mode, by rw [r.planner]; exact running⟩
  allowance := fun f t timers _ ⟨mode, running⟩ => by
    simp only [Planner.timers, Prod.mk.injEq] at timers
    obtain ⟨-, -, -, same⟩ := timers
    exact ⟨mode, same.trans running⟩
  rewritten := fun _ _ _ _ h => h

/-- A trigger behind such operations makes a pass due. -/
theorem triggerPass_passes {s t : State} (kept : t.mode = s.mode ∧ t.planner.passRunning = s.planner.passRunning)
    (awake : s.mode ≠ .standby) (idle : s.planner.passRunning = false) : (triggerPass t).planner.passDue = true :=
  triggerPass_due (kept.1 ▸ awake) (kept.2.trans idle)

/-! ### A grant created in vain (R91, R100) -/

/-- A created grant closes at once. -/
def State.vain (s : State) (act : Action) (phase : Nat) : Prop :=
  act = .extend ∧ s.anchorGreen phase = false ∨ act = .advance ∧ s.cycleLength = none

theorem closeIfVain_stays {s : State} {id : Nat} {act : Action} {phase wanted n : Nat} {x : Approach} {members : List Nat}
    {u : State} (active : s.planner.grant = some (newGrant u id act phase wanted n x false members))
    (green : s.anchorGreen = u.anchorGreen) (useful : ¬u.vain act phase) : closeIfVain s = s := by
  unfold closeIfVain
  rw [active]
  cases act with
  | extend =>
    have shown : u.anchorGreen phase = true := by simpa [State.vain] using useful
    simp [newGrant, green, shown]
  | advance =>
    have cycle : u.cycleLength ≠ none := by simpa [State.vain] using useful
    obtain ⟨k, cycle⟩ := Option.ne_none_iff_exists'.1 cycle
    simp [newGrant, cycle]

theorem closeIfVain_closes {s : State} {id : Nat} {act : Action} {phase wanted n : Nat} {x : Approach} {members : List Nat}
    {u : State} (active : s.planner.grant = some (newGrant u id act phase wanted n x false members))
    (green : s.anchorGreen = u.anchorGreen) (vain : u.vain act phase) : closeIfVain s = closeGrant s := by
  unfold closeIfVain
  rw [active]
  rcases vain with ⟨rfl, hidden⟩ | ⟨rfl, endless⟩
  · simp [newGrant, green, hidden]
  · simp [newGrant, endless]

theorem Blind.closeIfVain : Blind closeIfVain := by
  intro s latches out dropped notices
  have closed := Blind.closeGrant s latches out dropped notices
  cases active : s.planner.grant with
  | none =>
    have held : (s.noticing latches out dropped).planner.grant = none := active
    simp only [Machine.closeIfVain, active, held]
  | some g =>
    have held : (s.noticing latches out dropped).planner.grant = some g := active
    have green : (s.noticing latches out dropped).anchorGreen = s.anchorGreen := rfl
    simp only [Machine.closeIfVain, active, held, green]
    split
    · split
      · rfl
      · exact closed
    · split
      · rfl
      · exact closed

/-! ### The token of an acceptance (R82) -/

theorem takeToken_sameBut {x : Approach} {t base : State} (h : t.sameButNotices base) :
    (takeToken x t).sameButNotices { base with planner := { base.planner with
      tokens := base.planner.tokens.set x (base.planner.tokens.get x - 1) } } := by
  have blind : Blind fun s : State => s.onPlanner fun p => { p with tokens := p.tokens.set x (p.tokens.get x - 1) } :=
    .onPlanner _
  have paid := blind.sameBut h
  unfold takeToken
  dsimp only
  split
  · exact State.sameButNotices_trans (latchNotice_sameBut _ _ _) paid
  · exact paid

/-- What taking a token latches, seen from a state whose tokens, latch and time are those of its taking. -/
theorem takeToken_tookToken {x : Approach} {u s : State} (tokens : u.planner.tokens = s.planner.tokens)
    (now : u.now = s.now) (stays : u.latchesStay s []) :
    (takeToken x u).tookToken s x ∧ (takeToken x u).latchesStay s [.tokensExhausted x] := by
  have latch : u.notices.latches.tokensExhausted.get x = s.notices.latches.tokensExhausted.get x :=
    stays (.tokensExhausted x) (by cases x <;> decide) (by simp) (by simp)
  unfold takeToken
  rw [tokens]
  dsimp only
  split
  · next last =>
    refine ⟨?_, ?_⟩
    · rw [State.tookToken, if_pos last, ← latch, ← now]
      exact latchNotice_get_same (.tokensExhausted x) 0 _
    · exact State.latchesStay_trans (latchNotice_latchesStay _ _ _)
        (State.latchesStay_weaken (but := []) stays (by simp))
  · next more =>
    refine ⟨?_, State.latchesStay_weaken (but := []) stays (by simp)⟩
    rw [State.tookToken, if_neg more]
    exact latch

/-- The slot emptied behind the count of its answer (R90). -/
theorem answered_emptied {c : Slot} {s : State} (held : s.planner.slot = some c) (ev : AnswerEvent) :
    (emptySlot (countAnswer ev (some c.approach) s)).sameButNotices { s with
      planner := { s.planner with slot := none },
      stats := s.counted .answer ev.index (some (.port c.approach)),
      link := { s.link with outbound := removeUnsent c.tag s.link.outbound } } := by
  have emptied := Blind.emptySlot.sameBut (countAnswer_sameBut ev c.approach s)
  rwa [emptySlot_of_some (s := { s with stats := s.counted .answer ev.index (some (.port c.approach)) }) held] at emptied

/-! ### The acceptance of a lead (R91) -/

/-- The acceptance of a lead once the slot is empty, the reservation converted and the token taken. -/
def grantLead (c : Slot) (act : Action) (n : Nat) (part : Bool) (s : State) : State :=
  let bus := c.bus.getD 0
  let present := s.stillCommanded bus
  let g := newGrant s c.grantId act c.phase c.amount n c.approach false (if present then [bus] else [])
  let s1 := s.onPlanner fun p => { p with grant := some g }
  let s2 := if present then updateCommanded bus (Entry.join .lead n false) s1
    else makePending { grantId := g.id, phase := g.phase, total := 0, approach := g.approach, revoke := false } s1
  closeIfVain <| s2.onTotals fun t =>
    if part then { t with answeredPartly := tally32 t.answeredPartly } else { t with accepted := tally32 t.accepted }

theorem Blind.grantLead (c : Slot) (act : Action) (n : Nat) (part : Bool) : Blind (grantLead c act n part) := by
  intro s latches out dropped notices
  unfold Machine.grantLead
  dsimp only
  have same : (s.noticing latches out dropped).stillCommanded = s.stillCommanded := rfl
  rw [same]
  split
  · rw [← Blind.closeIfVain _ latches out dropped notices]
    rfl
  · rw [← Blind.closeIfVain _ latches out dropped notices]
    rfl

/-- The totals after the acceptance of a lead (R165). -/
def acceptedTotals (part : Bool) (t : Totals) : Totals :=
  if part then { t with answeredPartly := tally32 t.answeredPartly } else { t with accepted := tally32 t.accepted }

theorem Entry.join_eq (role : Role) (n : Nat) (shadow : Bool) (e : Entry) : e.join role n shadow = e.asGranted role n shadow :=
  rfl

/-- The accepted lead whose entry still stands: a grant of one member. -/
def leadJoined (c : Slot) (act : Action) (n : Nat) (part : Bool) (b : Nat) (s : State) : State :=
  { s with
    planner := { s.planner with grant := some (newGrant s c.grantId act c.phase c.amount n c.approach false [b]) },
    stats := { s.stats with totals := acceptedTotals part s.stats.totals },
    table := s.table.map fun q => if q.bus = b ∧ q.state = .commanded then q.asGranted .lead n false else q }

/-- The accepted lead whose entry is gone: a grant of no member, to be revised to 0. -/
def leadAlone (c : Slot) (act : Action) (n : Nat) (part : Bool) (s : State) : State :=
  { s with
    planner := { s.planner with
      grant := some (newGrant s c.grantId act c.phase c.amount n c.approach false []),
      revise := reviseAfter s.planner.revise
        { grantId := c.grantId, phase := c.phase, total := 0, approach := c.approach, revoke := false } },
    stats := { s.stats with totals := acceptedTotals part s.stats.totals } }

theorem grantLead_joins {c : Slot} {b : Nat} {s : State} (bus : c.bus = some b) (present : s.stillCommanded b = true)
    (act : Action) (n : Nat) (part : Bool) :
    grantLead c act n part s = closeIfVain (leadJoined c act n part b s) := by
  simp only [grantLead, bus, Option.getD_some, present, if_true, updateCommanded_eq, Entry.join_eq]
  rfl

theorem grantLead_alone {c : Slot} {b : Nat} {s : State} (bus : c.bus = some b) (gone : s.stillCommanded b = false)
    (act : Action) (n : Nat) (part : Bool) :
    grantLead c act n part s = closeIfVain (leadAlone c act n part s) := by
  simp only [grantLead, bus, Option.getD_some, gone, Bool.false_eq_true, if_false, makePending_eq]
  rfl

/-- The state in which an accepted lead is granted: the slot empty, the reservation converted, the token taken. -/
def State.paidLead (s : State) (c : Slot) (n : Nat) (ev : AnswerEvent) : State :=
  { s with
    planner := { s.planner with
      slot := none, ledger := s.planner.ledger.convert n,
      tokens := s.planner.tokens.set c.approach (s.planner.tokens.get c.approach - 1) },
    stats := s.counted .answer ev.index (some (.port c.approach)),
    link := { s.link with outbound := removeUnsent c.tag s.link.outbound } }

/-- An accepted lead: the state but for latching, its latches and its pass. -/
theorem acceptLead_leaves {c : Slot} {s : State} (held : s.planner.slot = some c) (act : Action) (n : Nat) (part : Bool)
    (ev : AnswerEvent) :
    let t := triggerPass (acceptLead c act n part (countAnswer ev (some c.approach) s))
    (s.mode ≠ .standby → s.planner.passRunning = false → t.planner.passDue = true) ∧
      t.latchesStay s [.tokensExhausted c.approach] ∧ t.tookToken s c.approach ∧
      t.sameButNotices { grantLead c act n part (s.paidLead c n ev) with
        planner := { (grantLead c act n part (s.paidLead c n ev)).planner with
          passDue := t.planner.passDue, passMark := t.planner.passMark } } := by
  intro t
  have emptied := (Blind.onLedger fun l => l.convert n).sameBut (answered_emptied held ev)
  have granted := triggerPass_sameBut ((Blind.grantLead c act n part).sameBut (takeToken_sameBut (x := c.approach) emptied))
  have blind := (Blind.triggerPass.comp (Blind.grantLead c act n part)).latches (takeToken c.approach
    ((emptySlot (countAnswer ev (some c.approach) s)).onLedger fun l => l.convert n))
  obtain ⟨took, stays⟩ := takeToken_tookToken (x := c.approach) (s := s)
    (u := (emptySlot (countAnswer ev (some c.approach) s)).onLedger fun l => l.convert n)
    (by simp [State.onLedger, emptySlot_planner, countAnswer]) (by simp [State.onLedger, countAnswer])
    (State.latchesStay_trans (Blind.latchesStay ((Blind.onLedger fun l => l.convert n).comp Blind.emptySlot) _ _)
      (countEvent_latchesStay _ _ _ _ _))
  refine ⟨triggerPass_passes ((passing_plain s).work.acceptLead trivial
    ((passing_plain s).work.answerCounted _ _ _ ⟨rfl, rfl⟩)), ?_, ?_, granted⟩
  · exact State.latchesStay_trans (State.latchesStay_of_eq blind _) stays
  · rw [State.tookToken, show t.notices.latches = _ from blind]
    exact took

/-- The grant of an accepted lead, its entry standing or gone. -/
def leadGrant (c : Slot) (act : Action) (n b : Nat) (s : State) : Grant :=
  newGrant s c.grantId act c.phase c.amount n c.approach false (if s.stands b .commanded then [b] else [])

/-- A granted lead that is of use (R91). -/
theorem grantLead_stays {c : Slot} {act : Action} {b : Nat} {s : State} (nodup : (s.table.map Entry.bus).Nodup)
    (bus : c.bus = some b) (useful : ¬s.vain act c.phase) (n : Nat) (part : Bool) :
    grantLead c act n part s = { s with
      planner := { s.planner with
        grant := some (leadGrant c act n b s),
        revise := if s.stands b .commanded then s.planner.revise else reviseAfter s.planner.revise
          { grantId := c.grantId, phase := c.phase, total := 0, approach := c.approach, revoke := false } },
      stats := { s.stats with totals := acceptedTotals part s.stats.totals },
      table := s.table.map fun q => if q.bus = b ∧ q.state = .commanded then q.asGranted .lead n false else q } := by
  have still := stillCommanded_eq nodup b
  cases stands : s.stands b .commanded with
  | true =>
    rw [grantLead_joins bus (still.trans stands)]
    rw [closeIfVain_stays (s := leadJoined c act n part b s) (u := s) rfl rfl useful]
    simp only [leadJoined, leadGrant, stands, if_true]
  | false =>
    rw [grantLead_alone bus (still.trans stands)]
    rw [closeIfVain_stays (s := leadAlone c act n part s) (u := s) rfl rfl useful, map_absent stands]
    simp only [leadAlone, leadGrant, stands, Bool.false_eq_true, if_false]

/-- A granted lead that is in vain closes at once (R91, R100, R101). -/
theorem grantLead_closes {c : Slot} {act : Action} {b : Nat} {s : State} (nodup : (s.table.map Entry.bus).Nodup)
    (bus : c.bus = some b) (vain : s.vain act c.phase) (n : Nat) (part : Bool) :
    grantLead c act n part s = { s with
      planner := { s.planner with grant := none, revise := dropNamed s.planner.revise c.grantId },
      stats := { s.stats with totals := acceptedTotals part s.stats.totals },
      table := s.table.map fun q =>
        if q.bus = b ∧ q.state = .commanded then (q.asGranted .lead n false).asSpent s.now (act == .extend) else q } := by
  have still := stillCommanded_eq nodup b
  have ran : ((if act = .extend then GrantState.running else .armed) == .running) = (act == .extend) := by
    cases act <;> rfl
  cases stands : s.stands b .commanded with
  | true =>
    rw [grantLead_joins bus (still.trans stands)]
    rw [closeIfVain_closes (s := leadJoined c act n part b s) (u := s) rfl rfl vain,
      closeGrant_dropNamed (s := leadJoined c act n part b s) rfl]
    simp only [leadJoined, newGrant, ran, List.map_map, List.mem_singleton]
    congr 1
    refine List.map_congr_left fun q mem => ?_
    by_cases same : q.bus = b
    · simp [same, state_of_stands nodup stands mem same, Entry.asGranted]
    · simp [same]
  | false =>
    rw [grantLead_alone bus (still.trans stands)]
    rw [closeIfVain_closes (s := leadAlone c act n part s) (u := s) rfl rfl vain, map_absent stands,
      closeGrant_dropNamed (s := leadAlone c act n part s) rfl]
    simp [leadAlone, newGrant, dropNamed_reviseAfter]

/-! ### Accepting answers (R90) -/

theorem read_accept {tag v hi lo r : Octet} {wanted n : Nat}
    (accepts : v = 0 ∧ n = wanted ∨
      v = 1 ∧ 0 < hi.toNat * 256 + lo.toNat ∧ n = min (hi.toNat * 256 + lo.toNat) wanted) :
    (answerOf tag v hi lo r).read wanted = .accept n (v == 1) := by
  rcases accepts with ⟨rfl, rfl⟩ | ⟨rfl, some, rfl⟩
  · rfl
  · simp [answerOf, verdictOf, Answer.read]
    omega

theorem accept_event {v : Octet} (accepts : v = 0 ∨ v = 1) (n : Nat) :
    (Verdict.accept n (v == 1)).event.index = v.toNat := by
  rcases accepts with rfl | rfl <;> rfl

theorem acceptedTotals_eq {v : Octet} (accepts : v = 0 ∨ v = 1) (t : Totals) :
    acceptedTotals (v == 1) t =
      if v = 0 then { t with accepted := min 4294967295 (t.accepted + 1) }
      else { t with answeredPartly := min 4294967295 (t.answeredPartly + 1) } := by
  rcases accepts with rfl | rfl <;> rfl

theorem settleAdjust_acceptLead {c : Slot} (lead : c.role = .lead) (act : Action) (n : Nat) (part : Bool) (s : State) :
    settleAdjust c act (.accept n part) s = acceptLead c act n part s := by
  simp [settleAdjust, lead]

/-- Settles O23: the grant of the one entry that stands COMMANDED. -/
theorem leadExtensionAccepted : Obligations.LeadExtensionAccepted := by
  unfold Obligations.LeadExtensionAccepted
  intro f rest tag v hi lo r c b e n s hears body reason held same adjusts lead bus found commanded green accepts
  have codes : v = 0 ∨ v = 1 := accepts.imp And.left And.left
  have few : v.toNat ≤ 2 := by rcases codes with rfl | rfl <;> decide
  have present : ((s.heard rest).paidLead c n (Verdict.accept n (v == 1)).event).stillCommanded b = true := by
    have here : ((s.heard rest).paidLead c n (Verdict.accept n (v == 1)).event).findEntry b = some e := found
    rw [State.stillCommanded, here]
    simp [commanded]
  obtain ⟨passes, stays, took, leaves⟩ := acceptLead_leaves (s := s.heard rest) held .extend n (v == 1)
    (Verdict.accept n (v == 1)).event
  refine ⟨_, exec_commandAnswer_answerOf hears body few reason, ?_⟩
  rw [matchAnswer_slot (s := s.heard rest) held same, slotAnswer_adjust adjusts, read_accept accepts,
    settleAdjust_acceptLead lead]
  refine ⟨?_, passes, took, stays⟩
  rw [grantLead_joins bus present, closeIfVain_stays (s := leadJoined c .extend n (v == 1) b _)
    (u := (s.heard rest).paidLead c n _) rfl rfl
    (by
      rintro (⟨-, hidden⟩ | ⟨advances, -⟩)
      · exact Bool.noConfusion (green.symm.trans hidden)
      · cases advances)] at leaves
  simp only [leadJoined, State.paidLead, accept_event codes, acceptedTotals_eq codes] at leaves
  exact leaves

end Sys2Proof.Machine
end

section
/-! SUPPORT. The acceptance of a follower, the answer to a REVISE and the late answer (R92, R96, R97, R105). -/

namespace Sys2Proof.Machine

/-! ### A rise of the grant's total (R92) -/

/-- The state whose grant has risen, before its trim test. -/
def State.raised (s : State) (g : Grant) (n : Nat) : State :=
  { s with planner := { s.planner with
      grant := some { g with total := g.total + n }, revise := dropNamed s.planner.revise g.id } }

theorem raiseTotal_eq {g : Grant} {s : State} (active : s.planner.grant = some g) (n : Nat) :
    raiseTotal n s = trimTest (s.raised g n) := by
  cases revise : s.planner.revise <;>
    simp only [raiseTotal, active, State.raised, State.onPlanner, dropNamed, revise, Option.bind_none, Option.bind_some]

theorem raiseTotal_free {s : State} (free : s.planner.grant = none) (n : Nat) : raiseTotal n s = s := by
  simp [raiseTotal, free]

theorem Blind.raiseTotal (n : Nat) : Blind (raiseTotal n) := by
  intro s latches out dropped notices
  cases active : s.planner.grant with
  | none => rw [raiseTotal_free active, raiseTotal_free (s := s.noticing latches out dropped) active]
  | some g =>
    rw [raiseTotal_eq active, raiseTotal_eq (s := s.noticing latches out dropped) active,
      ← Blind.trimTest _ latches out dropped notices]
    rfl

/-- A call for a revise touches the table, the grant and the pending revise (R104, R107). -/
theorem callRevise_eq (g : Grant) (n : Nat) (s : State) :
    callRevise g n s = { s with
      table := (callRevise g n s).table,
      planner := { s.planner with
        grant := (callRevise g n s).planner.grant, revise := (callRevise g n s).planner.revise } } := by
  unfold callRevise
  split
  · split
    · unfold closeGrant
      split <;> rfl
    · rfl
  · rfl

theorem trimTest_eq (s : State) :
    trimTest s = { s with
      table := (trimTest s).table,
      planner := { s.planner with grant := (trimTest s).planner.grant, revise := (trimTest s).planner.revise } } := by
  unfold trimTest
  split
  · split
    · dsimp only
      split
      · exact callRevise_eq _ _ s
      · rfl
    · rfl
  · rfl

/-! ### The acceptance of a follower (R92) -/

/-- The acceptance of a follower once the slot is empty and the reservation converted. -/
def grantFollower (c : Slot) (n : Nat) (s : State) : State :=
  let bus := c.bus.getD 0
  match s.planner.grant with
  | some g =>
    if g.id = c.grantId then
      if s.stillCommanded bus then
        raiseTotal n
          ((updateCommanded bus (Entry.join .follower n false) s).onGrant fun q => { q with members := q.members ++ [bus] })
      else raiseTotal n s
    else updateCommanded bus (fun e => { e.place .waiting (some .needsGreen) with applied := some n }) s
  | none => updateCommanded bus (fun e => { e.place .waiting (some .needsGreen) with applied := some n }) s

/-- The follower whose grant is still active, before the trim test. -/
def State.followed (s : State) (g : Grant) (n b : Nat) : State :=
  { s with
    planner := { s.planner with
      grant := some { g with
        total := g.total + n, members := if s.stands b .commanded then g.members ++ [b] else g.members },
      revise := dropNamed s.planner.revise g.id },
    table := s.table.map fun q => if q.bus = b ∧ q.state = .commanded then q.asGranted .follower n false else q }

theorem grantFollower_joins {c : Slot} {g : Grant} {b : Nat} {s : State} (nodup : (s.table.map Entry.bus).Nodup)
    (bus : c.bus = some b) (active : s.planner.grant = some g) (same : g.id = c.grantId) (n : Nat) :
    grantFollower c n s = trimTest (s.followed g n b) := by
  have still := stillCommanded_eq nodup b
  simp only [grantFollower, active, bus, Option.getD_some, if_pos same, still]
  cases stands : s.stands b .commanded with
  | true =>
    rw [if_pos rfl, updateCommanded_eq, raiseTotal_eq (g := { g with members := g.members ++ [b] })
      (by simp [State.onGrant, active])]
    simp only [State.followed, stands, if_true]
    rfl
  | false =>
    rw [if_neg (by simp), raiseTotal_eq active]
    simp only [State.followed, stands, map_absent stands, Bool.false_eq_true, if_false]
    rfl

theorem grantFollower_waits {c : Slot} {b : Nat} {s : State} (bus : c.bus = some b)
    (closed : ∀ g, s.planner.grant = some g → g.id ≠ c.grantId) (n : Nat) :
    grantFollower c n s = { s with table := s.table.map fun q =>
      if q.bus = b ∧ q.state = .commanded then { q.asWaiting .needsGreen with applied := some n } else q } := by
  have waits : grantFollower c n s =
      updateCommanded b (fun e => { e.place .waiting (some .needsGreen) with applied := some n }) s := by
    simp only [grantFollower, bus, Option.getD_some]
    split
    · next g active => rw [if_neg (closed g active)]
    · rfl
  rw [waits, updateCommanded_eq]
  rfl

theorem Blind.grantFollower (c : Slot) (n : Nat) : Blind (grantFollower c n) := by
  intro s latches out dropped notices
  have still : (s.noticing latches out dropped).stillCommanded = s.stillCommanded := rfl
  have waits := (Blind.updateCommanded (c.bus.getD 0)
    fun e => { e.place .waiting (some .needsGreen) with applied := some n }) s latches out dropped notices
  cases active : s.planner.grant with
  | none =>
    have held : (s.noticing latches out dropped).planner.grant = none := active
    simp only [Machine.grantFollower, active, held]
    exact waits
  | some g =>
    have held : (s.noticing latches out dropped).planner.grant = some g := active
    simp only [Machine.grantFollower, active, held, still]
    split
    · split
      · rw [← Blind.raiseTotal n _ latches out dropped notices]
        rfl
      · exact Blind.raiseTotal n s latches out dropped notices
    · exact waits

/-- The state in which an accepted follower is granted. -/
def State.paidFollower (s : State) (c : Slot) (n : Nat) (ev : AnswerEvent) : State :=
  { s with
    planner := { s.planner with slot := none, ledger := s.planner.ledger.convert n },
    stats := s.counted .answer ev.index (some (.port c.approach)),
    link := { s.link with outbound := removeUnsent c.tag s.link.outbound } }

/-- An accepted follower: the state but for latching, its latches and its pass. -/
theorem acceptFollower_leaves {c : Slot} {s : State} (held : s.planner.slot = some c) (n : Nat) (ev : AnswerEvent) :
    let t := triggerPass (acceptFollower c n (countAnswer ev (some c.approach) s))
    (s.mode ≠ .standby → s.planner.passRunning = false → t.planner.passDue = true) ∧ t.latchesStay s [] ∧
      t.sameButNotices { grantFollower c n (s.paidFollower c n ev) with
        planner := { (grantFollower c n (s.paidFollower c n ev)).planner with
          passDue := t.planner.passDue, passMark := t.planner.passMark } } := by
  intro t
  have emptied := (Blind.onLedger fun l => l.convert n).sameBut (answered_emptied held ev)
  refine ⟨triggerPass_passes ((passing_plain s).work.acceptFollower c n _
    ((passing_plain s).work.answerCounted _ _ _ ⟨rfl, rfl⟩)), ?_,
    triggerPass_sameBut ((Blind.grantFollower c n).sameBut emptied)⟩
  exact State.latchesStay_trans (Blind.latchesStay (Blind.triggerPass.comp ((Blind.grantFollower c n).comp
    ((Blind.onLedger fun l => l.convert n).comp Blind.emptySlot))) _ _) (countEvent_latchesStay _ _ _ _ _)

theorem settleAdjust_acceptFollower {c : Slot} (follower : c.role = .follower) (act : Action) (n : Nat) (part : Bool)
    (s : State) : settleAdjust c act (.accept n part) s = acceptFollower c n s := by
  simp [settleAdjust, follower]

/-! ### The answer to a REVISE (R105) -/

/-- The answer to a REVISE once the slot is empty. -/
def grantRevise (c : Slot) (v : VerdictCode) (s : State) : State :=
  match v with
  | .refuse => s
  | _ =>
    match s.planner.grant with
    | some g =>
      if g.id = c.grantId then
        if c.amount = 0 then closeGrant s
        else if g.state = .running then s.onGrant fun q => { q with total := c.amount }
        else s
      else s
    | none => s

theorem settleRevise_eq (c : Slot) (v : VerdictCode) (s : State) : settleRevise c v s = grantRevise c v (emptySlot s) := by
  cases v <;> rfl

theorem grantRevise_idle {c : Slot} {v : VerdictCode} {s : State}
    (idle : v = .refuse ∨ ∀ g, s.planner.grant = some g → g.id ≠ c.grantId) : grantRevise c v s = s := by
  rcases idle with rfl | closed
  · rfl
  · have none_named : (match s.planner.grant with
        | some g => if g.id = c.grantId then if c.amount = 0 then closeGrant s
          else if g.state = .running then s.onGrant fun q => { q with total := c.amount } else s else s
        | none => s) = s := by
      split
      · next g active => rw [if_neg (closed g active)]
      · rfl
    cases v with
    | refuse => rfl
    | accept => exact none_named
    | someGiven => exact none_named

theorem grantRevise_named {c : Slot} {v : VerdictCode} {g : Grant} {s : State} (taken : v ≠ .refuse)
    (active : s.planner.grant = some g) (same : g.id = c.grantId) :
    grantRevise c v s = if c.amount = 0 then closeGrant s
      else if g.state = .running then s.onGrant fun q => { q with total := c.amount } else s := by
  cases v with
  | refuse => exact absurd rfl taken
  | accept => simp only [grantRevise, active, if_pos same]
  | someGiven => simp only [grantRevise, active, if_pos same]

theorem Blind.grantRevise (c : Slot) (v : VerdictCode) : Blind (grantRevise c v) := by
  intro s latches out dropped notices
  by_cases idle : v = .refuse ∨ ∀ g, s.planner.grant = some g → g.id ≠ c.grantId
  · rw [grantRevise_idle idle, grantRevise_idle (s := s.noticing latches out dropped) idle]
  · simp only [not_or, not_forall, not_not] at idle
    obtain ⟨taken, g, active, same⟩ := idle
    rw [grantRevise_named taken active same, grantRevise_named (s := s.noticing latches out dropped) taken active same]
    split
    · exact Blind.closeGrant s latches out dropped notices
    · split <;> rfl

/-- The state in which the answer to a REVISE is acted on. -/
def State.answeredRevise (s : State) (c : Slot) (ev : AnswerEvent) : State :=
  { s with
    planner := { s.planner with slot := none },
    stats := s.counted .answer ev.index (some (.port c.approach)),
    link := { s.link with outbound := removeUnsent c.tag s.link.outbound } }

/-- An answered REVISE: the state but for latching, its latches and its pass. -/
theorem settleRevise_leaves {c : Slot} {s : State} (held : s.planner.slot = some c) (v : VerdictCode) :
    let t := triggerPass (settleRevise c v (countAnswer v.event (some c.approach) s))
    let u := s.answeredRevise c v.event
    (s.mode ≠ .standby → s.planner.passRunning = false → t.planner.passDue = true) ∧ t.latchesStay s [] ∧
      t.sameButNotices { grantRevise c v u with
        planner := { (grantRevise c v u).planner with
          passDue := t.planner.passDue, passMark := t.planner.passMark } } := by
  intro t u
  refine ⟨triggerPass_passes ((passing_plain s).work.settleRevise c v _
    ((passing_plain s).work.answerCounted _ _ _ ⟨rfl, rfl⟩)), ?_, ?_⟩
  · have settled : t.notices.latches = (countAnswer v.event (some c.approach) s).notices.latches := by
      simp only [t, settleRevise_eq]
      exact (Blind.triggerPass.comp ((Blind.grantRevise c v).comp Blind.emptySlot)).latches _
    exact State.latchesStay_trans (State.latchesStay_of_eq settled _) (countEvent_latchesStay _ _ _ _ _)
  · have settled := triggerPass_sameBut ((Blind.grantRevise c v).sameBut (answered_emptied held v.event))
    rw [← settleRevise_eq] at settled
    exact settled

end Sys2Proof.Machine
end

section
/-! SUPPORT. The late answer (R95 to R97), and the statement that joins every answer beyond a plain lead extension. -/

namespace Sys2Proof.Machine

/-! ### Whether a late acceptance is adopted (R96, R97) -/

theorem adoptsLead_iff {m : LostTag} {n : Nat} {s : State} (nodup : (s.table.map Entry.bus).Nodup) :
    s.adoptsLead m n = true ↔
      (s.mode = .run ∧ s.planner.slot = none ∧ n ≤ s.planner.ledger.timeLimit - s.planner.ledger.committed ∧
        s.stands m.bus .waiting = true) ∧ s.planner.grant = none ∧
        s.planner.ledger.leads < s.planner.ledger.grantLimit := by
  simp only [State.adoptsLead, lostWaits_eq nodup, Bool.and_eq_true, beq_iff_eq, decide_eq_true_eq,
    Option.isNone_iff_eq_none]
  rw [Ledger.remaining]
  tauto

theorem adoptsFollower_iff {m : LostTag} {n : Nat} {g : Grant} {s : State} (nodup : (s.table.map Entry.bus).Nodup)
    (active : s.planner.grant = some g) :
    s.adoptsFollower m n = true ↔
      (s.mode = .run ∧ s.planner.slot = none ∧ n ≤ s.planner.ledger.timeLimit - s.planner.ledger.committed ∧
        s.stands m.bus .waiting = true) ∧ g.id = m.grantId ∧ g.state = .running ∧
        g.total + n ≤ (s.config.phase g.phase).maxExtend ∧ g.members.length < 5 := by
  simp only [State.adoptsFollower, active, lostWaits_eq nodup, Bool.and_eq_true, beq_iff_eq, decide_eq_true_eq,
    Option.isNone_iff_eq_none]
  rw [Ledger.remaining]
  tauto

theorem adoptsFollower_free {m : LostTag} {n : Nat} {s : State} (free : s.planner.grant = none) :
    s.adoptsFollower m n = false := by
  simp [State.adoptsFollower, free]

/-! ### Adoption and revocation -/

/-- The adoption of a late lead once its time is charged and its token taken (R96). -/
def seatLead (m : LostTag) (n : Nat) (s : State) : State :=
  closeIfVain (updateEntry m.bus (Entry.adopt m n) (s.onPlanner fun p =>
    { p with grant := some (newGrant s m.tag m.action m.phase m.requested n m.approach false [m.bus]) }))

theorem adoptLead_eq (m : LostTag) (n : Nat) (s : State) :
    adoptLead m n s = seatLead m n (takeToken m.approach (s.onLedger fun l => l.charge n .lead)) := rfl

theorem Blind.seatLead (m : LostTag) (n : Nat) : Blind (seatLead m n) := by
  intro s latches out dropped notices
  unfold Machine.seatLead
  rw [← Blind.closeIfVain _ latches out dropped notices]
  rfl

/-- The adopted lead, before it is judged vain. -/
def seated (m : LostTag) (n : Nat) (s : State) : State :=
  { s with
    planner := { s.planner with
      grant := some (newGrant s m.tag m.action m.phase m.requested n m.approach false [m.bus]) },
    table := s.table.map fun q => if q.bus = m.bus then q.adopt m n else q }

theorem seatLead_eq (m : LostTag) (n : Nat) (s : State) : seatLead m n s = closeIfVain (seated m n s) := rfl

theorem seatLead_stays {m : LostTag} {s : State} (useful : ¬s.vain m.action m.phase) (n : Nat) :
    seatLead m n s = seated m n s :=
  (seatLead_eq m n s).trans (closeIfVain_stays (s := seated m n s) (u := s) rfl rfl useful)

theorem seatLead_closes {m : LostTag} {s : State} (vain : s.vain m.action m.phase) (free : s.planner.grant = none)
    (n : Nat) :
    seatLead m n s = { s with
      planner := { s.planner with revise := dropNamed s.planner.revise m.tag },
      table := s.table.map fun q =>
        if q.bus = m.bus then (q.adopt m n).asSpent s.now (m.action == .extend) else q } := by
  have ran : ((if m.action = .extend then GrantState.running else .armed) == .running) = (m.action == .extend) := by
    cases m.action <;> rfl
  rw [seatLead_eq, closeIfVain_closes (s := seated m n s) (u := s) rfl rfl vain,
    closeGrant_dropNamed (s := seated m n s) rfl]
  simp only [seated, newGrant, ran, List.map_map, List.mem_singleton, free]
  congr 1
  refine List.map_congr_left fun q _ => ?_
  have bus : (q.adopt m n).bus = q.bus := rfl
  by_cases same : q.bus = m.bus
  · simp [same, bus]
  · simp [same]

/-- The adoption of a late follower once its time is charged (R97). -/
theorem adoptFollower_eq {m : LostTag} {g : Grant} {s : State} (active : s.planner.grant = some g) (n : Nat) :
    adoptFollower m n s = trimTest { s with
      planner := { s.planner with
        grant := some { g with total := g.total + n, members := g.members ++ [m.bus] },
        revise := dropNamed s.planner.revise g.id,
        ledger := { s.planner.ledger with committed := s.planner.ledger.committed + n } },
      table := s.table.map fun q => if q.bus = m.bus then q.adopt m n else q } := by
  rw [adoptFollower, raiseTotal_eq (g := { g with members := g.members ++ [m.bus] })
    (by simp [State.onGrant, State.onLedger, updateEntry, active])]
  rfl

theorem Blind.adoptFollower (m : LostTag) (n : Nat) : Blind (adoptFollower m n) :=
  (Blind.raiseTotal n).comp ((Blind.onGrant _).comp ((Blind.updateEntry _ _).comp (.onLedger _)))

/-- The revise that takes a late acceptance back (R96, R97). -/
theorem revokeLate_eq (m : LostTag) (s : State) :
    revokeLate m s = { s with
      planner := { s.planner with
        revise := reviseAfter s.planner.revise
          { grantId := m.grantId, phase := m.phase, approach := m.approach, revoke := true,
            total := s.revokeTotal m } } } :=
  makePending_eq _ s

theorem Blind.revokeLate (m : LostTag) : Blind (revokeLate m) := fun s latches out dropped _ => by
  rw [revokeLate_eq, revokeLate_eq]
  rfl

/-! ### The late answer -/

/-- The state in which a late answer is judged: counted, the memory cleared. -/
def State.lateCounted (s : State) (x : Approach) : State :=
  { s with stats := s.counted .answer 4 (some (.port x)), planner := { s.planner with lost := none } }

/-- The answer counted, and the memory cleared. -/
def lateHeard (x : Approach) (s : State) : State :=
  (countAnswer .late (some x) s).onPlanner fun p => { p with lost := none }

theorem lateHeard_sameBut (x : Approach) (s : State) : (lateHeard x s).sameButNotices (s.lateCounted x) :=
  (Blind.onPlanner fun p => { p with lost := none }).sameBut (countAnswer_sameBut .late x s)

/-- Latching neither reads nor writes the planner. -/
theorem latchNotice_planner_comm (l : Latch) (d : Nat) (s : State) (p : Planner) :
    { latchNotice l d s with planner := p } = latchNotice l d { s with planner := p } := by
  unfold latchNotice
  simp only
  split
  · rfl
  · split
    · unfold offerNotice
      simp only
      split <;> rfl
    · rfl

theorem latchNotice_onPlanner (l : Latch) (d : Nat) (f : Planner → Planner) (s : State) :
    (latchNotice l d s).onPlanner f = latchNotice l d (s.onPlanner f) := by
  rw [State.onPlanner, latchNotice_planner, latchNotice_planner_comm]
  rfl

theorem lateHeard_saturation (x : Approach) (s : State) : (lateHeard x s).sameButSaturation (s.lateCounted x) := by
  rcases addToCounters_saturation _ s with same | ⟨i, c, held, full, same⟩
  · exact .inl (congrArg (fun t : State => t.onPlanner fun p => { p with lost := none }) same)
  · refine .inr ⟨i, c, held, full, ?_⟩
    exact (congrArg (fun t : State => t.onPlanner fun p => { p with lost := none }) same).trans
      (latchNotice_onPlanner _ _ _ _)

theorem matchAnswer_lost {a : Answer} {m : LostTag} {s : State} (slot : ∀ c, s.planner.slot = some c → c.tag ≠ a.tag)
    (held : s.planner.lost = some m) (tag : m.tag = a.tag) : matchAnswer a s = lateAnswer m a s := by
  unfold matchAnswer
  split
  · next c active =>
    rw [if_neg (slot c active), held]
    simp only [if_pos tag]
  · rw [held]
    simp only [if_pos tag]

/-- Whether a late acceptance of `n` is adopted (R96, R97). -/
def State.adopts (s : State) (m : LostTag) (n : Nat) : Bool :=
  match m.role with
  | .lead => s.adoptsLead m n
  | .follower => s.adoptsFollower m n

/-- What a late acceptance of `n` does before its notice (R96, R97). -/
def settleLate (m : LostTag) (n : Nat) (s : State) : State :=
  match m.role with
  | .lead => if s.adoptsLead m n then adoptLead m n s else revokeLate m s
  | .follower => if s.adoptsFollower m n then adoptFollower m n s else revokeLate m s

theorem lateAnswer_accept {m : LostTag} {a : Answer} {n : Nat} {part : Bool} (accepts : a.read m.requested = .accept n part)
    (s : State) : lateAnswer m a s = triggerPass (latchNotice .lateAccept
      (if (lateHeard m.approach s).adopts m n then 0 else 1) (settleLate m n (lateHeard m.approach s))) := by
  cases role : m.role with
  | lead =>
    simp only [lateAnswer, accepts, settleLate, State.adopts, role, lateHeard]
    split
    · next adopted => simp only [adopted, if_true]
    · next other => simp only [other, if_false, Bool.false_eq_true]
  | follower =>
    simp only [lateAnswer, accepts, settleLate, State.adopts, role, lateHeard]
    split
    · next adopted => simp only [adopted, if_true]
    · next other => simp only [other, if_false, Bool.false_eq_true]

theorem lateAnswer_refuse {m : LostTag} {a : Answer} {firm : Bool} (refuses : a.read m.requested = .refuse firm) (s : State) :
    lateAnswer m a s = lateHeard m.approach s := by
  simp only [lateAnswer, refuses]
  rfl

/-- Adoption looks at nothing that latching changes. -/
theorem adopts_of_sameBut {t base : State} (h : t.sameButNotices base) (m : LostTag) (n : Nat) :
    t.adopts m n = base.adopts m n := by
  obtain ⟨_, _, _, rfl, _, _⟩ := h
  rfl

theorem settleLate_passing {s : State} (m : LostTag) (n : Nat) :
    (settleLate m n (lateHeard m.approach s)).mode = s.mode ∧
      (settleLate m n (lateHeard m.approach s)).planner.passRunning = s.planner.passRunning := by
  have K := (passing_plain s).work
  have heard : (lateHeard m.approach s).mode = s.mode ∧
      (lateHeard m.approach s).planner.passRunning = s.planner.passRunning := by
    simp [lateHeard, countAnswer]
  unfold settleLate
  split
  · split
    · next adopted => exact K.adoptLead trivial adopted heard
    · exact K.revokeLate m _ heard
  · split
    · next adopted => exact K.adoptFollower adopted heard
    · exact K.revokeLate m _ heard

/-- The end of a late acceptance: its notice and its pass, behind what it settles (R96, R97). -/
theorem late_ends {u s base : State} {but : List Latch} (settled : u.sameButNotices base) (stays : u.latchesStay s but)
    (other : Latch.lateAccept ∉ but) (now : u.now = s.now) (detail : Nat) :
    let t := triggerPass (latchNotice .lateAccept detail u)
    t.sameButNotices { base with planner := { base.planner with
        passDue := t.planner.passDue, passMark := t.planner.passMark } } ∧
      t.notices.latches.lateAccept = setOnce s.notices.latches.lateAccept detail s.now ∧
      t.latchesStay s (.lateAccept :: but) ∧
      ∀ l, l ≠ .lateAccept → t.notices.latches.get l = u.notices.latches.get l := by
  intro t
  have ended : t.notices.latches = (latchNotice .lateAccept detail u).notices.latches := Blind.triggerPass.latches _
  refine ⟨triggerPass_sameBut (State.sameButNotices_trans (latchNotice_sameBut _ _ _) settled), ?_, ?_,
    fun l differs => by rw [ended, latchNotice_get_other differs]⟩
  · have latch : u.notices.latches.lateAccept = s.notices.latches.lateAccept :=
      stays .lateAccept (by decide) (by decide) other
    rw [ended, ← latch, ← now]
    exact latchNotice_get_same .lateAccept detail u
  · exact State.latchesStay_trans (State.latchesStay_of_eq ended _) (State.latchesStay_trans
      (State.latchesStay_weaken (latchNotice_latchesStay _ _ _) (by simp))
      (State.latchesStay_weaken stays fun _ => List.mem_cons_of_mem _))

theorem lateHeard_latchesStay (x : Approach) (s : State) : (lateHeard x s).latchesStay s [] :=
  countEvent_latchesStay .answer 4 (some (.port x)) s []

/-- The state in which an adopted late lead is granted: its time charged and its token taken (R96). -/
def State.chargedLead (s : State) (m : LostTag) (n : Nat) : State :=
  { s with planner := { s.planner with
      ledger := s.planner.ledger.charge n .lead,
      tokens := s.planner.tokens.set m.approach (s.planner.tokens.get m.approach - 1) } }

/-- An adopted late lead: the state but for latching, its latches and its time. -/
theorem settleLate_lead {m : LostTag} {n : Nat} {s : State} (lead : m.role = .lead)
    (adopted : (lateHeard m.approach s).adopts m n = true) :
    let u := settleLate m n (lateHeard m.approach s)
    u.sameButNotices (seatLead m n ((s.lateCounted m.approach).chargedLead m n)) ∧
      u.latchesStay s [.tokensExhausted m.approach] ∧ u.tookToken s m.approach ∧ u.now = s.now := by
  have adopts : (lateHeard m.approach s).adoptsLead m n = true := by simpa [State.adopts, lead] using adopted
  have settled : settleLate m n (lateHeard m.approach s) =
      seatLead m n (takeToken m.approach ((lateHeard m.approach s).onLedger fun l => l.charge n .lead)) := by
    simp only [settleLate, lead, adopts, if_true, adoptLead_eq]
  rw [settled]
  obtain ⟨took, stays⟩ := takeToken_tookToken (x := m.approach) (s := s)
    (u := (lateHeard m.approach s).onLedger fun l => l.charge n .lead)
    (by simp [State.onLedger, lateHeard, countAnswer]) (by simp [State.onLedger, lateHeard, countAnswer])
    (lateHeard_latchesStay _ _)
  have latches := (Blind.seatLead m n).latches
    (takeToken m.approach ((lateHeard m.approach s).onLedger fun l => l.charge n .lead))
  refine ⟨(Blind.seatLead m n).sameBut (takeToken_sameBut ((Blind.onLedger fun l => l.charge n .lead).sameBut
    (lateHeard_sameBut _ _))), State.latchesStay_trans (State.latchesStay_of_eq latches _) stays, ?_, ?_⟩
  · rw [State.tookToken, latches]
    exact took
  · simp [seatLead, State.onLedger, lateHeard, countAnswer]

/-- An adopted late follower. -/
theorem settleLate_follower {m : LostTag} {n : Nat} {s : State} (follower : m.role = .follower)
    (adopted : (lateHeard m.approach s).adopts m n = true) :
    let u := settleLate m n (lateHeard m.approach s)
    u.sameButNotices (adoptFollower m n (s.lateCounted m.approach)) ∧ u.latchesStay s [] ∧ u.now = s.now := by
  have adopts : (lateHeard m.approach s).adoptsFollower m n = true := by simpa [State.adopts, follower] using adopted
  have settled : settleLate m n (lateHeard m.approach s) = adoptFollower m n (lateHeard m.approach s) := by
    simp only [settleLate, follower, adopts, if_true]
  rw [settled]
  refine ⟨(Blind.adoptFollower m n).sameBut (lateHeard_sameBut _ _), State.latchesStay_trans
    (Blind.latchesStay (Blind.adoptFollower m n) _ _) (lateHeard_latchesStay _ _), ?_⟩
  simp [adoptFollower, State.onLedger, State.onGrant, lateHeard, countAnswer]

/-- A revoked late acceptance. -/
theorem settleLate_revoked {m : LostTag} {n : Nat} {s : State}
    (refused : (lateHeard m.approach s).adopts m n = false) :
    let u := settleLate m n (lateHeard m.approach s)
    u.sameButNotices (revokeLate m (s.lateCounted m.approach)) ∧ u.latchesStay s [] ∧ u.now = s.now := by
  have settled : settleLate m n (lateHeard m.approach s) = revokeLate m (lateHeard m.approach s) := by
    cases role : m.role <;> simp_all [settleLate, State.adopts]
  rw [settled]
  refine ⟨(Blind.revokeLate m).sameBut (lateHeard_sameBut _ _), State.latchesStay_trans
    (Blind.latchesStay (Blind.revokeLate m) _ _) (lateHeard_latchesStay _ _), ?_⟩
  simp [revokeLate, lateHeard, countAnswer]

end Sys2Proof.Machine
end

section
/-! SUPPORT. Every answer beyond a plain lead extension and a refusal, joined. -/

namespace Sys2Proof.Machine

/-- A state that is a trimmed one but for latching and the marks of a pass, in the terms of the statement (R103). -/
theorem trimmed_leaves {t raised : State} {g : Grant} (active : raised.planner.grant = some g)
    (leaves : t.sameButNotices { trimTest raised with planner := { (trimTest raised).planner with
      passDue := t.planner.passDue, passMark := t.planner.passMark } }) :
    raised.trims g t.table t.planner.grant t.planner.revise ∧
      t.sameButNotices { raised with
        table := t.table,
        planner := { raised.planner with
          passDue := t.planner.passDue, passMark := t.planner.passMark, grant := t.planner.grant,
          revise := t.planner.revise } } := by
  have trims := trimTest_trims active
  have table : t.table = (trimTest raised).table := (sameButNotices_table leaves).trans rfl
  have planner := sameButNotices_planner leaves
  have grant : t.planner.grant = (trimTest raised).planner.grant := (congrArg Planner.grant planner).trans rfl
  have revise : t.planner.revise = (trimTest raised).planner.revise := (congrArg Planner.revise planner).trans rfl
  rw [← table, ← grant, ← revise] at trims
  refine ⟨trims, ?_⟩
  rw [trimTest_eq raised] at leaves
  simp only [← table, ← grant, ← revise] at leaves
  exact leaves

theorem slotAnswer_revise {c : Slot} (revises : c.action = .revise) (a : Answer) (s : State) :
    slotAnswer c a s = triggerPass (settleRevise c a.verdict (countAnswer a.verdict.event (some c.approach) s)) := by
  simp [slotAnswer, revises]

theorem octet_le_two {v : Octet} (few : v.toNat ≤ 2) : v = 0 ∨ v = 1 ∨ v = 2 := by
  obtain code | code | code : v.toNat = 0 ∨ v.toNat = 1 ∨ v.toNat = 2 := by omega
  all_goals simp [eq_ofNat_of_toNat code]

theorem verdictOf_event {v : Octet} (few : v.toNat ≤ 2) : (verdictOf v).event.index = v.toNat := by
  rcases octet_le_two few with rfl | rfl | rfl <;> rfl

theorem verdictOf_refuse {v : Octet} (few : v.toNat ≤ 2) : verdictOf v = .refuse ↔ v = 2 := by
  rcases octet_le_two few with rfl | rfl | rfl <;> decide

/-- Settles O27: an answer is counted, settles the slot or the lost tag memory, and triggers its pass. -/
theorem acceptancesRevisesAndLateAnswers : Obligations.AcceptancesRevisesAndLateAnswers := by
  unfold Obligations.AcceptancesRevisesAndLateAnswers
  intro f rest tag v hi lo r s hears body few reason nodup given accepts passes marked kept withdrawn stands vain created
  have row := exec_commandAnswer_answerOf hears body few reason
  have named : ∀ wanted n, accepts wanted n → v = 0 ∨ v = 1 := fun _ _ h => h.imp And.left And.left
  have withdraws : ∀ c, s.planner.slot = some c → removeUnsent c.tag (s.heard rest).link.outbound = kept :=
    fun c held => by
      simp only [kept, held]
      rfl
  refine ⟨fun c act b n held same adjusts bus taken => ⟨fun lead => ?_, fun follower => ⟨fun g active same' => ?_,
    fun closed => ?_⟩⟩, fun c held same revises => ?_, fun m slot lost tagged => ?_⟩
  · have codes := named _ _ taken
    obtain ⟨due, stays, took, leaves⟩ := acceptLead_leaves (s := s.heard rest) held act n (v == 1)
      (Verdict.accept n (v == 1)).event
    rw [matchAnswer_slot (s := s.heard rest) held same, slotAnswer_adjust adjusts, read_accept taken,
      settleAdjust_acceptLead lead] at row
    have linked := withdraws c held
    refine ⟨_, row, due, stays, took, fun useful => ?_, fun idle => ?_⟩
    · rw [grantLead_stays (s := (s.heard rest).paidLead c n _) nodup bus useful] at leaves
      simp only [State.paidLead, accept_event codes, acceptedTotals_eq codes, linked] at leaves
      exact leaves
    · rw [grantLead_closes (s := (s.heard rest).paidLead c n _) nodup bus idle] at leaves
      simp only [State.paidLead, accept_event codes, acceptedTotals_eq codes, linked] at leaves
      exact leaves
  · have codes := named _ _ taken
    obtain ⟨due, stays, leaves⟩ := acceptFollower_leaves (s := s.heard rest) held n (Verdict.accept n (v == 1)).event
    rw [matchAnswer_slot (s := s.heard rest) held same, slotAnswer_adjust adjusts, read_accept taken,
      settleAdjust_acceptFollower follower] at row
    have linked := withdraws c held
    rw [grantFollower_joins (s := (s.heard rest).paidFollower c n _) nodup bus active same'] at leaves
    refine ⟨_, row, due, stays, ?_⟩
    have trimmed := trimmed_leaves (raised := ((s.heard rest).paidFollower c n _).followed g n b) rfl leaves
    simp only [State.followed, State.paidFollower, accept_event codes, linked] at trimmed
    exact trimmed
  · have codes := named _ _ taken
    obtain ⟨due, stays, leaves⟩ := acceptFollower_leaves (s := s.heard rest) held n (Verdict.accept n (v == 1)).event
    rw [matchAnswer_slot (s := s.heard rest) held same, slotAnswer_adjust adjusts, read_accept taken,
      settleAdjust_acceptFollower follower] at row
    have linked := withdraws c held
    refine ⟨_, row, due, stays, ?_⟩
    rw [grantFollower_waits (s := (s.heard rest).paidFollower c n _) bus closed] at leaves
    simp only [State.paidFollower, accept_event codes, linked] at leaves
    exact leaves
  · obtain ⟨due, stays, leaves⟩ := settleRevise_leaves (s := s.heard rest) held (verdictOf v)
    rw [matchAnswer_slot (s := s.heard rest) held same, slotAnswer_revise revises] at row
    have linked := withdraws c held
    refine ⟨_, row, due, stays, fun idle => ?_, fun g taken active same' => ⟨fun nothing => ?_, fun some' running => ?_,
      fun some' armed => ?_⟩⟩
    · rw [grantRevise_idle (s := (s.heard rest).answeredRevise c _) (idle.imp (verdictOf_refuse few).2 id)] at leaves
      simp only [State.answeredRevise, verdictOf_event few, linked] at leaves
      exact leaves
    all_goals
      rw [grantRevise_named (s := (s.heard rest).answeredRevise c _) (mt (verdictOf_refuse few).1 taken) active same']
        at leaves
    · rw [if_pos nothing, closeGrant_dropNamed (s := (s.heard rest).answeredRevise c _) active] at leaves
      simp only [State.answeredRevise, verdictOf_event few, linked] at leaves
      exact leaves
    · have active' : ((s.heard rest).answeredRevise c (verdictOf v).event).planner.grant = some g := active
      rw [if_neg some', if_pos running, State.onGrant, State.onPlanner, active'] at leaves
      simp only [State.answeredRevise, verdictOf_event few, linked] at leaves
      exact leaves
    · rw [if_neg some', if_neg (by simp [armed])] at leaves
      simp only [State.answeredRevise, verdictOf_event few, linked] at leaves
      exact leaves
  · rw [matchAnswer_lost (a := answerOf tag v hi lo r) (s := s.heard rest) slot lost tagged] at row
    refine ⟨fun refuses => ?_, fun n taken => ?_⟩
    · rw [lateAnswer_refuse (read_refuse refuses _)] at row
      exact ⟨_, row, lateHeard_saturation m.approach (s.heard rest)⟩
    · rw [lateAnswer_accept (read_accept taken)] at row
      have due : passes _ := triggerPass_passes (s := s.heard rest) (t := latchNotice .lateAccept
        (if (lateHeard m.approach (s.heard rest)).adopts m n then 0 else 1)
        (settleLate m n (lateHeard m.approach (s.heard rest)))) (by simpa using settleLate_passing m n)
      have judged := adopts_of_sameBut (lateHeard_sameBut m.approach (s.heard rest)) m n
      refine ⟨fun leads => ?_, fun g active follows => ?_, fun notLeads notFollows => ?_⟩
      · obtain ⟨ready, lead, free, few'⟩ := leads
        have adopted : (lateHeard m.approach (s.heard rest)).adopts m n = true := by
          rw [judged, State.adopts, lead]
          exact (adoptsLead_iff (s := (s.heard rest).lateCounted m.approach) nodup).2 ⟨ready, free, few'⟩
        obtain ⟨settled, stays, took, now⟩ := settleLate_lead lead adopted
        obtain ⟨leaves, latch, others, same⟩ := late_ends settled stays (by simp) now 0
        rw [if_pos adopted] at row due
        refine ⟨_, row, due, ⟨latch, others⟩, ?_, fun useful => ?_, fun idle => ?_⟩
        · exact (same (.tokensExhausted m.approach) (by simp)).trans took
        · rw [seatLead_stays (s := ((s.heard rest).lateCounted m.approach).chargedLead m n) useful] at leaves
          exact leaves
        · rw [seatLead_closes (s := ((s.heard rest).lateCounted m.approach).chargedLead m n) idle free] at leaves
          exact leaves
      · obtain ⟨ready, follower, named', running, room, few'⟩ := follows
        have adopted : (lateHeard m.approach (s.heard rest)).adopts m n = true := by
          rw [judged, State.adopts, follower]
          exact (adoptsFollower_iff (s := (s.heard rest).lateCounted m.approach) nodup active).2
            ⟨ready, named', running, room, few'⟩
        obtain ⟨settled, stays, now⟩ := settleLate_follower follower adopted
        obtain ⟨leaves, latch, others, -⟩ := late_ends settled stays (by simp) now 0
        rw [if_pos adopted] at row due
        rw [adoptFollower_eq (s := (s.heard rest).lateCounted m.approach) active] at leaves
        refine ⟨_, row, due, ⟨latch, State.latchesStay_weaken others (by simp)⟩, ?_, ?_⟩
        · exact others (.tokensExhausted m.approach) (by cases m.approach <;> decide) (by simp) (by simp)
        · exact trimmed_leaves rfl leaves
      · have refused : (lateHeard m.approach (s.heard rest)).adopts m n = false := by
          rw [judged, Bool.eq_false_iff]
          intro adopted
          cases role : m.role with
          | lead =>
            rw [State.adopts, role] at adopted
            obtain ⟨ready, free, few'⟩ := (adoptsLead_iff (s := (s.heard rest).lateCounted m.approach) nodup).1 adopted
            exact notLeads ⟨ready, role, free, few'⟩
          | follower =>
            rw [State.adopts, role] at adopted
            cases active : s.planner.grant with
            | none =>
              have free := adoptsFollower_free (m := m) (n := n) (s := (s.heard rest).lateCounted m.approach) active
              exact Bool.noConfusion (free.symm.trans adopted)
            | some g =>
              obtain ⟨ready, kept'⟩ := (adoptsFollower_iff (s := (s.heard rest).lateCounted m.approach) nodup active).1
                adopted
              exact notFollows g active ⟨ready, role, kept'⟩
        obtain ⟨settled, stays, now⟩ := settleLate_revoked refused
        obtain ⟨leaves, latch, others, -⟩ := late_ends settled stays (by simp) now 1
        rw [if_neg (by simp [refused])] at row due
        rw [revokeLate_eq] at leaves
        refine ⟨_, row, due, ⟨latch, State.latchesStay_weaken others (by simp)⟩, ?_, ?_⟩
        · exact others (.tokensExhausted m.approach) (by cases m.approach <;> decide) (by simp) (by simp)
        · exact leaves

end Sys2Proof.Machine
end

section
/-! SUPPORT. The exit of an entry (R19): what its departure, its record, the cache and its pass leave; and the telegrams
of unknown buses that are not admitted. -/

namespace Sys2Proof.Machine

/-! ### The outcome buffer (R159) -/

/-- A record of an entry holds what Table 9-1 gives (R157). -/
theorem outcomeRecord_isOf (e : Entry) (code : OutcomeCode) (now : PartTime) (byOut : Bool) :
    (outcomeRecord e code now byOut).isOf e code now :=
  ⟨rfl, rfl, rfl, rfl, rfl, rfl, rfl, rfl, rfl, rfl, rfl, rfl, rfl, rfl, rfl, rfl, rfl, rfl, rfl⟩

/-- What the arrival of a record leaves (R159). -/
theorem outcomeArrives_tookRecord (r : OutcomeRecord) (s : State) : (outcomeArrives r s).tookRecord s r := by
  unfold State.tookRecord outcomeArrives
  dsimp only
  refine ⟨fun room => ?_, fun full => ?_⟩
  · rw [if_pos room]
    by_cases crosses : s.outcomes.records.length < s.config.general.outcomeThreshold ∧
        s.config.general.outcomeThreshold ≤ s.outcomes.records.length + 1
    · rw [if_pos (by simpa using crosses), if_pos crosses]
      exact ⟨by simp, latchNotice_get_other (l := .outcomesWaiting) (k := .outcomeOverrun) (by simp) _ _,
        latchNotice_get_same .outcomesWaiting _ _⟩
    · rw [if_neg (by simpa using crosses), if_neg crosses]
      exact ⟨rfl, rfl, rfl⟩
  · rw [if_neg (Nat.not_lt.2 full)]
    refine ⟨by simp [tally16], fun wrap => by simp [wrap], fun stop => by simp [stop],
      latchNotice_get_other (l := .outcomeOverrun) (k := .outcomesWaiting) (by simp) _ _, ?_⟩
    have latched := latchNotice_get_same .outcomeOverrun
      (match s.config.general.outcomeMode with
        | .wrap => s.outcomes.records.tail ++ [r]
        | .stop => s.outcomes.records).length
      { s with outcomes := { records := (match s.config.general.outcomeMode with
        | .wrap => s.outcomes.records.tail ++ [r]
        | .stop => s.outcomes.records), lost := tally16 s.outcomes.lost } }
    simp only [latchNotice_outcomes]
    exact latched

/-- The arrival of a record sets no latch but the two of the outcome buffer. -/
theorem outcomeArrives_latchesStay (r : OutcomeRecord) (s : State) :
    (outcomeArrives r s).latchesStay s [.outcomesWaiting, .outcomeOverrun] := by
  unfold outcomeArrives
  dsimp only
  split
  · split
    · exact State.latchesStay_weaken (latchNotice_latchesStay _ _ _) (by simp)
    · exact State.latchesStay_of_eq rfl _
  · exact State.latchesStay_weaken (latchNotice_latchesStay _ _ _) (by simp)

/-- What a record's arrival leaves is said of the buffer and of two latches alone. -/
theorem tookRecord_of_eq {u v s t : State} {r : OutcomeRecord} (took : v.tookRecord s r) (outcomes : u.outcomes = v.outcomes)
    (waiting : u.notices.latches.outcomesWaiting = v.notices.latches.outcomesWaiting)
    (overrun : u.notices.latches.outcomeOverrun = v.notices.latches.outcomeOverrun) (before : t.outcomes = s.outcomes)
    (config : t.config = s.config) (notices : t.notices.latches = s.notices.latches) (now : t.now = s.now) :
    u.tookRecord t r := by
  unfold State.tookRecord at took ⊢
  rw [outcomes, waiting, overrun, before, config, notices, now]
  exact took

/-! ### The recent bus cache (R18) -/

/-- Of the entries of the cache, the oldest is replaced, the first written among equals. -/
theorem oldestCached_eq {now : PartTime} {old : CacheEntry} {back : List CacheEntry}
    (younger : ∀ c ∈ back, (now - c.time).toNat ≤ (now - old.time).toNat) : ∀ {front : List CacheEntry},
    (∀ c ∈ front, (now - c.time).toNat < (now - old.time).toNat) → oldestCached now (front ++ old :: back) = some old
  | [], _ => by
    rw [List.nil_append, oldestCached]
    split
    · rfl
    · next d rest => exact if_pos (younger d (oldestCached_mem rest))
  | c :: front, older => by
    rw [List.cons_append, oldestCached, oldestCached_eq younger fun q mem => older q (List.mem_cons_of_mem _ mem)]
    exact if_neg (Nat.not_le.2 (older c List.mem_cons_self))

/-- What the entering of a bus leaves in the cache (R18). -/
theorem cacheBus_caches (b : Nat) (x : Approach) (s : State) : s.caches b x (cacheBus b x s).cache := by
  have held : (s.cache.filter fun c => c.bus != b).length < s.cache.length ↔ ∃ c ∈ s.cache, c.bus = b := by
    rw [List.length_filter_lt_length_iff_exists]
    simp
  refine ⟨fun room => ?_, fun front old back cache full nodup absent older younger => ?_⟩
  · simp only [cacheBus, Bool.or_eq_true, decide_eq_true_eq]
    rw [if_pos (room.imp_left held.2)]
  · have others : (s.cache.filter fun c => c.bus != b) = s.cache := List.filter_eq_self.2 fun c mem => by simp [absent c mem]
    have distinct : ∀ c ∈ front ++ back, c.bus ≠ old.bus := by
      rw [cache] at nodup
      simp only [List.map_append, List.map_cons, List.nodup_append, List.nodup_cons, List.mem_map, List.mem_cons] at nodup
      obtain ⟨-, ⟨notBack, -⟩, apart⟩ := nodup
      intro c mem
      rcases List.mem_append.1 mem with inFront | inBack
      · exact apart c.bus ⟨c, inFront, rfl⟩ old.bus (.inl rfl)
      · exact fun same => notBack ⟨c, inBack, same⟩
    simp only [cacheBus, others, Nat.lt_irrefl, decide_false, Bool.false_or, decide_eq_true_eq]
    rw [if_neg (Nat.not_lt.2 full), cache, oldestCached_eq younger older]
    simp only [List.filter_append, List.filter_cons, bne_self_eq_false, Bool.false_eq_true, if_false]
    rw [← List.filter_append, List.filter_eq_self.2 fun c mem => by simp [distinct c mem]]

/-- A bus that has entered the cache is found there (R18). -/
theorem cacheBus_findCached (b : Nat) (x : Approach) (s : State) :
    (cacheBus b x s).findCached b = some { bus := b, approach := x, time := s.now } := by
  have apart : ∀ c ∈ s.cache.filter fun c => c.bus != b, ¬(c.bus == b) = true := by
    intro c mem
    rw [List.mem_filter] at mem
    simpa using mem.2
  unfold State.findCached cacheBus
  dsimp only
  rw [List.find?_append, List.find?_eq_none.2]
  · simp
  · intro c mem
    split at mem
    · exact apart c mem
    · split at mem
      · exact apart c (List.mem_filter.1 mem).1
      · exact apart c mem

theorem cacheBus_of_eq {s t : State} (cache : t.cache = s.cache) (now : t.now = s.now) (b : Nat) (x : Approach) :
    (cacheBus b x t).cache = (cacheBus b x s).cache := by
  simp only [cacheBus, cache, now]

/-! ### The exit procedure (R19) -/

theorem leaveTable_table (e : Entry) (code : OutcomeCode) (byOut toCache : Bool) (s : State) :
    (leaveTable e code byOut toCache s).table = (tellDeparture e s).table.filter fun q => q.bus != e.bus := by
  unfold leaveTable
  dsimp only
  split <;> simp [removeEntry]

/-- The pass trigger behind an exit, without the marks it moves. -/
theorem leaveTable_exchange (e : Entry) (code : OutcomeCode) (byOut toCache : Bool) (s : State) :
    (leaveTable e code byOut toCache s).planner.grant = (tellDeparture e s).planner.grant ∧
      (leaveTable e code byOut toCache s).planner.revise = (tellDeparture e s).planner.revise := by
  unfold leaveTable
  dsimp only
  constructor <;> rw [triggerPass_planner_frame] <;> split <;> simp

/-- An exit's reports: those of its record and of its CLOSE. -/
theorem leaveTable_reports (e : Entry) (code : OutcomeCode) (byOut toCache : Bool) (s : State) :
    (leaveTable e code byOut toCache s).outcomes =
        (outcomeArrives (outcomeRecord e code s.now byOut) (tellDeparture e s)).outcomes ∧
      (leaveTable e code byOut toCache s).latchesStay
        (outcomeArrives (outcomeRecord e code s.now byOut) (tellDeparture e s)) [] := by
  unfold leaveTable
  dsimp only
  rw [tellDeparture_now]
  refine ⟨by split <;> simp, State.latchesStay_trans (State.latchesStay_of_eq ?_ _)
    (countEvent_latchesStay .close code.code (some (.port e.approach)) _ _)⟩
  rw [Blind.triggerPass.latches]
  split <;> rfl

/-- The whole of an exit: table, grant, record, latches, cache and pass (R19, R102, R159, R18). -/
theorem leaveTable_leaves (e : Entry) (code : OutcomeCode) (byOut toCache : Bool) (s : State) :
    let u := leaveTable e code byOut toCache s
    u.table.map Entry.bus = (s.table.map Entry.bus).filter (fun b => b != e.bus) ∧
      u.tookRecord s (outcomeRecord e code s.now byOut) ∧ s.departs e u.table u.planner.grant u.planner.revise ∧
      u.latchesStay s [.outcomesWaiting, .outcomeOverrun] ∧
      (s.mode ≠ .standby → s.planner.passRunning = false → u.planner.passDue = true) ∧
      (e.state ≠ .granted →
        u.table = s.table.filter (fun q => q.bus != e.bus) ∧ u.planner.grant = s.planner.grant ∧
        u.planner.revise = s.planner.revise) ∧
      u.sameButNotices { s with
        stats := s.counted .close code.code (some (.port e.approach)), table := u.table, cache := u.cache,
        outcomes := u.outcomes,
        planner := { s.planner with
          grant := u.planner.grant, revise := u.planner.revise, passDue := u.planner.passDue,
          passMark := u.planner.passMark } } := by
  intro u
  have table := leaveTable_table e code byOut toCache s
  obtain ⟨grant, revise⟩ := leaveTable_exchange e code byOut toCache s
  obtain ⟨outcomes, reports⟩ := leaveTable_reports e code byOut toCache s
  have departs := tellDeparture_departs e s
  rw [← table, ← grant, ← revise] at departs
  refine ⟨leaveTable_buses e code byOut toCache s, ?_, departs, ?_, ?_, fun other => departs.1 (.inl other), ?_⟩
  · exact tookRecord_of_eq (outcomeArrives_tookRecord (outcomeRecord e code s.now byOut) (tellDeparture e s)) outcomes
      (reports .outcomesWaiting (by decide) (by simp) (by simp)) (reports .outcomeOverrun (by decide) (by simp) (by simp))
      (by simp) (by simp) (by simp) (by simp)
  · exact State.latchesStay_trans (State.latchesStay_weaken reports (by simp))
      (State.latchesStay_trans (outcomeArrives_latchesStay _ _) (State.latchesStay_of_eq (by simp) _))
  · have told := (passing_plain s).work.tellDeparture e s ⟨rfl, rfl⟩
    obtain ⟨-, running⟩ := told
    refine triggerPass_passes (s := s) ?_
    split <;> simp [running]
  · have frame := leaveTable_frame e code byOut toCache s u rfl
    have stats : u.stats = s.counted .close code.code (some (.port e.approach)) := by
      simp only [u, leaveTable]
      split <;> simp [countEvent_stats, State.counted]
    have counters := congrArg Statistics.counters stats
    unfold State.sameButReports at frame
    rw [counters] at frame
    exact frame

/-- The cache behind an exit that enters it (R18). -/
theorem leaveTable_cached (e : Entry) (code : OutcomeCode) (byOut : Bool) (s : State) :
    s.caches e.bus e.approach (leaveTable e code byOut true s).cache ∧
      (leaveTable e code byOut true s).findCached e.bus = some { bus := e.bus, approach := e.approach, time := s.now } := by
  have cache : (leaveTable e code byOut true s).cache = (cacheBus e.bus e.approach s).cache := by
    simp only [leaveTable, if_true, triggerPass_cache]
    exact cacheBus_of_eq (by simp) (by simp) _ _
  refine ⟨cache ▸ cacheBus_caches e.bus e.approach s, ?_⟩
  rw [State.findCached, cache]
  exact cacheBus_findCached e.bus e.approach s

/-! ### Telegrams and commands that take an entry out -/

theorem takeKnown_checkOut {t : Telegram} {e : Entry} {s : State} (same : t.approach = e.approach)
    (newer : 1 ≤ sequenceDifference t.seq e.seq) (fresh : sequenceDifference t.seq e.seq ≤ 7) (kind : t.kind = .checkOut) :
    takeKnown t e s = leaveTable e (checkOutCode s e) true true s := by
  have nonzero : sequenceDifference t.seq e.seq ≠ 0 := by omega
  have few : ¬8 ≤ sequenceDifference t.seq e.seq := by omega
  simp [takeKnown, same, nonzero, few, kind]

theorem takeKnown_withdraw {t : Telegram} {e : Entry} {s : State} (same : t.approach = e.approach)
    (newer : 1 ≤ sequenceDifference t.seq e.seq) (fresh : sequenceDifference t.seq e.seq ≤ 7) (kind : t.kind = .withdraw) :
    takeKnown t e s = leaveTable e .withdrawn false false s := by
  have nonzero : sequenceDifference t.seq e.seq ≠ 0 := by omega
  have few : ¬8 ≤ sequenceDifference t.seq e.seq := by omega
  simp [takeKnown, same, nonzero, few, kind]

/-- A part that serves a telegram is not in STANDBY. -/
theorem awake_of_serves {t : Telegram} {s : State} (serves : s.serves t) : s.mode ≠ .standby := by
  intro standby
  have next := serves.2
  rw [State.nextTelegram, if_pos standby] at next
  cases next

/-- The code of a CHECK_OUT is one of the five served codes (R20). -/
theorem checkOutCode_idx (s : State) (e : Entry) :
    (checkOutCode s e).code = ([.servedGranted, .servedCovered, .servedUnaided, .servedDenied, .missed, .withdrawn] :
      List OutcomeCode).idxOf (checkOutCode s e) := by
  unfold checkOutCode
  split
  case h_2 =>
    split
    · split <;> rfl
    · rfl
  all_goals rfl

/-- The code of a CHECK_OUT of an entry in SPENT (R20). -/
theorem checkOutCode_spent {s : State} {e : Entry} (spent : e.state = .spent) :
    (e.grantRan = some true ∧ (∃ c, e.closeTime = some c ∧ (s.now - c).toNat ≤ (s.config.phase e.phase).yellow) →
      checkOutCode s e = .servedGranted) ∧
    (¬(e.grantRan = some true ∧
        ∃ c, e.closeTime = some c ∧ (s.now - c).toNat ≤ (s.config.phase e.phase).yellow) →
      checkOutCode s e = .missed) := by
  simp only [checkOutCode, spent]
  refine ⟨fun ⟨ran, c, close, soon⟩ => ?_, fun late => ?_⟩
  · rw [ran, close]
    exact if_pos soon
  · split
    · next c ran close => exact if_neg fun soon => late ⟨ran, c, close, soon⟩
    · rfl

/-- Settles O30: both are an exit, of a code that the telegram and the entry's state give. -/
theorem knownBusLeaves : Obligations.KnownBusLeaves := by
  unfold Obligations.KnownBusLeaves
  intro t e s serves known kind same newer fresh
  have bus := findEntry_bus known
  have awake := awake_of_serves serves
  have row := exec_telegramRow_of_known serves known
  rw [← bus]
  rcases kind with out | withdraws
  · rw [takeKnown_checkOut same newer fresh out] at row
    obtain ⟨buses, took, departs, latches, due, stays, frame⟩ :=
      leaveTable_leaves e (checkOutCode { s with intake := s.intake.serve } e) true true { s with intake := s.intake.serve }
    obtain ⟨caches, found⟩ :=
      leaveTable_cached e (checkOutCode { s with intake := s.intake.serve } e) true { s with intake := s.intake.serve }
    rw [checkOutCode_idx] at frame
    refine ⟨_, _, row, buses, took, departs, latches, outcomeRecord_isOf _ _ _ _, rfl, fun withdraws => ?_, fun _ =>
      ⟨found, caches, fun none_held => ?_, fun c held => ?_, ?_⟩, stays, due awake, frame⟩
    · rw [out] at withdraws
      cases withdraws
    · simp [outcomeRecord, arrivalError, none_held]
    · simp [outcomeRecord, arrivalError, held, elapsed]
    · cases state : e.state
      case spent =>
        obtain ⟨soon, late⟩ := checkOutCode_spent (s := { s with intake := s.intake.serve }) state
        simp only [outcomeRecord]
        split
        · next ran => exact soon ran
        · next other => exact late other
      all_goals simp [outcomeRecord, checkOutCode, state]
  · rw [takeKnown_withdraw same newer fresh withdraws] at row
    obtain ⟨buses, took, departs, latches, due, stays, frame⟩ :=
      leaveTable_leaves e .withdrawn false false { s with intake := s.intake.serve }
    refine ⟨_, _, row, buses, took, departs, latches, outcomeRecord_isOf _ _ _ _, rfl,
      fun _ => ⟨rfl, rfl, leaveTable_cache_stays _ _ _ _⟩, fun out => ?_, stays, due awake, frame⟩
    rw [withdraws] at out
    cases out

/-- Settles O32: the expiry is an exit without a cache entry, and the ageing of the cache is a filter. -/
theorem entriesExpireAndCacheAges : Obligations.EntriesExpireAndCacheAges := by
  unfold Obligations.EntriesExpireAndCacheAges
  intro b s running
  refine ⟨fun e found near => ?_, by rw [exec_running running]; rfl⟩
  have row : exec (.entryExpiry b) s = .next (expireEntry b s) := by rw [exec_running running]; rfl
  have due : s.expired e = true := reached_of_lt near
  have leaves : expireEntry b s = leaveTable e .expired false false s := by simp [expireEntry, found, due]
  rw [leaves] at row
  obtain ⟨buses, took, departs, latches, passes, stays, frame⟩ := leaveTable_leaves e .expired false false s
  rw [findEntry_bus found] at buses stays
  rw [leaveTable_cache_stays] at frame
  exact ⟨_, _, row, buses, took, departs, latches, outcomeRecord_isOf _ _ _ _, findEntry_bus found, rfl, passes, stays,
    frame⟩

/-- An owner's state with the head asked message put back, so that the state answered takes it again (R137). -/
def State.unasked (v : State) (asked : List AskedMessage) : State := { v with link := { v.link with asked := asked } }

/-- A reply queued after an owner that did no more than latch beside what it did to `base`. -/
theorem unasked_answered {v base : State} {rest : List AskedMessage} (same : v.sameButNotices (base.asking rest))
    (m : AskedMessage) (r : Reply) :
    queueMessage (replyMessage m r) v = (v.unasked base.link.asked).answered m rest r.code.code r.data ∧
      (v.unasked base.link.asked).sameButNotices base := by
  obtain ⟨latches, out, dropped, rfl, notices, kept⟩ := same
  exact ⟨rfl, latches, out, dropped, rfl, notices, kept⟩

/-- A row of fixed length runs its owner, the message being out of its queue, and queues the reply (R137). -/
theorem takeFixed_owned {s v : State} {m : AskedMessage} {rest : List AskedMessage} {kind : Octet} {n : Nat}
    {os : List Octet} {owner : List Octet → State → State × Reply} {r : Reply} (takes : s.takes m rest)
    (named : m.kind = kind) (body : m.body = os) (length : os.length = n) (owned : owner os (s.asking rest) = (v, r)) :
    whenRunning s (takeFixed kind n owner) = .next (queueMessage (replyMessage m r) v) := by
  have judged : withLength n owner m (s.onLink fun k => { k with asked := rest }) = (v, r) := by
    rw [withLength, body, if_pos length]
    exact owned
  rw [takeFixed_run takes kind n owner named, judged]

theorem namedBus_pair (hi lo : Octet) : namedBus [hi, lo] =
    if hi.toNat * 256 + lo.toNat = 0 ∨ hi.toNat * 256 + lo.toNat = 65535 then none
    else some (hi.toNat * 256 + lo.toNat) := by
  rw [← number_pair]
  rfl

theorem octets2_pair (hi lo : Octet) : octets2 (hi.toNat * 256 + lo.toNat) = [hi, lo] := by
  have high := hi.isLt
  have low := lo.isLt
  simp only [octets2, octet, List.cons.injEq, and_true]
  exact ⟨BitVec.eq_of_toNat_eq (by rw [BitVec.toNat_ofNat]; omega),
    BitVec.eq_of_toNat_eq (by rw [BitVec.toNat_ofNat]; omega)⟩

/-- Settles O34: a held bus leaves by an exit that enters the cache. -/
theorem cancelRequestRemovesBus : Obligations.CancelRequestRemovesBus := by
  unfold Obligations.CancelRequestRemovesBus
  intro m rest hi lo b s takes kind body value
  have named := namedBus_pair hi lo
  rw [← value] at named
  refine ⟨fun impossible => ?_, fun positive proper unheld => ?_, fun e positive proper held => ?_⟩
  · rw [if_pos impossible] at named
    exact takeFixed_answered (r := .bare .badValue) takes kind body rfl (by simp [cancelRequestOwner, named])
  · rw [if_neg (not_or.2 ⟨positive, proper⟩)] at named
    have unheld' : (s.asking rest).findEntry b = none := unheld
    exact takeFixed_answered (r := .bare .notFound) takes kind body rfl (by simp [cancelRequestOwner, named, unheld'])
  · rw [if_neg (not_or.2 ⟨positive, proper⟩)] at named
    have held' : (s.asking rest).findEntry b = some e := held
    have row : exec .cancelRequest s = _ := takeFixed_owned (kind := 0x07) (n := 2) (owner := cancelRequestOwner)
      (v := leaveTable e .cancelled false true (s.asking rest)) (r := .ok (octets2 b ++ [octet e.state.code]))
      takes kind body rfl (by simp [cancelRequestOwner, named, held'])
    obtain ⟨buses, took, departs, latches, passes, stays, frame⟩ :=
      leaveTable_leaves e .cancelled false true (s.asking rest)
    obtain ⟨caches, found⟩ := leaveTable_cached e .cancelled false (s.asking rest)
    rw [findEntry_bus held] at buses stays caches found
    generalize leaveTable e .cancelled false true (s.asking rest) = v at *
    obtain ⟨answered, same⟩ := unasked_answered (base := { s with
        stats := s.counted .close 8 (some (.port e.approach)), table := v.table, cache := v.cache,
        outcomes := v.outcomes,
        planner := { s.planner with
          grant := v.planner.grant, revise := v.planner.revise, passDue := v.planner.passDue,
          passMark := v.planner.passMark } }) (rest := rest) frame m (.ok (octets2 b ++ [octet e.state.code]))
    rw [answered, value, octets2_pair] at row
    exact ⟨_, _, row, buses, found, took, departs, latches, outcomeRecord_isOf _ _ _ _, findEntry_bus held, rfl, caches,
      passes, stays, same⟩

/-! ### Unknown buses that are not admitted (R14, R15, R17) -/

theorem exec_telegramRow_of_unknown {t : Telegram} {s : State} (serves : s.serves t) (unknown : s.findEntry t.bus = none) :
    exec (telegramRow t) s = .next (takeUnknown t { s with intake := s.intake.serve }) := by
  have strange : State.findEntry { s with intake := s.intake.serve } t.bus = none := unknown
  rw [exec_telegramRow_of_serves serves, applyTelegram, strange]

theorem chooseVictim_none {l : List Entry} (firm : ∀ e ∈ l, victimValue e = none) : chooseVictim l = none := by
  induction l with
  | nil => rfl
  | cons e l ih =>
    rw [chooseVictim, firm e List.mem_cons_self, ih fun q mem => firm q (List.mem_cons_of_mem _ mem)]

/-- A full table without an entry that may leave refuses the newcomer (R17). -/
theorem admitAny_refuses {t : Telegram} {s : State} (full : 32 ≤ s.table.length)
    (firm : ∀ e ∈ s.table, e.state ≠ .new ∧ e.state ≠ .far ∧ e.state ≠ .watch) :
    admitAny t s = countEvent .admitReject 0 (some t.source) s := by
  have same : s.table.map s.victimEvaluation = s.table := by
    refine (List.map_congr_left (g := id) fun e mem => ?_).trans (List.map_id _)
    obtain ⟨-, far, watch⟩ := firm e mem
    unfold State.victimEvaluation
    split
    · contradiction
    · contradiction
    · rfl
  have nobody : chooseVictim s.table = none := chooseVictim_none fun e mem => by
    obtain ⟨new, far, watch⟩ := firm e mem
    unfold victimValue
    split <;> trivial
  rw [admitAny, if_neg (Nat.not_lt.2 full), admitFull]
  simp only [same, nobody]

theorem takeUnknown_report {t : Telegram} (kind : t.kind = .checkIn ∨ t.kind = .position) (s : State) :
    takeUnknown t s = lookUpAndAdmit t s := by
  rcases kind with kind | kind <;> simp only [takeUnknown, kind]

theorem lookUpAndAdmit_missed {t : Telegram} {s : State} (uncached : s.findCached t.bus = none) :
    lookUpAndAdmit t s = admitAny t (countEvent .cacheLookup 1 (some t.source) s) := by
  rw [lookUpAndAdmit, uncached]

theorem lookUpAndAdmit_quiet {t : Telegram} {c : CacheEntry} {s : State} (cached : s.findCached t.bus = some c)
    (recent : (s.now - c.time).toNat < 10 * s.config.general.quietTime) :
    lookUpAndAdmit t s = countDiscard .staleAfterCheckout t.source (countEvent .cacheLookup 0 (some t.source) s) := by
  rw [lookUpAndAdmit, cached]
  exact if_pos recent

theorem lookUpAndAdmit_expired {t : Telegram} {c : CacheEntry} {s : State} (cached : s.findCached t.bus = some c)
    (past : 10 * s.config.general.quietTime ≤ (s.now - c.time).toNat) :
    lookUpAndAdmit t s = admitAny t
      { countEvent .cacheLookup 2 (some t.source) s with cache := s.cache.filter fun q => q.bus != t.bus } := by
  rw [lookUpAndAdmit, cached]
  exact if_neg (Nat.not_lt.2 past)

/-- An event counted behind an operation whose result is known but for latching. -/
theorem countEvent_sameBut_behind {t base : State} (h : t.sameButNotices base) (ev : EventKind) (sub : Nat)
    (src : Option Source) :
    (countEvent ev sub src t).sameButNotices { base with stats := base.counted ev sub src } :=
  State.sameButNotices_trans (countEvent_sameBut ev sub src t)
    (Blind.sameBut (f := fun u : State => { u with stats := u.counted ev sub src }) (fun _ _ _ _ _ => rfl) h)

/-- Settles O31. -/
theorem unknownBusNotAdmitted : Obligations.UnknownBusNotAdmitted := by
  unfold Obligations.UnknownBusNotAdmitted
  intro t s serves unknown
  have row := exec_telegramRow_of_unknown serves unknown
  refine ⟨fun kind => ?_, fun kind => ?_, fun c kind cached recent => ?_, fun kind uncached full firm => ?_⟩
  · rw [takeUnknown, kind] at row
    exact ⟨_, row, countDiscard_sameBut .unknownBus t.source _⟩
  · rw [takeUnknown, kind] at row
    refine ⟨_, row, ?_, ?_, ?_⟩
    · rw [State.findCached, countEvent_cache]
      exact cacheBus_findCached _ _ _
    · rw [countEvent_cache]
      exact cacheBus_caches t.bus t.approach _
    · rw [countEvent_cache]
      exact countEvent_sameBut .orphanCheckout 0 (some t.source) _
  · rw [takeUnknown_report kind, lookUpAndAdmit_quiet (s := { s with intake := s.intake.serve }) cached recent] at row
    exact ⟨_, row, countEvent_sameBut_behind (countEvent_sameBut .cacheLookup 0 (some t.source) _) .telegramDiscard 7
      (some t.source)⟩
  · rw [takeUnknown_report kind, lookUpAndAdmit_missed (s := { s with intake := s.intake.serve }) uncached,
      admitAny_refuses (by simpa using full) (by simpa using firm)] at row
    exact ⟨_, row, countEvent_sameBut_behind (countEvent_sameBut .cacheLookup 1 (some t.source) _) .admitReject 0
      (some t.source)⟩

end Sys2Proof.Machine
end

section
/-! SUPPORT. The asked messages that read, and those that act on one block alone: counters, notices, a port (chapters 7
and 9, R127). -/

namespace Sys2Proof.Machine

/-! ### Layouts as fields (Tables 10-5, 10-7, 10-8) -/

theorem laidOut_nil : laidOut [] = [] := rfl

theorem laidOut_append (a b : List (Nat × Nat)) : laidOut (a ++ b) = laidOut a ++ laidOut b := List.flatMap_append

theorem laidOut_flatMap {α : Type} (f : α → List (Nat × Nat)) (l : List α) :
    laidOut (l.flatMap f) = l.flatMap fun x => laidOut (f x) := List.flatMap_assoc

theorem laidOut_singles {α : Type} (f : α → Nat) (l : List α) :
    laidOut (l.map fun x => (1, f x)) = l.map fun x => octet (f x) := by
  induction l with
  | nil => rfl
  | cons x l ih => rw [List.map_cons, laidOut_octet, ih, List.map_cons]

theorem octet_toNat (o : Octet) : octet o.toNat = o := by
  rw [octet, BitVec.ofNat_toNat, BitVec.setWidth_eq]

theorem flag_eq (b : Bool) : flag b = octet (bitOf b 1) := by cases b <;> rfl

theorem signed2_eq (i : Int) : signed2 i = octets2 (twosComplement i) := rfl

theorem Entry.summary_laidOut (e : Entry) : e.summary = laidOut e.summaryFields := by
  simp only [Entry.summary, Entry.summaryFields, laidOut_octet, laidOut_octets2, laidOut_nil, flag_eq]
  rfl

theorem Entry.form_laidOut (e : Entry) (position : Nat) : e.form position = laidOut (e.formFields position) := by
  have ring : laidOut ((e.ring ++ List.replicate (8 - e.ring.length) 0).map fun v => (1, v)) = samplePlaces e.ring :=
    laidOut_singles id _
  simp only [Entry.form, Entry.formFields, laidOut_append, ring, laidOut_octet, laidOut_octets2, laidOut_octets4,
    laidOut_nil, Entry.identityGroup, Entry.motionGroup, Estimate.octets, Entry.planningGroup, Entry.presence, flag_eq,
    signed2_eq, bitOf, List.append_assoc, List.cons_append, List.nil_append]

/-! #### The groups of the status -/

/-- The fields of the signal model. -/
def State.modelFields (s : State) : List (Nat × Nat) :=
  (1, s.model.state.code) ::
  (match s.model.anchor with
    | some a => [(1, a.plan), (1, a.phase), (1, a.interval.code),
        (2, min 65535 (a.elapsed + (s.now - a.arrival).toNat)), (1, a.pedCalls.toNat), (1, bitOf a.inhibit 1)]
    | none => [(1, 0), (1, 0), (1, 0), (2, 0), (1, 0), (1, 0)])

/-- The fields of the command slot. -/
def State.slotFields (s : State) : List (Nat × Nat) :=
  match s.planner.slot with
  | some c => [(1, 1), (1, c.tag), (1, c.action.code), (1, c.phase), (2, c.amount), (1, c.grantId),
      (1, roleCode (some c.role)), (2, c.bus.getD 0), (1, bitOf c.due.isSome 1)]
  | none => [(1, 0), (1, 0), (1, 0), (1, 0), (2, 0), (1, 0), (1, 0), (2, 0), (1, 0)]

/-- The fields of the active grant. -/
def State.grantFields (s : State) : List (Nat × Nat) :=
  match s.planner.grant with
  | some g => [(1, 1), (1, g.id), (1, actionCode (some g.action)), (1, g.phase), (2, g.requested), (2, g.applied),
      (2, g.total), (1, g.state.code), (1, bitOf g.shadow 1), (1, g.members.length)] ++
      (List.range 5).map fun i => (2, (g.members[i]?).getD 0)
  | none => [(1, 0), (1, 0), (1, 0), (1, 0), (2, 0), (2, 0), (2, 0), (1, 0), (1, 0), (1, 0)] ++ List.replicate 5 (2, 0)

/-- The fields of the lost tag and of the pending revise. -/
def State.lostFields (s : State) : List (Nat × Nat) :=
  (match s.planner.lost with | some m => [(1, 1), (1, m.tag)] | none => [(1, 0), (1, 0)]) ++
  (match s.planner.revise with
    | some r => [(1, 1), (1, r.grantId), (2, r.total)]
    | none => [(1, 0), (1, 0), (2, 0)])

/-- The fields of one latch. -/
def latchFields (v : Option LatchInfo) : List (Nat × Nat) :=
  match v with
  | some i => [(1, 1), (1, i.detail), (4, i.time.toNat)]
  | none => [(1, 0), (1, 0), (4, 0)]

/-- The fields of one port. -/
def State.portFields (s : State) (x : Approach) : List (Nat × Nat) :=
  let p := s.ports.get x
  [(1, bitOf (s.config.approaches.get x).enabled 1), (1, p.framer.code), (1, p.store.length), (1, p.lastSlip.code),
    (1, bitOf p.farAlarm 32 + bitOf p.senderFault 16 + bitOf p.echo 8 + bitOf p.force 4 +
      bitOf p.markerInsertion 2 + bitOf (p.crcInsertion != .none) 1)]

theorem State.statusFields_eq (s : State) :
    s.statusFields =
      [(1, s.mode.code), (4, s.now.toNat), (1, s.rate.toNat), (2, s.link.crcErrors), (2, s.link.overruns),
        (2, s.link.noticesDropped)] ++ s.modelFields ++ s.slotFields ++ s.grantFields ++ s.lostFields ++
      allApproaches.map (fun x => (1, s.planner.tokens.get x)) ++
      [(2, s.planner.ledger.timeLimit), (1, s.planner.ledger.grantLimit), (2, s.planner.ledger.committed),
        (1, s.planner.ledger.leads), (2, s.planner.ledger.timeLimit - s.planner.ledger.committed),
        (1, s.table.length), (1, s.cache.length)] ++
      allSources.map (fun q => (1, (s.intake.queues.get q).length)) ++
      [(1, s.outcomes.records.length), (2, s.outcomes.lost)] ++
      latchesInOrder.flatMap (fun k => latchFields (s.notices.latches.get k)) ++ allApproaches.flatMap s.portFields := by
  simp only [State.statusFields, State.lostFields, List.append_assoc]
  rfl

theorem State.modelGroup_laidOut (s : State) : s.modelGroup = laidOut s.modelFields := by
  cases anchor : s.model.anchor <;>
    simp only [State.modelGroup, State.modelFields, anchor, laidOut_octet, laidOut_octets2, laidOut_nil, flag_eq,
      octet_toNat] <;> rfl

theorem State.slotGroup_laidOut (s : State) : s.slotGroup = laidOut s.slotFields := by
  cases slot : s.planner.slot <;>
    simp only [State.slotGroup, State.slotFields, slot, laidOut_octet, laidOut_octets2, laidOut_nil, flag_eq] <;> rfl

/-- The five member places, filled in list order. -/
theorem memberPlaces (members : List Nat) :
    (members.take 5).flatMap octets2 ++ List.replicate (10 - ((members.take 5).flatMap octets2).length) 0 =
      laidOut ((List.range 5).map fun i => (2, (members[i]?).getD 0)) := by
  match members with
  | [] => rfl
  | [_] => simp [List.range_succ, laidOut_octets2, laidOut_nil, octets2, octet]
  | [_, _] => simp [List.range_succ, laidOut_octets2, laidOut_nil, octets2, octet]
  | [_, _, _] => simp [List.range_succ, laidOut_octets2, laidOut_nil, octets2, octet]
  | [_, _, _, _] => simp [List.range_succ, laidOut_octets2, laidOut_nil, octets2, octet]
  | _ :: _ :: _ :: _ :: _ :: _ => simp [List.range_succ, laidOut_octets2, laidOut_nil, octets2, octet]

theorem State.grantGroup_laidOut (s : State) : s.grantGroup = laidOut s.grantFields := by
  cases active : s.planner.grant with
  | none => simp only [State.grantGroup, State.grantFields, active]; rfl
  | some g =>
    simp only [State.grantGroup, State.grantFields, active, laidOut_append, laidOut_octet, laidOut_octets2, laidOut_nil,
      flag_eq, ← memberPlaces, List.append_assoc]
    rfl

theorem State.lostGroup_laidOut (s : State) : s.lostGroup = laidOut s.lostFields := by
  cases lost : s.planner.lost <;> cases revise : s.planner.revise <;>
    simp only [State.lostGroup, State.lostFields, lost, revise, laidOut_append, laidOut_octet, laidOut_octets2,
      laidOut_nil] <;> rfl

theorem latchGroup_laidOut (v : Option LatchInfo) : latchGroup v = laidOut (latchFields v) := by
  cases v <;> simp only [latchGroup, latchFields, laidOut_octet, laidOut_octets4, laidOut_nil] <;> rfl

theorem State.portGroup_laidOut (s : State) (x : Approach) : s.portGroup x = laidOut (s.portFields x) := by
  have insertion : (if (s.ports.get x).crcInsertion = .none then 0 else 1) =
      bitOf ((s.ports.get x).crcInsertion != .none) 1 := by
    cases (s.ports.get x).crcInsertion <;> rfl
  simp only [State.portGroup, State.portFields, laidOut_octet, laidOut_nil, flag_eq, Port.flagsOctet, insertion, bitOf]

/-- The data of a status are the fields of Table 10-7, laid out (R140). -/
theorem State.statusData_laidOut (s : State) : s.statusData = laidOut s.statusFields := by
  have tokens := laidOut_singles (fun x => s.planner.tokens.get x) allApproaches
  have queues := laidOut_singles (fun q => (s.intake.queues.get q).length) allSources
  have latches := laidOut_flatMap (fun k => latchFields (s.notices.latches.get k)) latchesInOrder
  have ports := laidOut_flatMap s.portFields allApproaches
  simp only [State.statusFields_eq, laidOut_append, tokens, queues, latches, ports, ← latchGroup_laidOut,
    ← State.portGroup_laidOut, ← State.modelGroup_laidOut, ← State.slotGroup_laidOut, ← State.grantGroup_laidOut,
    ← State.lostGroup_laidOut, laidOut_octet, laidOut_octets2, laidOut_octets4, State.statusData,
    State.partGroup, State.allowanceGroup, State.tableGroup, Ledger.remaining, List.append_assoc, List.cons_append,
    List.nil_append]

theorem CacheEntry.form_laidOut (c : CacheEntry) (now : PartTime) :
    c.form now = laidOut [(2, c.bus), (1, Approach.index c.approach), (2, min 65535 (now - c.time).toNat)] := by
  simp only [laidOut_octet, laidOut_octets2, laidOut_nil, List.append_nil]
  rfl

theorem Totals.percentage_eq (t : Totals) :
    t.percentage = if t.sent = 0 then 0 else min 100 (100 * (t.accepted + t.answeredPartly) / t.sent) := rfl

/-- The place of a bus counts the buses of the table up to it. -/
theorem State.position_eq (s : State) (b : Nat) : s.position b = (s.table.map Entry.bus).idxOf b + 1 := by
  rw [State.position, List.idxOf, List.findIdx_map]
  rfl

/-- Settles O33: every owner answers with the state as it stands. -/
theorem readingMessagesOnlyAnswer : Obligations.ReadingMessagesOnlyAnswer := by
  unfold Obligations.ReadingMessagesOnlyAnswer
  intro m rest s takes
  refine ⟨fun sec place kind body => ⟨fun n data named held => ?_, fun unheld => ?_⟩, fun kind body => ?_,
    fun start most kind body => ⟨fun outside => ?_, fun first least few => ?_⟩, fun hi lo kind body => ?_,
    fun kind body => ?_⟩
  · refine takeFixed_answered (r := .ok (sec :: replyPlace n place :: data)) takes kind body rfl ?_
    have section_named : sectionOf (bodyOctet [sec, place] 0) = some n := named
    have data_held : sectionData (s.asking rest).config n (bodyOctet [sec, place] 1) = some data := held
    simp only [readConfigOwner, section_named, data_held]
    rfl
  · refine takeFixed_answered (r := .bare .badValue) takes kind body rfl ?_
    have section_named : sectionOf (bodyOctet [sec, place] 0) = sectionOf sec := rfl
    cases named : sectionOf sec with
    | none => simp only [readConfigOwner, section_named, named]
    | some n =>
      rw [named] at unheld
      have data_held : sectionData (s.asking rest).config n (bodyOctet [sec, place] 1) = none := unheld
      simp only [readConfigOwner, section_named, named, data_held]
  · exact takeFixed_answered (r := .ok (laidOut s.statusFields)) takes kind body rfl
      (congrArg (fun data => (s.asking rest, Reply.ok data)) s.statusData_laidOut)
  · exact takeFixed_answered (r := .bare .badValue) takes kind body rfl (if_pos outside)
  · have inside : ¬(31 < start.toNat ∨ most.toNat = 0 ∨ 16 < most.toNat) := by omega
    rw [← funext Entry.summary_laidOut]
    have listed : listRequestsOwner [start, most] (s.asking rest) = (s.asking rest,
        .ok (octet s.table.length :: octet start.toNat :: octet ((s.table.drop start.toNat).take most.toNat).length ::
          ((s.table.drop start.toNat).take most.toNat).flatMap Entry.summary)) := if_neg inside
    rw [octet_toNat] at listed
    exact takeFixed_answered takes kind body rfl listed
  · have named := namedBus_pair hi lo
    refine ⟨fun impossible => ?_, fun positive proper e held => ?_, fun positive proper unheld c cached => ?_,
      fun positive proper unheld uncached => ?_⟩
    · rw [if_pos impossible] at named
      exact takeFixed_answered (r := .bare .badValue) takes kind body rfl (by simp only [readRequestOwner, named])
    all_goals rw [if_neg (not_or.2 ⟨positive, proper⟩)] at named
    · have held' : (s.asking rest).findEntry (hi.toNat * 256 + lo.toNat) = some e := held
      rw [← State.position_eq]
      dsimp only
      rw [← Entry.form_laidOut]
      exact takeFixed_answered (r := .ok _) takes kind body rfl (by
        simp only [readRequestOwner, named, held']
        rfl)
    · have unheld' : (s.asking rest).findEntry (hi.toNat * 256 + lo.toNat) = none := unheld
      have cached' : (s.asking rest).findCached (hi.toNat * 256 + lo.toNat) = some c := cached
      rw [← CacheEntry.form_laidOut]
      exact takeFixed_answered (r := .ok _) takes kind body rfl (by
        simp only [readRequestOwner, named, unheld', cached']
        rfl)
    · have unheld' : (s.asking rest).findEntry (hi.toNat * 256 + lo.toNat) = none := unheld
      have uncached' : (s.asking rest).findCached (hi.toNat * 256 + lo.toNat) = none := uncached
      exact takeFixed_answered (r := .bare .notFound) takes kind body rfl
        (by simp only [readRequestOwner, named, unheld', uncached'])
  · refine takeFixed_answered (r := .ok _) takes kind body rfl ?_
    rw [← Totals.percentage_eq]
    rfl

/-! ### PROGRAM_COUNTER (R161) -/

theorem eventOf_code {n : Nat} (few : n ≤ 17) : ∃ e, eventOf n = some e ∧ eventCode e = n := by
  have all : ∀ k : Fin 18, ∃ e, eventOf k = some e ∧ eventCode e = k := by decide
  exact all ⟨n, by omega⟩

theorem eventOf_outside {n : Nat} (outside : 17 < n) : eventOf n = none := by
  have last : eventsInOrder.length = 17 := by decide
  rw [eventOf, if_neg (by omega), List.getElem?_eq_none (by omega)]
  rfl

theorem subEventCount_le (e : EventKind) : subEventCount e ≤ 16 := by cases e <;> decide

/-- The sub-mask as stored holds the bits of the event's sub-events (R161). -/
theorem storedSubMask_getLsbD (e : EventKind) (hi lo : Octet) (j : Nat) :
    (storedSubMask (some e) (number [hi, lo])).getLsbD j = (decide (j < subEventCount e) && (hi ++ lo).getLsbD j) := by
  have few := subEventCount_le e
  rw [storedSubMask, number_pair, ← toNat_append_octets, BitVec.getLsbD_ofNat, Nat.testBit_mod_two_pow, BitVec.getLsbD]
  by_cases inside : j < subEventCount e
  · simp [inside, show j < 16 by omega]
  · simp [inside]

/-- Settles O36. -/
theorem programCounterStoresProgramming : Obligations.ProgramCounterStoresProgramming := by
  unfold Obligations.ProgramCounterStoresProgramming
  intro m rest i ev hi lo src s takes kind body eight
  refine ⟨fun outside => ?_, fun place code => ?_⟩
  · refine takeFixed_answered (r := .bare .badValue) takes kind body rfl ?_
    rcases Nat.lt_or_ge 17 ev.toNat with strange | known
    · have named : eventOf (bodyOctet [i, ev, hi, lo, src] 1).toNat = none := eventOf_outside strange
      simp only [programCounterOwner, named]
    · obtain ⟨e, named, -⟩ := eventOf_code known
      have named' : eventOf (bodyOctet [i, ev, hi, lo, src] 1).toNat = some e := named
      simp only [programCounterOwner, named']
      exact if_neg (show ¬i.toNat ≤ 7 by omega)
  · obtain ⟨e, named, coded⟩ := eventOf_code code
    have named' : eventOf (bodyOctet [i, ev, hi, lo, src] 1).toNat = some e := named
    refine ⟨Counter.mk 0 e (storedSubMask e (number [hi, lo])) (BitVec.ofNat 5 src.toNat),
      rfl, coded, ?_, fun event same j => ?_, ?_⟩
    · rw [BitVec.ofNat_toNat]
    · have known : e = some event := same
      rw [known]
      exact storedSubMask_getLsbD event hi lo j
    · refine takeFixed_answered (r := .ok _) takes kind body rfl ?_
      simp only [programCounterOwner, named']
      exact if_pos place

/-! ### The notice unit (R167) -/

theorem maskOctets_maskOf (body : List Octet) :
    maskOctets (maskOf body) = (List.range 23).map fun i => flag (bodyOctet body i == 1) := rfl

theorem flag_self {o : Octet} (code : o.toNat ≤ 1) : flag (o == 1) = o := by
  obtain zero | one : o.toNat = 0 ∨ o.toNat = 1 := by omega
  · rw [eq_ofNat_of_toNat zero]
    rfl
  · rw [eq_ofNat_of_toNat one]
    rfl

/-- Twenty-three flags are the octets of the mask they make. -/
theorem maskOctets_self {body : List Octet} (length : body.length = 23) (flags : ∀ o ∈ body, o.toNat ≤ 1) :
    maskOctets (maskOf body) = body := by
  rw [maskOctets_maskOf]
  refine List.ext_getElem (by simp [length]) fun i inside inside' => ?_
  have held : bodyOctet body i = body[i] := by simp [bodyOctet, inside']
  simp only [List.getElem_map, List.getElem_range, held]
  exact flag_self (flags _ (List.getElem_mem inside'))

theorem readFlag_isSome {o : Octet} : (readFlag o).isSome = true ↔ o.toNat ≤ 1 := by
  refine ⟨fun read => Nat.le_of_not_lt fun outside => ?_, fun code => ?_⟩
  · rw [readFlag_outside outside] at read
    cases read
  · rw [← flag_self code]
    cases o == 1 <;> rfl

theorem clearLatch_get {v : PerLatch (Option LatchInfo)} {o : Octet} {j : Nat} {l : Latch}
    (named : latchesInOrder[j]? = some l) : (clearLatch v o).get l = if o.toNat = j then none else v.get l := by
  unfold clearLatch
  by_cases same : o.toNat = j
  · rw [same, named, if_pos rfl]
    exact PerLatch.get_set_same _ _ _
  · rw [if_neg same]
    cases other : latchesInOrder[o.toNat]? with
    | none => rfl
    | some k =>
      refine perLatch_get_set_other _ _ _ _ fun equal => same ?_
      subst equal
      have nodup : latchesInOrder.Nodup := by decide
      have inside : o.toNat < latchesInOrder.length := (List.getElem?_eq_some_iff.1 other).1
      exact (List.getElem?_inj inside nodup).1 (other.trans named.symm)

theorem foldl_clearLatch_get {j : Nat} {l : Latch} (named : latchesInOrder[j]? = some l) :
    ∀ (list : List Octet) (v : PerLatch (Option LatchInfo)),
      (list.foldl clearLatch v).get l = if list.any (fun o => o.toNat == j) then none else v.get l
  | [], v => rfl
  | o :: list, v => by
    rw [List.foldl_cons, foldl_clearLatch_get named list, clearLatch_get named, List.any_cons]
    by_cases same : o.toNat = j <;> simp [same]

/-- A row that judges the length itself, answered as one of fixed length is. -/
theorem takeAsked_answered {s base : State} {m : AskedMessage} {rest : List AskedMessage} {want : AskedMessage → Bool}
    {owner : AskedMessage → State → State × Reply} {r : Reply} (takes : s.takes m rest) (wants : want m = true)
    (owned : owner m (s.asking rest) = (base.asking rest, r)) :
    whenRunning s (takeAsked want owner) = .next (base.answered m rest r.code.code r.data) := by
  have owned' : owner m (s.onLink fun k => { k with asked := rest }) = (base.asking rest, r) := owned
  rw [takeAsked_run takes want owner wants, owned']
  exact congrArg _ (queueReply_answered base m rest r)

/-- CLEAR_NOTICES by its count, its list and the numbers in it (R167, R170). -/
theorem clearNoticesOwner_badLength {m : AskedMessage} (malformed : m.body = [] ∨
    ∃ c list, m.body = c :: list ∧ list.length ≠ c.toNat) (s : State) :
    clearNoticesOwner m s = (s, .bare .badLength) := by
  rcases malformed with empty | ⟨c, list, body, differs⟩
  · simp only [clearNoticesOwner, empty]
  · simp only [clearNoticesOwner, body]
    exact if_pos differs

theorem clearNoticesOwner_badValue {m : AskedMessage} {c : Octet} {list : List Octet} (body : m.body = c :: list)
    (agrees : list.length = c.toNat) (outside : list = [] ∨ 23 < list.length ∨ ∃ o ∈ list, 23 ≤ o.toNat) (s : State) :
    clearNoticesOwner m s = (s, .bare .badValue) := by
  simp only [clearNoticesOwner, body]
  rw [if_neg (not_not.2 agrees), if_pos (by simpa using outside)]

theorem clearNoticesOwner_clears {m : AskedMessage} {c : Octet} {list : List Octet} (body : m.body = c :: list)
    (agrees : list.length = c.toNat) (some' : list ≠ []) (few : list.length ≤ 23) (inside : ∀ o ∈ list, o.toNat < 23)
    (s : State) :
    clearNoticesOwner m s =
      ({ s with notices := { s.notices with latches := list.foldl clearLatch s.notices.latches } },
       .ok (latchBits (list.foldl clearLatch s.notices.latches))) := by
  have judged : ¬(list.length = 0 ∨ 23 < list.length ∨ list.any (fun o => 23 ≤ o.toNat) = true) := by
    rw [List.length_eq_zero_iff, List.any_eq_true]
    rintro (none_named | many | ⟨o, mem, above⟩)
    · exact some' none_named
    · omega
    · have below := inside o mem
      simp only [decide_eq_true_eq] at above
      omega
  simp only [clearNoticesOwner, body]
  rw [if_neg (not_not.2 agrees), if_neg judged]

/-- Settles O38. -/
theorem noticeMaskAndClearing : Obligations.NoticeMaskAndClearing := by
  unfold Obligations.NoticeMaskAndClearing
  intro m rest s takes
  refine ⟨fun kind length strange => ?_, fun kind length flags => ?_, fun kind malformed => ?_, fun c list kind body agrees =>
    ⟨fun outside => ?_, fun some' few inside => ?_⟩⟩
  · refine takeFixed_answered (r := .bare .badValue) takes kind rfl length (if_neg ?_)
    obtain ⟨o, mem, outside⟩ := strange
    intro all
    have code := readFlag_isSome.1 (List.all_eq_true.1 all o mem)
    omega
  · refine ⟨maskOf m.body, maskOctets_self length flags, ?_⟩
    have reply : setNoticeMaskOwner m.body (s.asking rest) =
        (State.asking { s with notices := { s.notices with mask := maskOf m.body } } rest, .ok m.body) := by
      rw [setNoticeMaskOwner, if_pos (List.all_eq_true.2 fun o mem => readFlag_isSome.2 (flags o mem)),
        maskOctets_self length flags]
      rfl
    exact takeFixed_answered takes kind rfl length reply
  · exact takeAsked_answered (r := .bare .badLength) takes (by simp [kind]) (clearNoticesOwner_badLength malformed _)
  · exact takeAsked_answered (r := .bare .badValue) takes (by simp [kind])
      (clearNoticesOwner_badValue body agrees outside _)
  · exact ⟨list.foldl clearLatch s.notices.latches, fun j l named => foldl_clearLatch_get named list _,
      takeAsked_answered (r := .ok _) takes (by simp [kind])
        (clearNoticesOwner_clears body agrees some' few inside (s.asking rest))⟩

/-! ### LINK_CONTROL (R127, R128) -/

theorem forceRequestOf_outside {r : Octet} (outside : 2 < r.toNat) : forceRequestOf r = none := by
  rw [forceRequestOf, if_neg (ne_of_lt_toNat outside (by decide)), if_neg (ne_of_lt_toNat outside (by decide)),
    if_neg (ne_of_lt_toNat outside (by decide))]

/-- A request within its codes, and the force flag after it. -/
theorem forceRequestOf_code {r : Octet} (code : r.toNat ≤ 2) : ∃ q, forceRequestOf r = some q ∧
    ∀ old, q.apply old = if r = 1 then true else if r = 2 then false else old := by
  rcases octet_le_two code with rfl | rfl | rfl
  · exact ⟨.keep, rfl, fun _ => rfl⟩
  · exact ⟨.set, rfl, fun _ => rfl⟩
  · exact ⟨.clear, rfl, fun _ => rfl⟩

theorem readFlag_code {o : Octet} (code : o.toNat ≤ 1) : readFlag o = some (o == 1) := by
  obtain zero | one : o.toNat = 0 ∨ o.toNat = 1 := by omega
  · rw [eq_ofNat_of_toNat zero]
    rfl
  · rw [eq_ofNat_of_toNat one]
    rfl

theorem linkControlOwner_outside {a r c k : Octet} (outside : 3 < a.toNat ∨ 2 < r.toNat ∨ 1 < c.toNat ∨ 1 < k.toNat)
    (s : State) : linkControlOwner [a, r, c, k] s = (s, .bare .badValue) := by
  have unread : approachOf a = none ∨ forceRequestOf r = none ∨ readFlag c = none ∨ readFlag k = none :=
    outside.imp approachOf_outside (.imp forceRequestOf_outside (.imp readFlag_outside readFlag_outside))
  unfold linkControlOwner
  split
  · next x q crc mk named asked flagged flagged' =>
    exfalso
    rcases unread with h | h | h | h
    · exact Option.some_ne_none _ (named.symm.trans h)
    · exact Option.some_ne_none _ (asked.symm.trans h)
    · exact Option.some_ne_none _ (flagged.symm.trans h)
    · exact Option.some_ne_none _ (flagged'.symm.trans h)
  · rfl

theorem CrcInsertion.ask_eq (wanted : Bool) (c : CrcInsertion) :
    c.ask wanted = if wanted = true ∧ c = .none then .waiting else c := by
  cases wanted <;> cases c <;> rfl

/-- LINK_CONTROL within its codes. -/
theorem linkControlOwner_inside {a r c k : Octet} {x : Approach} {q : ForceRequest} (named : approachOf a = some x)
    (asked : forceRequestOf r = some q) (crc : c.toNat ≤ 1) (mark : k.toNat ≤ 1) (s : State) :
    linkControlOwner [a, r, c, k] s =
      if (s.ports.get x).framer = .disabled ∧ (c == 1 || k == 1) = true then (s, .bare .badValue)
      else (s.onPort x fun p => { p with
        force := q.apply p.force, crcInsertion := p.crcInsertion.ask (c == 1),
        markerInsertion := p.markerInsertion || k == 1 }, .bare .ok) := by
  have named' : approachOf (bodyOctet [a, r, c, k] 0) = some x := named
  have asked' : forceRequestOf (bodyOctet [a, r, c, k] 1) = some q := asked
  have crc' : readFlag (bodyOctet [a, r, c, k] 2) = some (c == 1) := readFlag_code crc
  have mark' : readFlag (bodyOctet [a, r, c, k] 3) = some (k == 1) := readFlag_code mark
  simp only [linkControlOwner, named', asked', crc', mark']

/-- Settles O39. -/
theorem linkControlActsOnPort : Obligations.LinkControlActsOnPort := by
  unfold Obligations.LinkControlActsOnPort
  intro m rest a r c k s takes kind body
  refine ⟨fun outside => ?_, fun x index request crc mark => ?_⟩
  · exact takeFixed_answered (r := .bare .badValue) takes kind body rfl (linkControlOwner_outside outside _)
  · obtain ⟨q, asked, applied⟩ := forceRequestOf_code request
    have owned := linkControlOwner_inside (approachOf_index index) asked crc mark (s.asking rest)
    refine ⟨fun disabled inserts => ?_, fun allowed => ?_⟩
    · rw [if_pos ⟨disabled, by simpa using inserts⟩] at owned
      exact takeFixed_answered (r := .bare .badValue) takes kind body rfl owned
    · rw [if_neg] at owned
      · simp only [applied, CrcInsertion.ask_eq, beq_iff_eq] at owned
        exact takeFixed_answered (r := .bare .ok) takes kind body rfl owned
      · rintro ⟨disabled, inserts⟩
        rcases allowed with enabled | ⟨rfl, rfl⟩
        · exact enabled disabled
        · cases inserts

end Sys2Proof.Machine
end


section
/-! SUPPORT. Changes of mode (sections 8.1 and 8.2): the consistency check as a proposition, the judgement of SET_MODE and
the replies of its rows. -/

namespace Sys2Proof.Machine

/-! ### Consistency check (R148) -/

/-- What the check asks of one plan: long enough splits that sum to the cycle. -/
def Configuration.fits (c : Configuration) (p : Plan) : Prop :=
  (∀ i, 1 ≤ i → i ≤ c.phases.length →
    (c.phase i).yellow + (c.phase i).redClear + (c.phase i).minGreen ≤ p.split i) ∧
  ((List.range c.phases.length).map fun i => p.split (i + 1)).sum = p.cycle

/-- What R148 asks of the plan table. -/
def Configuration.agrees (c : Configuration) : Prop :=
  c.plans ≠ [] ∧ (c.plans.map Plan.id).Nodup ∧ ∀ p ∈ c.plans, c.fits p

theorem Configuration.planFits_iff (c : Configuration) (p : Plan) : c.planFits p = true ↔ c.fits p := by
  have eachPhase : (∀ i < c.phases.length, c.shortestSplit (i + 1) ≤ p.split (i + 1)) ↔
      ∀ i, 1 ≤ i → i ≤ c.phases.length → c.shortestSplit i ≤ p.split i := by
    refine ⟨fun long i first last => ?_, fun long i below => long (i + 1) (by omega) (by omega)⟩
    obtain ⟨j, rfl⟩ : ∃ j, i = j + 1 := ⟨i - 1, by omega⟩
    exact long j (by omega)
  calc c.planFits p = true
      ↔ (∀ i < c.phases.length, c.shortestSplit (i + 1) ≤ p.split (i + 1)) ∧
          ((List.range c.phases.length).map fun i => p.split (i + 1)).sum = p.cycle := by
        simp [Configuration.planFits, List.map_map, Function.comp_def]
    _ ↔ c.fits p := and_congr_left' eachPhase

theorem Configuration.consistent_iff (c : Configuration) : c.consistent = true ↔ c.agrees := by
  unfold Configuration.consistent Configuration.agrees
  simp [noRepeats_iff_nodup, Configuration.planFits_iff, and_assoc]

/-! ### The judgement of SET_MODE (R146) -/

theorem wantsMode_named {m : AskedMessage} {k force : Octet} {target : Mode} (kind : m.kind = 3)
    (body : m.body = [k, force]) (names : modeOf k = some target) : wantsMode target m = true := by
  have named : modeOf (bodyOctet m.body 0) = some target := by
    rw [body]
    exact names
  simp [wantsMode, kind, named]

/-- A SET_MODE that names its row's target with a good force code, by what the judgement gives. -/
theorem setMode_answered {s base : State} {m : AskedMessage} {rest : List AskedMessage} {k force : Octet}
    {target : Mode} {r : Reply} (takes : s.takes m rest) (kind : m.kind = 3) (body : m.body = [k, force])
    (code : force.toNat ≤ 1) (names : modeOf k = some target)
    (judged : judgeMode target (force == 1) (s.asking rest) = (base.asking rest, r)) :
    whenRunning s (setMode target) = .next (base.answered m rest r.code.code r.data) := by
  refine takeAsked_answered takes (wantsMode_named kind body names) ?_
  have owned : setModeOwner [k, force] (s.asking rest) = judgeMode target (force == 1) (s.asking rest) := by
    unfold setModeOwner
    rw [show modeOf (bodyOctet [k, force] 0) = some target from names,
      show readFlag (bodyOctet [k, force] 1) = some (force == 1) from readFlag_code code]
  rw [withLength, body, if_pos (show [k, force].length = 2 from rfl), owned, judged]

theorem judgeMode_same {s : State} {target : Mode} (same : s.mode = target) (force : Bool) :
    judgeMode target force s = (s, modeReply target false) :=
  if_pos same.symm

theorem judgeMode_inconsistent {s : State} {target : Mode} (awake : target ≠ .standby) (standby : s.mode = .standby)
    (differs : ¬s.config.agrees) (force : Bool) : judgeMode target force s = (s, .bare .inconsistent) := by
  have fails : s.config.consistent = false := by
    rw [← Bool.not_eq_true, Configuration.consistent_iff]
    exact differs
  rw [judgeMode, if_neg (by rwa [standby]), if_pos ⟨standby, fails⟩]

/-- A change to MONITOR or RUN that is permitted. -/
theorem judgeMode_wakes {s : State} {target : Mode} (awake : target ≠ .standby) (other : target ≠ s.mode)
    (fits : s.mode = .standby → s.config.agrees) (force : Bool) :
    judgeMode target force s = (changeMode target s, modeReply target false) := by
  have consistent : ¬(s.mode = .standby ∧ s.config.consistent = false) := by
    rintro ⟨standby, fails⟩
    exact Bool.false_ne_true (fails.symm.trans ((Configuration.consistent_iff _).2 (fits standby)))
  rw [judgeMode, if_neg other, if_neg consistent, if_neg (fun h => awake h.1)]
  cases target with
  | standby => exact absurd rfl awake
  | monitor => rfl
  | run => rfl

/-! ### MONITOR and RUN (R148, R149, R108) -/

theorem dropShadow_of_not {s : State} (real : ∀ g, s.planner.grant = some g → g.shadow = false) : dropShadow s = s := by
  unfold dropShadow
  split
  · next g granted => rw [if_neg (by simp [real g granted])]
  · rfl

theorem dropShadow_of_shadow {s : State} {g : Grant} (granted : s.planner.grant = some g) (shadow : g.shadow = true) :
    dropShadow s = { s with
      planner := { s.planner with grant := none },
      table := s.table.map fun e =>
        if e.bus ∈ g.members then { e with state := .waiting, reason := some .needsGreen, indication := .wait }
        else e } := by
  have members : ∀ e : Entry, (if g.members.contains e.bus then e.place .waiting (some .needsGreen) else e) =
      if e.bus ∈ g.members then { e with state := .waiting, reason := some .needsGreen, indication := .wait }
      else e := fun e => by
    simp only [List.contains_iff_mem]
    rfl
  unfold dropShadow
  rw [granted]
  simp only [shadow, if_true, members]
  rfl

/-- The rows of MONITOR and RUN, by the state that the change leaves. -/
theorem setMode_wakes {s base : State} {m : AskedMessage} {rest : List AskedMessage} {k force : Octet} {target : Mode}
    (takes : s.takes m rest) (kind : m.kind = 3) (body : m.body = [k, force]) (code : force.toNat ≤ 1)
    (names : modeOf k = some target) (awake : target ≠ .standby) (other : target ≠ s.mode)
    (fits : s.mode = .standby → s.config.agrees)
    (changed : changeMode target (s.asking rest) = base.asking rest) :
    whenRunning s (setMode target) = .next (base.answered m rest 0 [octet target.code, 0]) := by
  refine setMode_answered takes kind body code names (r := modeReply target false) ?_
  rw [judgeMode_wakes (s := s.asking rest) awake other fits, changed]

/-- Settles O44. -/
theorem setModeMonitorAndRun : Obligations.SetModeMonitorAndRun := by
  unfold Obligations.SetModeMonitorAndRun
  intro m rest force c target k s takes kind body code row
  have runs : exec c s = whenRunning s (setMode target) := by
    rcases row with ⟨rfl, rfl, _⟩ | ⟨rfl, rfl, _⟩ <;> rfl
  have names : modeOf k = some target := by
    rcases row with ⟨_, rfl, rfl⟩ | ⟨_, rfl, rfl⟩ <;> rfl
  have awake : target ≠ .standby := by
    rcases row with ⟨_, rfl, _⟩ | ⟨_, rfl, _⟩ <;> nofun
  have coded : octet target.code = k := by
    rcases row with ⟨_, rfl, rfl⟩ | ⟨_, rfl, rfl⟩ <;> rfl
  rw [runs, ← coded]
  refine ⟨fun same => ?_, fun standby differs => ?_, fun standby quiet fits => ?_, fun running monitors => ?_,
    fun monitoring wakes => ⟨fun g granted shadow => ?_, fun real => ?_⟩⟩
  · exact setMode_answered takes kind body code names (r := modeReply target false) (judgeMode_same (s := s.asking rest) same _)
  · exact setMode_answered takes kind body code names (r := .bare .inconsistent)
      (judgeMode_inconsistent (s := s.asking rest) awake standby differs _)
  · refine setMode_wakes takes kind body code names awake (by rwa [standby]) (fun _ => fits) ?_
    rcases row with ⟨_, rfl, _⟩ | ⟨_, rfl, _⟩
    · rfl
    · have kept : dropShadow (s.asking rest) = s.asking rest :=
        dropShadow_of_not fun g granted => nomatch granted.symm.trans quiet
      exact congrArg (fun u : State => { u with mode := .run }) kept
  · subst monitors
    exact setMode_wakes takes kind body code names nofun (by simp [running]) (by simp [running]) rfl
  · subst wakes
    refine setMode_wakes takes kind body code names nofun (by simp [monitoring]) (by simp [monitoring]) ?_
    have dropped := dropShadow_of_shadow (s := s.asking rest) granted shadow
    exact congrArg (fun u : State => { u with mode := .run }) dropped
  · subst wakes
    refine setMode_wakes takes kind body code names nofun (by simp [monitoring]) (by simp [monitoring]) ?_
    have kept : dropShadow (s.asking rest) = s.asking rest := dropShadow_of_not real
    exact congrArg (fun u : State => { u with mode := .run }) kept

end Sys2Proof.Machine
end


section
/-! SUPPORT. SET_MODE to STANDBY (R146, R150): what emptying the queues and the table leaves, the reports of both written
out over all telegrams and entries, and the reply. -/

namespace Sys2Proof.Machine

/-! ### Counting several events (R162) -/

theorem State.countedAll_cons (s : State) (ev : EventKind) (sub : Nat) (src : Option Source)
    (events : List (EventKind × Nat × Option Source)) :
    s.countedAll ((ev, sub, src) :: events) = State.countedAll { s with stats := s.counted ev sub src } events := rfl

theorem State.countedAll_append (s : State) (first later : List (EventKind × Nat × Option Source)) :
    s.countedAll (first ++ later) = State.countedAll { s with stats := s.countedAll first } later :=
  List.foldl_append

/-- Events counted one after another. -/
def countEvents (events : List (EventKind × Nat × Option Source)) (s : State) : State :=
  events.foldl (fun t e => countEvent e.1 e.2.1 e.2.2 t) s

theorem countEvents_sameBut : ∀ (events : List (EventKind × Nat × Option Source)) {t base : State},
    t.sameButNotices base → (countEvents events t).sameButNotices { base with stats := base.countedAll events }
  | [], _, _, h => h
  | (ev, sub, src) :: events, _, _, h => countEvents_sameBut events (countEvent_sameBut_behind h ev sub src)

theorem countEvents_latchesStay (but : List Latch) : ∀ (events : List (EventKind × Nat × Option Source)) (s : State),
    (countEvents events s).latchesStay s but
  | [], _ => State.latchesStay_of_eq rfl but
  | (ev, sub, src) :: events, s =>
    State.latchesStay_trans (countEvents_latchesStay but events _) (countEvent_latchesStay ev sub src s but)

/-! ### The queues (R6) -/

/-- The discards of a change to STANDBY. -/
def State.flushes (s : State) : List (EventKind × Nat × Option Source) :=
  allSources.flatMap fun q => (s.intake.queues.get q).map fun _ => (.telegramDiscard, 2, some q)

theorem flushQueues_eq (s : State) :
    flushQueues s = { countEvents s.flushes s with intake := { s.intake with queues := .all [] } } := by
  have counted : ∀ t : State, allSources.foldl
      (fun st q => (s.intake.queues.get q).foldl (fun st' _ => countDiscard .notRunning q st') st) t =
        countEvents s.flushes t := fun t => by
    rw [countEvents, State.flushes, List.foldl_flatMap]
    simp only [List.foldl_map]
    rfl
  have intake : (countEvents s.flushes s).intake = s.intake :=
    foldl_keeps (fun t : State => t.intake) _ (fun t e => countEvent_intake _ _ _ _) _ s
  rw [flushQueues, counted]
  simp only [intake]

theorem flushQueues_sameBut (s : State) : (flushQueues s).sameButNotices { s with
    intake := { s.intake with queues := .all [] }, stats := s.countedAll s.flushes } := by
  rw [flushQueues_eq]
  exact Blind.sameBut (f := fun u : State => { u with intake := { s.intake with queues := .all [] } })
    (fun _ _ _ _ _ => rfl) (countEvents_sameBut s.flushes (State.sameButNotices_refl s))

theorem flushQueues_latchesStay (s : State) (but : List Latch) : (flushQueues s).latchesStay s but := by
  rw [flushQueues_eq]
  exact State.latchesStay_trans (State.latchesStay_of_eq rfl but) (countEvents_latchesStay but s.flushes s)

/-! ### The outcome buffer over several records (R159) -/

/-- The buffer behind the arrival of a record. -/
def OutcomeBuffer.taking (o : OutcomeBuffer) (mode : OutcomeMode) (r : OutcomeRecord) : OutcomeBuffer :=
  if o.records.length < 64 then { o with records := o.records ++ [r] }
  else { records := match mode with
           | .wrap => o.records.tail ++ [r]
           | .stop => o.records
         lost := tally16 o.lost }

theorem outcomeArrives_sameBut (r : OutcomeRecord) (s : State) : (outcomeArrives r s).sameButNotices { s with
    outcomes := s.outcomes.taking s.config.general.outcomeMode r } := by
  unfold outcomeArrives OutcomeBuffer.taking
  dsimp only
  split
  · split
    · exact latchNotice_sameBut _ _ _
    · exact State.sameButNotices_refl _
  · exact latchNotice_sameBut _ _ _

/-- What a full buffer keeps of all that it held and took. -/
def OutcomeMode.keeps (mode : OutcomeMode) (all : List OutcomeRecord) : List OutcomeRecord :=
  match mode with
  | .stop => all.take 64
  | .wrap => all.drop (all.length - 64)

theorem OutcomeMode.keeps_all (mode : OutcomeMode) {all : List OutcomeRecord} (room : all.length ≤ 64) :
    mode.keeps all = all := by
  cases mode with
  | stop => exact List.take_of_length_le room
  | wrap => rw [OutcomeMode.keeps, Nat.sub_eq_zero_of_le room, List.drop_zero]

theorem OutcomeMode.keeps_length (mode : OutcomeMode) (all : List OutcomeRecord) :
    (mode.keeps all).length = min 64 all.length := by
  cases mode <;> simp only [OutcomeMode.keeps, List.length_take, List.length_drop]
  omega

/-- A record behind a full buffer: the same as of all of them together. -/
theorem OutcomeMode.keeps_concat (mode : OutcomeMode) {all : List OutcomeRecord} (full : 64 ≤ all.length)
    (r : OutcomeRecord) : mode.keeps (all ++ [r]) =
      match mode with
      | .wrap => (mode.keeps all).tail ++ [r]
      | .stop => mode.keeps all := by
  cases mode with
  | stop => exact List.take_append_of_le_length full
  | wrap =>
    simp only [OutcomeMode.keeps, List.tail_drop, List.length_append, List.length_singleton]
    rw [List.drop_append_of_le_length (by omega)]
    congr 2
    omega

/-- Records that arrive one after another (R159). -/
theorem foldl_taking (mode : OutcomeMode) (o : OutcomeBuffer) (sound : o.records.length ≤ 64) :
    ∀ l : List OutcomeRecord, l.foldl (fun b r => b.taking mode r) o =
      { records := mode.keeps (o.records ++ l)
        lost := if (o.records ++ l).length - 64 = 0 then o.lost
          else min 65535 (o.lost + ((o.records ++ l).length - 64)) } := by
  intro l
  induction l using List.reverseRecOn with
  | nil =>
    rw [List.append_nil, mode.keeps_all sound, if_pos (Nat.sub_eq_zero_of_le sound)]
    rfl
  | append_singleton l r ih =>
    rw [List.foldl_append, ih, List.foldl_cons, List.foldl_nil, ← List.append_assoc]
    generalize o.records ++ l = all
    unfold OutcomeBuffer.taking
    rw [mode.keeps_length]
    by_cases room : all.length < 64
    · rw [if_pos (by omega), if_pos (by omega), mode.keeps_all (by omega), mode.keeps_all (by simp; omega),
        if_pos (by simp; omega)]
    · rw [if_neg (by omega), mode.keeps_concat (by omega)]
      congr 1
      simp only [tally16, List.length_append, List.length_singleton]
      split <;> split <;> omega

/-! ### The entries (R24) -/

/-- The record of an entry that a change to STANDBY removes. -/
def abandonRecord (now : PartTime) (e : Entry) : OutcomeRecord := outcomeRecord e .abandoned now false

/-- The removal of an entry at a change to STANDBY without what latching does. -/
def abandonQuietly (s : State) (e : Entry) : State :=
  { s with table := s.table.filter (fun q => q.bus != e.bus),
           planner := { s.planner with
             grant := s.planner.grant.map fun g => { g with members := g.members.filter fun b => b != e.bus } },
           outcomes := s.outcomes.taking s.config.general.outcomeMode (abandonRecord s.now e),
           stats := s.counted .close 9 (some (.port e.approach)) }

theorem abandonQuietly_blind (e : Entry) : Blind fun s => abandonQuietly s e := fun _ _ _ _ _ => rfl

theorem abandonEntry_sameBut (s : State) (e : Entry) : (abandonEntry s e).sameButNotices (abandonQuietly s e) := by
  have departed := outcomeArrives_sameBut (abandonRecord s.now e)
    (s.onGrant fun g => { g with members := g.members.filter fun b => b != e.bus })
  exact Blind.sameBut (f := removeEntry e.bus) (fun _ _ _ _ _ => rfl)
    (countEvent_sameBut_behind departed .close 9 (some (.port e.approach)))

theorem abandonEntry_latchesStay (s : State) (e : Entry) :
    (abandonEntry s e).latchesStay s [.outcomesWaiting, .outcomeOverrun] :=
  State.latchesStay_trans (State.latchesStay_of_eq rfl _)
    (State.latchesStay_trans (countEvent_latchesStay _ _ _ _ _)
      (State.latchesStay_trans (outcomeArrives_latchesStay _ _) (State.latchesStay_of_eq rfl _)))

theorem foldl_abandonEntry_sameBut : ∀ (l : List Entry) {t base : State}, t.sameButNotices base →
    (l.foldl abandonEntry t).sameButNotices (l.foldl abandonQuietly base)
  | [], _, _, h => h
  | e :: l, t, _, h => foldl_abandonEntry_sameBut l
    (State.sameButNotices_trans (abandonEntry_sameBut t e) (Blind.sameBut (abandonQuietly_blind e) h))

theorem foldl_abandonEntry_latchesStay : ∀ (l : List Entry) (s : State),
    (l.foldl abandonEntry s).latchesStay s [.outcomesWaiting, .outcomeOverrun]
  | [], _ => State.latchesStay_of_eq rfl _
  | e :: l, s => State.latchesStay_trans (foldl_abandonEntry_latchesStay l _) (abandonEntry_latchesStay s e)

/-- What several removals leave. -/
theorem foldl_abandonQuietly : ∀ (l : List Entry) (s : State), ∃ grant, l.foldl abandonQuietly s = { s with
    table := s.table.filter (fun e => l.all fun q => e.bus != q.bus),
    planner := { s.planner with grant := grant },
    outcomes := (l.map (abandonRecord s.now)).foldl (fun b r => b.taking s.config.general.outcomeMode r) s.outcomes,
    stats := s.countedAll (l.map fun e => (.close, 9, some (.port e.approach))) }
  | [], s => ⟨s.planner.grant, by simp [State.countedAll]⟩
  | e :: l, s => by
    obtain ⟨grant, left⟩ := foldl_abandonQuietly l (abandonQuietly s e)
    have table : (abandonQuietly s e).table.filter (fun a => l.all fun q => a.bus != q.bus) =
        s.table.filter fun a => (e :: l).all fun q => a.bus != q.bus := by
      simp only [abandonQuietly, List.filter_filter, List.all_cons, Bool.and_comm]
    refine ⟨grant, ?_⟩
    rw [List.foldl_cons, left, table]
    rfl

theorem filter_all_self (l : List Entry) : (l.filter fun e => l.all fun q => e.bus != q.bus) = [] := by
  rw [List.filter_eq_nil_iff]
  intro e mem all
  simpa using List.all_eq_true.1 all e mem

/-! ### The change (R150) -/

/-- What a change to STANDBY leaves beside what latching does. -/
def State.emptied (s : State) : State :=
  { s with
    mode := .standby, table := [], intake := { s.intake with queues := .all [] },
    planner := { s.planner with
      slot := none, grant := none, lost := none, revise := none, passDue := false, passMark := false,
      ledger := s.planner.ledger.release },
    outcomes := (s.table.map (abandonRecord s.now)).foldl
      (fun b r => b.taking s.config.general.outcomeMode r) s.outcomes,
    stats := s.countedAll (s.flushes ++ s.table.map fun e => (.close, 9, some (.port e.approach))),
    link := { s.link with
      outbound := match s.planner.slot with
        | some c => removeUnsent c.tag s.link.outbound
        | none => s.link.outbound } }

/-- The steps of the change behind the removals. -/
def settleStandby (s : State) : State := { dropPass (discardWork s) with mode := .standby }

theorem settleStandby_eq (s : State) : settleStandby s = { s with
    mode := .standby,
    planner := { s.planner with
      slot := none, grant := none, lost := none, revise := none, passDue := false, passMark := false,
      ledger := s.planner.ledger.release },
    link := { s.link with
      outbound := match s.planner.slot with
        | some c => removeUnsent c.tag s.link.outbound
        | none => s.link.outbound } } := by
  unfold settleStandby discardWork
  cases slot : s.planner.slot with
  | none =>
    rw [emptySlot_of_none slot]
    simp only [dropPass, State.onPlanner, slot]
  | some c =>
    rw [emptySlot_of_some slot]
    rfl

theorem settleStandby_blind : Blind settleStandby := by
  have onPlanner : Blind fun s : State => { dropPass (s.onPlanner fun p => { p with
      ledger := p.ledger.release, grant := none, lost := none, revise := none }) with mode := .standby } :=
    fun _ _ _ _ _ => rfl
  exact onPlanner.comp Blind.emptySlot

theorem enterStandby_sameBut (s : State) : (enterStandby s).sameButNotices s.emptied := by
  have entries : (flushQueues s).table = s.table := (sameButNotices_table (flushQueues_sameBut s):)
  have left := foldl_abandonEntry_sameBut s.table (flushQueues_sameBut s)
  obtain ⟨grant, quiet⟩ := foldl_abandonQuietly s.table { s with
    intake := { s.intake with queues := .all [] }, stats := s.countedAll s.flushes }
  rw [quiet, filter_all_self] at left
  have settled := settleStandby_blind.sameBut left
  have same : enterStandby s = settleStandby (s.table.foldl abandonEntry (flushQueues s)) := by
    rw [enterStandby, abandonAll, entries]
    rfl
  rw [← same, settleStandby_eq] at settled
  unfold State.emptied
  rw [State.countedAll_append]
  exact settled

theorem enterStandby_latchesStay (s : State) : (enterStandby s).latchesStay s [.outcomesWaiting, .outcomeOverrun] :=
  State.latchesStay_trans (settleStandby_blind.latchesStay _ _)
    (State.latchesStay_trans (foldl_abandonEntry_latchesStay _ _) (flushQueues_latchesStay s _))

/-! ### The row (R146) -/

theorem unasked_asking {v base : State} {rest : List AskedMessage} (same : v.sameButNotices (base.asking rest)) :
    (v.unasked base.link.asked).asking rest = v ∧ (v.unasked base.link.asked).sameButNotices base := by
  obtain ⟨latches, out, dropped, rfl, notices, kept⟩ := same
  exact ⟨rfl, latches, out, dropped, rfl, notices, kept⟩

theorem judgeMode_active {s : State} (awake : s.mode ≠ .standby) (work : s.workInFlight = true) :
    judgeMode .standby false s = (s, .bare .grantActive) := by
  rw [judgeMode, if_neg (Ne.symm awake), if_neg (fun h => awake h.1), if_pos ⟨rfl, rfl, work⟩]

theorem judgeMode_standby {s : State} {force : Bool} (awake : s.mode ≠ .standby)
    (free : force = true ∨ s.workInFlight = false) :
    judgeMode .standby force s = (enterStandby s, modeReply .standby s.workInFlight) := by
  rw [judgeMode, if_neg (Ne.symm awake), if_neg (fun h => awake h.1), if_neg]
  · rfl
  · rintro ⟨-, unforced, work⟩
    rcases free with forced | idle
    · exact Bool.false_ne_true (unforced.symm.trans forced)
    · exact Bool.false_ne_true (idle.symm.trans work)

/-- Settles O43. -/
theorem setModeStandbyEmptiesThePart : Obligations.SetModeStandbyEmptiesThePart := by
  unfold Obligations.SetModeStandbyEmptiesThePart
  intro m rest force s takes kind body code awake
  refine ⟨fun clear work => ?_, fun free => ?_⟩
  · subst clear
    exact setMode_answered takes kind body code rfl (r := .bare .grantActive)
      (judgeMode_active (s := s.asking rest) awake work)
  · have judged := judgeMode_standby (s := s.asking rest) (force := force == 1) awake
      (free.imp_left fun forced => by rw [forced]; rfl)
    have emptied : (enterStandby (s.asking rest)).sameButNotices (s.emptied.asking rest) :=
      enterStandby_sameBut (s.asking rest)
    obtain ⟨asking, same⟩ := unasked_asking emptied
    generalize left : (enterStandby (s.asking rest)).unasked s.emptied.link.asked = u at asking same
    have outcomes : u.outcomes = s.emptied.outcomes := by
      obtain ⟨_, _, _, rfl, _, _⟩ := same
      rfl
    have latches : u.latchesStay s [.outcomesWaiting, .outcomeOverrun] := left ▸ enterStandby_latchesStay (s.asking rest)
    refine ⟨u, ?_, outcomes ▸ same, latches, fun sound => ⟨abandonRecord s.now,
      fun e _ => ⟨outcomeRecord_isOf e .abandoned s.now false, rfl⟩, ?_⟩, fun room => ?_⟩
    · exact setMode_answered takes kind body code rfl (judged.trans (by rw [asking]))
    · rw [outcomes, State.emptied, foldl_taking _ _ sound]
      exact ⟨rfl, rfl⟩
    · have within : (s.outcomes.records ++ s.table.map (abandonRecord s.now)).length ≤ 64 := by simpa using room
      refine ⟨s.table.map (abandonRecord s.now), ?_, ?_, ?_⟩
      · rw [outcomes, State.emptied, foldl_taking _ _ (by omega), OutcomeMode.keeps_all _ within,
          if_pos (Nat.sub_eq_zero_of_le within)]
      · rw [List.map_map]
        rfl
      · rw [List.map_map]
        rfl

end Sys2Proof.Machine
end


section
/-! SUPPORT. The feed of each second (R163): amounts added to several counters at once, beside what latching does. -/

namespace Sys2Proof.Machine

theorem addToCounters_sameBut (f : Counter → Nat) (s : State) : (addToCounters f s).sameButNotices { s with
    stats := { s.stats with counters := s.stats.counters.map fun c => c.add (f c) } } :=
  sameButNotices_of (noticedFrom_trans (addToCounters_noticed f s) (noticedFrom_of_eq rfl rfl)) (by simp) (by simp)
    (by simp) (by simp) (by simp) (by simp) (by simp) (by simp) (by simp) (by simp) (by simp) (by simp) (by simp)
    (addToCounters_stats f s) (by simp) (by simp) (by simp)

/-- The feed of one counter within its limit. -/
theorem Counter.add_occupancy {c : Counter} (within : c.value ≤ 4294967295) (table : List Entry) :
    c.add (c.occupancy table) =
      if c.event = some .tableOccupancy then
        { c with value := min 4294967295 (c.value + (table.filter fun e =>
            c.subMask.getLsbD e.state.code && c.sourceMask.getLsbD (Approach.index e.approach)).length) }
      else c := by
  unfold Counter.occupancy
  split
  · rfl
  · rw [Counter.add, Nat.add_zero, Nat.min_eq_right within]

/-- Settles O47. -/
theorem occupancyFeedAddsEntries : Obligations.OccupancyFeedAddsEntries := by
  unfold Obligations.OccupancyFeedAddsEntries
  intro s running started second unfed within
  have owed : s.feedOwed = true := by
    simp only [State.feedOwed, second, unfed, bne_iff_ne.2 started]
    rfl
  have runs : exec .tableOccupancy s = .next { addToCounters (Counter.occupancy s.table) s with occupancyFed := true } :=
    (whenRunning_running running feedOccupancy).trans (congrArg _ (if_pos owed))
  refine ⟨_, runs, ?_⟩
  have fed := Blind.sameBut (f := fun u : State => { u with occupancyFed := true }) (fun _ _ _ _ _ => rfl)
    (addToCounters_sameBut (Counter.occupancy s.table) s)
  rw [List.map_congr_left fun c mem => Counter.add_occupancy (within c mem) s.table] at fed
  exact fed

end Sys2Proof.Machine
end


section
/-! SUPPORT. The framer of an approach port (sections 6.2 and 6.3): the search for a marker, the tests of a candidate,
and what writing one port after another leaves. -/

namespace Sys2Proof.Machine

/-! ### One port -/

theorem PerApproach.set_set {α : Type} (v : PerApproach α) (x : Approach) (a b : α) : (v.set x a).set x b = v.set x b := by
  cases x <;> rfl

theorem onPort_eq {s : State} {x : Approach} {p : Port} (held : s.ports.get x = p) (f : Port → Port) :
    s.onPort x f = { s with ports := s.ports.set x (f p) } := by
  subst held
  rfl

theorem onPort_onPort (s : State) (x : Approach) (f g : Port → Port) :
    (s.onPort x f).onPort x g = s.onPort x fun p => g (f p) := by
  simp only [State.onPort, PerApproach.get_set_self, PerApproach.set_set]

/-- Two writes to one port, from what it held. -/
theorem onPort_twice {s : State} {x : Approach} {p : Port} (held : s.ports.get x = p) (f g : Port → Port) :
    (s.onPort x f).onPort x g = { s with ports := s.ports.set x (g (f p)) } := by
  rw [onPort_onPort, onPort_eq held]

/-! ### HUNT (R112) -/

theorem searchMarker_skip {b : Bool} {bits : Bits} (long : 8 ≤ (b :: bits).length)
    (other : octetOfBits (b :: bits) ≠ marker) : searchMarker (b :: bits) = searchMarker bits := by
  rw [searchMarker, if_neg (Nat.not_lt.2 long), if_neg other, if_neg other]
  exact ite_self _

/-- Bits before the first marker are passed over. -/
theorem searchMarker_drop : ∀ (k : Nat) (bits : Bits), k + 8 ≤ bits.length + 1 →
    (∀ j, j < k → octetOfBits (bits.drop j) ≠ marker) → searchMarker bits = searchMarker (bits.drop k)
  | 0, _, _, _ => rfl
  | k + 1, [], long, _ => by simp at long
  | k + 1, b :: bits, long, none_before => by
    simp only [List.length_cons] at long
    rw [searchMarker_skip (by rw [List.length_cons]; omega) (none_before 0 (by omega)),
      searchMarker_drop k bits (by omega) fun j before => none_before (j + 1) (by omega)]
    rfl

theorem searchMarker_here {bits : Bits} (long : 16 ≤ bits.length) (found : octetOfBits bits = marker) :
    searchMarker bits = (true, bits) := by
  cases bits with
  | nil => simp at long
  | cons b bits => rw [searchMarker, if_neg (Nat.not_lt.2 long), if_pos found]

theorem searchMarker_waits {bits : Bits} (long : 8 ≤ bits.length) (short : bits.length < 16)
    (found : octetOfBits bits = marker) : searchMarker bits = (false, bits) := by
  cases bits with
  | nil => rfl
  | cons b bits => rw [searchMarker, if_pos short, if_neg (Nat.not_lt.2 long), if_pos found]

theorem searchMarker_short {bits : Bits} (short : bits.length < 8) : searchMarker bits = (false, bits) := by
  cases bits with
  | nil => rfl
  | cons b bits => rw [searchMarker, if_pos (by omega), if_pos short]

/-- The row of HUNT by what the search gives. -/
theorem exec_candidateMarker {x : Approach} {new bits left : Bits} {s : State} {found : Bool} (running : s.held = false)
    (hunt : (s.ports.get x).framer = .hunt) (all : bits = (s.ports.get x).bits ++ new)
    (search : searchMarker bits = (found, left)) :
    exec (.candidateMarker x new) s = .next { s with
      ports := s.ports.set x (if found then
        { (s.ports.get x).clocked new.length with framer := .confirm, bits := left, passed := 0 }
      else { (s.ports.get x).clocked new.length with bits := left }) } := by
  have taken : exec (.candidateMarker x new) s = .next (candidateMarker x new s) := whenRunning_running running _
  rw [taken, candidateMarker, if_pos hunt, onPort_eq rfl, ← all, search]

/-- Settles O48. -/
theorem huntFindsFirstMarker : Obligations.HuntFindsFirstMarker := by
  unfold Obligations.HuntFindsFirstMarker
  intro x new bits s running hunt all
  refine ⟨fun k long found first => ?_, fun k long short found first => ?_, fun absent => ?_⟩
  · have search : searchMarker bits = (true, bits.drop k) :=
      (searchMarker_drop k bits (by omega) first).trans (searchMarker_here (by rw [List.length_drop]; omega) found)
    exact exec_candidateMarker running hunt all search
  · have search : searchMarker bits = (false, bits.drop k) :=
      (searchMarker_drop k bits (by omega) first).trans
        (searchMarker_waits (by rw [List.length_drop]; omega) (by rw [List.length_drop]; omega) found)
    exact exec_candidateMarker running hunt all search
  · have search : searchMarker bits = (false, bits.drop (bits.length - 7)) := by
      by_cases short : bits.length < 8
      · rw [searchMarker_short short, Nat.sub_eq_zero_of_le (by omega)]
        rfl
      · rw [searchMarker_drop (bits.length - 7) bits (by omega) fun j before => absent j (by omega)]
        exact searchMarker_short (by rw [List.length_drop]; omega)
    exact exec_candidateMarker running hunt all search

/-! ### CONFIRM (R113) -/

theorem confirmPasses_iff (bits : Bits) (j : Nat) : confirmPasses bits j = true ↔
    octetOfBits (bits.drop (264 * j)) = 0x6C ∧ positionAt bits j = (positionAt bits (j - 1) + 1) % 16 := by
  simp only [confirmPasses, Bool.and_eq_true, beq_iff_eq]
  rfl

/-- The third pass with its slot complete (R113, R115). -/
theorem enterAligned_enters (x : Approach) (expected n : Nat) (bits : Bits) {p : Port} {s : State}
    (held : s.ports.get x = p) :
    let t := enterAligned x expected bits (s.onPort x (Port.clocked n))
    t.ports = s.ports.set x { p.clocked n with
        framer := .aligned, bits := bits, passed := 0, expected := expected, judged := [], store := [],
        centring := true, centringIdle := 0, quarter := none, history := [], echo := false, repeats := 0 } ∧
      t.notices.latches.linkState.get x =
        (if (s.notices.latches.linkState.get x).isSome then s.notices.latches.linkState.get x
         else some { detail := 1, time := s.now }) ∧
      t.latchesStay s [.linkState x] ∧ t.sameButNotices { s with ports := t.ports } := by
  intro t
  have entered : t = latchNotice (.linkState x) 1 { s with ports := s.ports.set x { p.clocked n with
      framer := .aligned, bits := bits, passed := 0, expected := expected, judged := [], store := [],
      centring := true, centringIdle := 0, quarter := none, history := [], echo := false, repeats := 0 } } :=
    congrArg (latchNotice (.linkState x) 1) (onPort_twice held _ _)
  have ports : t.ports = _ := (congrArg State.ports entered).trans (latchNotice_ports _ _ _)
  refine ⟨ports, ?_, ?_, ?_⟩
  · rw [entered]
    exact latchNotice_get_same (.linkState x) 1 _
  · rw [entered]
    exact latchNotice_latchesStay (.linkState x) 1 _
  · rw [ports, entered]
    exact latchNotice_sameBut _ _ _

/-- The row of CONFIRM, its bits and its port named (R113). -/
theorem confirmTest_eq {x : Approach} {new bits : Bits} {p : Port} {s : State} (held : s.ports.get x = p)
    (confirm : p.framer = .confirm) (all : bits = p.bits ++ new) :
    confirmTest x new s =
      let enter := enterAligned x ((positionAt bits 3 + 1) % 16) (bits.drop (264 * 4)) (s.onPort x (Port.clocked new.length))
      let write := fun q : Port => { s with ports := s.ports.set x q }
      if p.passed < 3 then
        if bits.length < 264 * (p.passed + 1) + 16 then write { p.clocked new.length with bits := bits }
        else if confirmPasses bits (p.passed + 1) then
          if p.passed + 1 = 3 ∧ 264 * 4 ≤ bits.length then enter
          else write { p.clocked new.length with bits := bits, passed := p.passed + 1 }
        else write { p.clocked new.length with framer := .hunt, bits := bits.drop 1, passed := 0 }
      else if 264 * 4 ≤ bits.length then enter
      else write { p.clocked new.length with bits := bits } := by
  subst held
  subst all
  rw [confirmTest]
  simp only [if_pos confirm, onPort_twice rfl]

/-- Settles O49. -/
theorem confirmTestsThreeFrames : Obligations.ConfirmTestsThreeFrames := by
  unfold Obligations.ConfirmTestsThreeFrames
  intro x new bits p s running held confirm all
  have row := confirmTest_eq held confirm all
  have runs : ∀ t, confirmTest x new s = t → exec (.confirmTest x new) s = .next t := fun t run =>
    (whenRunning_running running _).trans (congrArg _ run)
  intro position keeps aligns
  have enters : confirmTest x new s = enterAligned x ((positionAt bits 3 + 1) % 16) (bits.drop (264 * 4))
      (s.onPort x (Port.clocked new.length)) → aligns := fun enter =>
    ⟨_, runs _ enter, enterAligned_enters x _ new.length _ held⟩
  refine ⟨fun early few => ?_, fun early enough => ?_, fun third incomplete => ?_, fun third complete => ?_⟩
  · simp only [if_pos early, if_pos few] at row
    exact runs _ row
  · simp only [if_pos early, if_neg (Nat.not_lt.2 enough)] at row
    intro good
    refine ⟨fun fails => ?_, fun passes incomplete => ?_, fun passes third complete => ?_⟩
    · simp only [if_neg (mt (confirmPasses_iff _ _).1 fails)] at row
      exact runs _ row
    · simp only [if_pos ((confirmPasses_iff _ _).2 passes)] at row
      rw [if_neg (by omega)] at row
      exact runs _ row
    · simp only [if_pos ((confirmPasses_iff _ _).2 passes)] at row
      rw [if_pos (by omega)] at row
      exact enters row
  · rw [if_neg (by omega), if_neg (by omega)] at row
    have same : ({ p.clocked new.length with bits := bits, passed := 3 } : Port) =
        { p.clocked new.length with bits := bits } := by
      rw [← third]
      rfl
    exact runs _ (row.trans (by rw [same]))
  · rw [if_neg (by omega), if_pos (by omega)] at row
    exact enters row

end Sys2Proof.Machine
end


section
/-! SUPPORT. The exits from ALIGNED and the elastic store (sections 6.2 and 6.3): discards of a quarter's telegrams, what
leaving ALIGNED counts and latches, and the frame slots. -/

namespace Sys2Proof.Machine

/-! ### Discards of slots (R120, R121) -/

theorem PerApproach.set_get {α : Type} (v : PerApproach α) (x : Approach) : v.set x (v.get x) = v := by
  cases x <;> rfl

theorem linkState_mem (x : Approach) : Latch.linkState x ∈ latchesInOrder := by
  cases x <;> decide

theorem foldl_discard (why : Discard) (x : Approach) : ∀ (l : List (List Octet)) (s : State),
    l.foldl (fun st os => if slotEmpty os then st else countDiscard why (.port x) st) s =
      countEvents (List.replicate (l.filter fun os => !slotEmpty os).length (.telegramDiscard, why.index, some (.port x))) s
  | [], _ => rfl
  | os :: l, s => by
    rw [List.foldl_cons, foldl_discard why x l, List.filter_cons]
    cases slotEmpty os <;> rfl

theorem discardSlots_eq (why : Discard) (x : Approach) (payloads : List (List Octet)) (s : State) :
    discardSlots why x payloads s = countEvents (discards (slotsUsed payloads) why x) s :=
  foldl_discard why x (payloads.flatMap payloadSlots) s

/-! ### Leaving ALIGNED (R115) -/

/-- The payloads of the quarter under assembly. -/
def Port.unsettled (p : Port) : List (List Octet) :=
  match p.quarter with
  | some q => q.payloads
  | none => []

/-- What leaving ALIGNED counts (R115, R120). -/
def Port.lossEvents (p : Port) (x : Approach) : List (EventKind × Nat × Option Source) :=
  (.linkReframe, 0, some (.port x)) :: discards (slotsUsed p.unsettled) .slipLoss x

/-- The port of an exit from ALIGNED, before the state entered. -/
def Port.cleared (p : Port) : Port :=
  { p with store := [], centring := false, centringIdle := 0, quarter := none, farAlarm := false, senderFault := false,
           echo := false }

theorem leaveAligned_eq (x : Approach) (s : State) : leaveAligned x s =
    (countEvents ((s.ports.get x).lossEvents x) (latchNotice (.linkState x) 0 s)).onPort x Port.cleared := by
  unfold leaveAligned
  dsimp only
  rw [discardSlots_eq]
  rfl

theorem onPort_blind (x : Approach) (f : Port → Port) : Blind fun s => s.onPort x f := fun _ _ _ _ _ => rfl

theorem sameButNotices_ports {t base : State} (h : t.sameButNotices base) : t.ports = base.ports := by
  obtain ⟨_, _, _, rfl, _, _⟩ := h
  rfl

theorem leaveAligned_sameBut {t base : State} (same : t.sameButNotices base) (x : Approach) :
    (leaveAligned x t).sameButNotices { base with
      ports := base.ports.set x (base.ports.get x).cleared,
      stats := base.countedAll ((base.ports.get x).lossEvents x) } := by
  rw [leaveAligned_eq, sameButNotices_ports same]
  exact (onPort_blind x Port.cleared).sameBut
    (countEvents_sameBut _ (State.sameButNotices_trans (latchNotice_sameBut (.linkState x) 0 t) same))

theorem leaveAligned_latchesStay (x : Approach) (s : State) : (leaveAligned x s).latchesStay s [.linkState x] := by
  rw [leaveAligned_eq]
  exact State.latchesStay_trans ((onPort_blind x Port.cleared).latchesStay _ _)
    (State.latchesStay_trans (countEvents_latchesStay _ _ _) (latchNotice_latchesStay (.linkState x) 0 s))

theorem leaveAligned_linkState (x : Approach) (s : State) :
    (leaveAligned x s).notices.latches.linkState.get x = setOnce (s.notices.latches.linkState.get x) 0 s.now := by
  have counted := countEvents_latchesStay [] ((s.ports.get x).lossEvents x) (latchNotice (.linkState x) 0 s)
    (.linkState x) (linkState_mem x) nofun List.not_mem_nil
  rw [leaveAligned_eq]
  exact counted.trans (latchNotice_get_same (.linkState x) 0 s)

/-! ### Exits to HUNT -/

theorem exitToHunt_sameBut {t base : State} (same : t.sameButNotices base) (x : Approach) (bits : Bits) :
    (exitToHunt x bits t).sameButNotices { base with
      ports := base.ports.set x ((base.ports.get x).hunts bits),
      stats := base.countedAll ((base.ports.get x).lossEvents x) } := by
  have exit := (onPort_blind x fun p => { p with framer := .hunt, bits := bits, passed := 0 }).sameBut
    (leaveAligned_sameBut same x)
  simp only [State.onPort, PerApproach.get_set_self, PerApproach.set_set] at exit
  exact exit

theorem exitToHunt_latchesStay (x : Approach) (bits : Bits) (s : State) :
    (exitToHunt x bits s).latchesStay s [.linkState x] :=
  State.latchesStay_trans ((onPort_blind x _).latchesStay _ _) (leaveAligned_latchesStay x s)

/-- An exit to HUNT of a port that first became `q`, after events counted. -/
theorem exitToHunt_left {s t : State} {x : Approach} {q : Port} {first : List (EventKind × Nat × Option Source)}
    (same : t.sameButNotices { s with ports := s.ports.set x q, stats := s.countedAll first })
    (stay : t.latchesStay s []) (quarter : q.quarter = (s.ports.get x).quarter) (bits : Bits) :
    (exitToHunt x bits t).leftAligned s x (q.hunts bits) first := by
  have exit := exitToHunt_sameBut same x bits
  have latched : t.notices.latches.linkState.get x = s.notices.latches.linkState.get x :=
    stay (.linkState x) (linkState_mem x) nofun List.not_mem_nil
  have now : t.now = s.now := by
    obtain ⟨_, _, _, rfl, _, _⟩ := same
    rfl
  simp only [PerApproach.get_set_self, PerApproach.set_set] at exit
  refine ⟨?_, ?_, ?_⟩
  · exact (leaveAligned_linkState x t).trans (by rw [latched, now])
  · exact State.latchesStay_trans (exitToHunt_latchesStay x bits t) (State.latchesStay_weaken stay nofun)
  · rw [State.countedAll_append]
    rw [Port.lossEvents, Port.unsettled, quarter] at exit
    exact exit

/-- An exit that loses the inbound clock too (R124). -/
theorem clockLost_left {s t : State} {x : Approach} {q : Port} {first : List (EventKind × Nat × Option Source)}
    (same : t.sameButNotices { s with ports := s.ports.set x q, stats := s.countedAll first })
    (stay : t.latchesStay s []) (quarter : q.quarter = (s.ports.get x).quarter) :
    (clockLost x t).leftAligned s x
      { q.hunts [] with sending := q.sending.map fun r => { r with timing := .local } } first := by
  obtain ⟨latched, stays, exit⟩ := exitToHunt_left same stay quarter []
  have finished := (onPort_blind x Port.finishLocally).sameBut exit
  simp only [State.onPort, PerApproach.get_set_self, PerApproach.set_set] at finished
  exact ⟨latched, stays, finished⟩

/-! ### The elastic store (R116, R117) -/

theorem writeFrame_room {x : Approach} {p : Port} {s : State} (held : s.ports.get x = p) (room : p.store.length < 4)
    (f : Frame) : writeFrame x f s = s.onPort x fun q => { q with
      store := p.store ++ [f], centring := p.centring && p.store.isEmpty, centringIdle := 0 } := by
  subst held
  unfold writeFrame
  split
  · next a b rest store =>
    rw [store] at room
    rw [if_pos (by simp only [List.length_cons] at room; omega), store]
    simp
  · next a store =>
    rw [store]
    simp
  · next store =>
    rw [store]
    simp only [State.onPort, List.isEmpty_nil, Bool.and_true, List.nil_append]

theorem writeFrame_full {x : Approach} {a b c d f : Frame} {s : State} (full : (s.ports.get x).store = [a, b, c, d]) :
    writeFrame x f s = countEvent .linkSlip 0 (some (.port x)) (s.onPort x fun p =>
      { p with store := [{ b with lost := b.lost + 1 + a.lost }, c, d, f], lastSlip := .drop }) := by
  unfold writeFrame
  rw [full]
  rfl

/-- A write into the store of a port that has just been written. -/
theorem writeFrame_set_room (x : Approach) {q : Port} (room : q.store.length < 4) (f : Frame) (s : State) :
    writeFrame x f { s with ports := s.ports.set x q } = { s with ports := s.ports.set x { q with
      store := q.store ++ [f], centring := q.centring && q.store.isEmpty, centringIdle := 0 } } := by
  rw [writeFrame_room (PerApproach.get_set_self _ _ _) room, onPort_eq (PerApproach.get_set_self _ _ _),
    PerApproach.set_set]

theorem writeFrame_set_full (x : Approach) {q : Port} {a b c d : Frame} (full : q.store = [a, b, c, d]) (f : Frame)
    (s : State) : (writeFrame x f { s with ports := s.ports.set x q }).sameButNotices { s with
      ports := s.ports.set x { q with store := [{ b with lost := b.lost + 1 + a.lost }, c, d, f], lastSlip := .drop },
      stats := s.counted .linkSlip 0 (some (.port x)) } := by
  rw [writeFrame_full (by rw [PerApproach.get_set_self]; exact full), onPort_eq (PerApproach.get_set_self _ _ _),
    PerApproach.set_set]
  exact countEvent_sameBut _ _ _ _

theorem newest_concat {α : Type} (n : Nat) (l : List α) (a : α) :
    newest n (l ++ [a]) = (l ++ [a]).drop (l.length + 1 - n) := by
  rw [newest, List.length_append, List.length_singleton]

/-- The row of ALIGNED, its bits and its port named (R114). -/
theorem frameSlot_eq {x : Approach} {new bits : Bits} {p : Port} {s : State} (held : s.ports.get x = p)
    (aligned : p.framer = .aligned) (all : bits = p.bits ++ new) :
    frameSlot x new s =
      let os := octetsOfBits 33 bits
      let wrong := (os[0]?).getD 0 != 0x6C || controlPos ((os[1]?).getD 0) != p.expected
      let judged := (p.judged ++ [wrong]).drop (p.judged.length + 1 - 16)
      let f : Frame := { control := (os[1]?).getD 0, aux := (os[2]?).getD 0, payload := os.drop 3, pos := p.expected,
                         marked := wrong, lost := 0 }
      let write := fun q : Port => { s with ports := s.ports.set x q }
      if bits.length < 264 then write { p.clocked new.length with bits := bits }
      else if 4 ≤ judged.count true then exitToHunt x (bits.drop 264) (write (p.clocked new.length))
      else writeFrame x f (write { p.clocked new.length with
        bits := bits.drop 264, judged := judged, expected := (p.expected + 1) % 16 }) := by
  subst held
  subst all
  rw [frameSlot]
  simp only [if_pos aligned, newest_concat, onPort_twice rfl]
  rfl

/-- Settles O50. -/
theorem frameSlotJudgedAndWritten : Obligations.FrameSlotJudgedAndWritten := by
  unfold Obligations.FrameSlotJudgedAndWritten
  intro x new bits p s running held aligned all
  have runs : ∀ t, frameSlot x new s = t → exec (.frameSlot x new) s = .next t := fun t run =>
    (whenRunning_running running _).trans (congrArg _ run)
  have row := frameSlot_eq held aligned all
  refine ⟨fun few => ?_, fun enough => ?_⟩
  · exact runs _ (row.trans (if_pos few))
  · intro os wrong judged f
    let read : Port :=
      { p.clocked new.length with bits := bits.drop 264, judged := judged, expected := (p.expected + 1) % 16 }
    have row := row.trans (if_neg (Nat.not_lt.2 enough))
    refine ⟨fun fourth => ?_, fun good room => ?_, fun a b c d good full => ?_⟩
    · refine ⟨_, runs _ (row.trans (if_pos fourth)), ?_⟩
      exact exitToHunt_left (q := p.clocked new.length) (first := []) (State.sameButNotices_refl _)
        (State.latchesStay_of_eq rfl _) (by rw [held]; rfl) _
    · exact runs _ ((row.trans (if_neg (Nat.not_le.2 good))).trans (writeFrame_set_room (q := read) x room f s))
    · exact ⟨_, runs _ (row.trans (if_neg (Nat.not_le.2 good))), writeFrame_set_full (q := read) x full f s⟩

end Sys2Proof.Machine
end


section
/-! SUPPORT. The local frame instant (sections 6.3 and 6.4): the bits of a frame, the slots of a good quarter at the
intake, and the settlement of a quarter. -/

namespace Sys2Proof.Machine

/-! ### Operations that do not look at the ports -/

theorem latchNotice_ports_comm (l : Latch) (d : Nat) (s : State) (ports : PerApproach Port) :
    { latchNotice l d s with ports := ports } = latchNotice l d { s with ports := ports } := by
  unfold latchNotice
  simp only
  split
  · rfl
  · split
    · unfold offerNotice
      simp only
      split <;> rfl
    · rfl

theorem addToCounters_ports_comm (f : Counter → Nat) (s : State) (ports : PerApproach Port) :
    { addToCounters f s with ports := ports } = addToCounters f { s with ports := ports } :=
  (List.foldl_hom (fun u : State => { u with ports := ports })
    fun u i => (latchNotice_ports_comm .counterSaturated i u ports).symm).symm

theorem takeSlot_ports_comm (src : Source) (x : Approach) (os : List Octet) (s : State) (ports : PerApproach Port) :
    { (takeSlot src x os s).1 with ports := ports } = (takeSlot src x os { s with ports := ports }).1 := by
  have counted : ∀ (ev : EventKind) (sub : Nat) (u : State),
      { countEvent ev sub (some src) u with ports := ports } = countEvent ev sub (some src) { u with ports := ports } :=
    fun ev sub u => addToCounters_ports_comm _ u ports
  have weak : State.weakSlot { s with ports := ports } src x os = s.weakSlot src x os := rfl
  unfold takeSlot
  simp only [weak]
  split
  · rfl
  · split
    · exact counted _ _ s
    · split
      · rfl
      · exact counted _ _ s
      · split
        · exact counted _ _ s
        · split
          · exact counted _ _ s
          · exact counted _ _ _

/-! ### The slots of a good quarter (R2 to R4) -/

theorem countEvent_saturation (ev : EventKind) (sub : Nat) (src : Option Source) (s : State) :
    (countEvent ev sub src s).sameButSaturation { s with stats := s.counted ev sub src } :=
  addToCounters_saturation _ s

theorem takeSlot_slotTaken (x : Approach) (os : List Octet) (s : State) :
    s.slotTaken (takeSlot (.port x) x os s).1 x os := by
  have weak_iff : s.weakSlot (.port x) x os = true ↔ ((os[13]?).getD 0).toNat < (s.config.approaches.get x).strength :=
    decide_eq_true_iff
  have empty_iff : slotEmpty os = true ↔ (os[0]?).getD 0 = 0 := beq_iff_eq
  unfold takeSlot
  refine ⟨fun empty => ?_, fun used weak => ?_, fun used strong => ⟨fun malformed => ?_, fun tg read => ⟨fun standby => ?_,
    fun awake full => ?_, fun awake room => ?_⟩⟩⟩
  · rw [if_pos (empty_iff.2 empty)]
  all_goals rw [if_neg (mt empty_iff.1 used)]
  · rw [if_pos (weak_iff.2 weak)]
    exact countEvent_saturation _ _ _ _
  all_goals rw [if_neg (mt weak_iff.1 (Nat.not_lt.2 strong))]
  · rw [malformed]
    exact countEvent_saturation _ _ _ _
  all_goals rw [read]
  · simp only [if_pos standby]
    exact countEvent_saturation _ _ _ _
  all_goals simp only [if_neg awake]
  · rw [if_pos (show 8 ≤ (s.intake.queues.get (.port x)).length from full)]
    exact countEvent_saturation _ _ _ _
  · rw [if_neg (Nat.not_le.2 (show (s.intake.queues.get (.port x)).length < 8 from room))]
    exact countEvent_saturation _ _ _ _

/-- Slots handed to the intake of one port, one after another. -/
def takeSlots (x : Approach) (l : List (List Octet)) (s : State) : State :=
  l.foldl (fun t os => (takeSlot (.port x) x os t).1) s

theorem takeSlots_slotsTaken (x : Approach) : ∀ (l : List (List Octet)) (s : State), s.slotsTaken (takeSlots x l s) x l
  | [], _ => rfl
  | os :: l, s => ⟨_, takeSlot_slotTaken x os s, takeSlots_slotsTaken x l _⟩

theorem takeSlots_onPort (x : Approach) (l : List (List Octet)) (f : Port → Port) (s : State) :
    (takeSlots x l s).onPort x f = takeSlots x l (s.onPort x f) := by
  have ports : (takeSlots x l s).ports = s.ports :=
    foldl_keeps (fun t : State => t.ports) _ (fun t os => takeSlot_ports _ _ _ t) _ s
  have moved : ∀ v, { takeSlots x l s with ports := v } = takeSlots x l { s with ports := v } := fun v =>
    (List.foldl_hom (fun u : State => { u with ports := v })
      fun u os => (takeSlot_ports_comm (.port x) x os u v).symm).symm
  rw [State.onPort, ports, moved]
  rfl

theorem deliverQuarter_eq (x : Approach) (payloads : List (List Octet)) (s : State) :
    deliverQuarter x payloads s =
      takeSlots x (payloads.flatMap fun payload => [payload.take 15, payload.drop 15]) s := rfl

/-! ### The bits of a frame (R119) -/

/-- The frame's bits read, if it is not marked. -/
def hearFrame (x : Approach) (f : Frame) (s : State) : State := if f.marked then s else readFrameBits x f s

/-- The port's status fields after a frame. -/
def Port.hearing (p : Port) (f : Frame) : Port :=
  { p with farAlarm := if f.marked = false then f.control.getLsbD 3 else p.farAlarm,
           senderFault := if f.marked = false then f.control.getLsbD 2 else p.senderFault }

/-- What reading a frame counts. -/
def Frame.seen (f : Frame) (x : Approach) : List (EventKind × Nat × Option Source) :=
  if f.marked = false ∧ f.pos % 4 = 1 ∧ f.aux.getLsbD 0 = true then [(.farBlockError, 0, some (.port x))] else []

/-- The alarm latches after a frame. -/
def State.alarmed (t s : State) (x : Approach) (f : Frame) : Prop :=
  t.notices.latches.farAlarm.get x =
      (if f.marked = false ∧ f.control.getLsbD 3 = true then setOnce (s.notices.latches.farAlarm.get x) 0 s.now
       else s.notices.latches.farAlarm.get x) ∧
    t.notices.latches.receiverFault.get x =
      (if f.marked = false ∧ f.control.getLsbD 2 = true then setOnce (s.notices.latches.receiverFault.get x) 0 s.now
       else s.notices.latches.receiverFault.get x)

theorem farAlarm_mem (x : Approach) : Latch.farAlarm x ∈ latchesInOrder := by
  cases x <;> decide

theorem receiverFault_mem (x : Approach) : Latch.receiverFault x ∈ latchesInOrder := by
  cases x <;> decide

/-- The alarm latches stay through what sets neither. -/
theorem State.alarmed_trans {u t s : State} {x : Approach} {f : Frame} {but : List Latch} (later : u.latchesStay t but)
    (far : Latch.farAlarm x ∉ but) (fault : Latch.receiverFault x ∉ but) (h : t.alarmed s x f) : u.alarmed s x f :=
  ⟨(later _ (farAlarm_mem x) nofun far).trans h.1, (later _ (receiverFault_mem x) nofun fault).trans h.2⟩

/-- Only the alarm latches are set. -/
def State.onlyAlarmed (t s : State) (x : Approach) (f : Frame) : Prop :=
  t.alarmed s x f ∧ t.latchesStay s [.farAlarm x, .receiverFault x]

theorem State.onlyAlarmed_trans {u t s : State} {x : Approach} {f : Frame} (later : u.latchesStay t [])
    (h : t.onlyAlarmed s x f) : u.onlyAlarmed s x f :=
  ⟨State.alarmed_trans later List.not_mem_nil List.not_mem_nil h.1,
    State.latchesStay_trans (State.latchesStay_weaken later nofun) h.2⟩

/-- A latch offered under a condition. -/
def latchWhen (c : Bool) (l : Latch) (s : State) : State := if c then latchNotice l 0 s else s

theorem latchWhen_sameBut (c : Bool) (l : Latch) (s : State) : (latchWhen c l s).sameButNotices s := by
  cases c
  · exact State.sameButNotices_refl s
  · exact latchNotice_sameBut l 0 s

theorem latchWhen_get (c : Bool) (l : Latch) (s : State) : (latchWhen c l s).notices.latches.get l =
    if c then setOnce (s.notices.latches.get l) 0 s.now else s.notices.latches.get l := by
  cases c
  · rfl
  · exact latchNotice_get_same l 0 s

theorem latchWhen_latchesStay (c : Bool) (l : Latch) (s : State) : (latchWhen c l s).latchesStay s [l] := by
  cases c
  · exact State.latchesStay_of_eq rfl _
  · exact latchNotice_latchesStay l 0 s

theorem readFrameBits_eq {f : Frame} (trusted : f.marked = false) (x : Approach) (s : State) : readFrameBits x f s =
    countEvents (f.seen x) (latchWhen (f.control.getLsbD 2) (.receiverFault x)
      (latchWhen (f.control.getLsbD 3) (.farAlarm x) (s.onPort x fun p => p.hearing f))) := by
  have events : ∀ u : State, countEvents (f.seen x) u =
      if f.pos % 4 = 1 ∧ f.aux.getLsbD 0 = true then countEvent .farBlockError 0 (some (.port x)) u else u := fun u => by
    simp only [Frame.seen, trusted, true_and]
    split <;> rfl
  rw [events]
  simp only [Port.hearing, if_pos trusted]
  rfl

theorem hearFrame_marked {f : Frame} (marked : f.marked = true) (x : Approach) (s : State) : hearFrame x f s = s :=
  if_pos marked

theorem hearFrame_sameBut (x : Approach) (f : Frame) (s : State) : (hearFrame x f s).sameButNotices { s with
    ports := s.ports.set x ((s.ports.get x).hearing f), stats := s.countedAll (f.seen x) } := by
  cases marked : f.marked with
  | true =>
    have same : (s.ports.get x).hearing f = s.ports.get x := by simp [Port.hearing, marked]
    rw [hearFrame_marked marked, same, PerApproach.set_get, Frame.seen, if_neg (by simp [marked])]
    exact State.sameButNotices_refl s
  | false =>
    rw [hearFrame, if_neg (by simp [marked]), readFrameBits_eq marked]
    exact countEvents_sameBut (f.seen x)
      (State.sameButNotices_trans (latchWhen_sameBut _ _ _) (latchWhen_sameBut _ _ _))

theorem hearFrame_latchesStay (x : Approach) (f : Frame) (s : State) :
    (hearFrame x f s).latchesStay s [.farAlarm x, .receiverFault x] := by
  cases marked : f.marked with
  | true =>
    rw [hearFrame_marked marked]
    exact State.latchesStay_of_eq rfl _
  | false =>
    rw [hearFrame, if_neg (by simp [marked]), readFrameBits_eq marked]
    refine State.latchesStay_trans (countEvents_latchesStay _ _ _) (State.latchesStay_trans
      (State.latchesStay_weaken (latchWhen_latchesStay _ _ _) (by simp)) (State.latchesStay_trans
        (State.latchesStay_weaken (latchWhen_latchesStay _ _ _) (by simp)) (State.latchesStay_of_eq rfl _)))

theorem hearFrame_alarmed (x : Approach) (f : Frame) (s : State) : (hearFrame x f s).alarmed s x f := by
  cases marked : f.marked with
  | true =>
    rw [hearFrame_marked marked]
    simp [State.alarmed, marked]
  | false =>
    rw [hearFrame, if_neg (by simp [marked]), readFrameBits_eq marked]
    refine State.alarmed_trans (countEvents_latchesStay [] _ _) List.not_mem_nil List.not_mem_nil ?_
    generalize started : (s.onPort x fun p => p.hearing f) = v
    have same : v.notices = s.notices ∧ v.now = s.now := by
      subst started
      exact ⟨rfl, rfl⟩
    have far := latchWhen_get (f.control.getLsbD 3) (.farAlarm x) v
    have fault := latchWhen_get (f.control.getLsbD 2) (.receiverFault x) (latchWhen (f.control.getLsbD 3) (.farAlarm x) v)
    have kept := latchWhen_latchesStay (f.control.getLsbD 2) (.receiverFault x)
      (latchWhen (f.control.getLsbD 3) (.farAlarm x) v) (.farAlarm x) (farAlarm_mem x) nofun (by simp)
    have before := latchWhen_latchesStay (f.control.getLsbD 3) (.farAlarm x) v (.receiverFault x) (receiverFault_mem x)
      nofun (by simp)
    have now : (latchWhen (f.control.getLsbD 3) (.farAlarm x) v).now = v.now := by
      unfold latchWhen
      split <;> simp
    rw [before, now] at fault
    rw [same.1, same.2] at far fault
    simp only [State.alarmed, marked, true_and]
    exact ⟨kept.trans far, fault⟩

/-! ### The settlement of a quarter (R120 to R122) -/

theorem Quarter.checked_iff (q : Quarter) (f : Frame) :
    q.checked f = true ↔ q.complete = true ∧ q.offset = 3 ∧ f.lost = 0 := by
  simp [Quarter.checked, and_assoc]

theorem Quarter.agrees_iff (q : Quarter) (f : Frame) :
    q.agrees f = true ↔ f.marked = false ∧ f.aux = crc8 q.payloads.flatten := by
  simp [Quarter.agrees]

/-- The port whose checker begins a quarter. -/
def Port.begins (f : Frame) (p : Port) : Port := { p with quarter := some (beginQuarter f) }

/-- The port behind the result of a checked quarter. -/
def Port.resulting (failed : Bool) (p : Port) : Port :=
  { p with history := (p.history ++ [failed]).drop (p.history.length + 1 - 16), echo := failed }

theorem recordResult_eq (x : Approach) (failed : Bool) (s : State) :
    recordResult x failed s = s.onPort x (Port.resulting failed) := by
  simp only [recordResult, newest_concat]
  rfl

theorem checkFrame_begins {x : Approach} {f : Frame} {s : State}
    (quiet : ((hearFrame x f s).ports.get x).quarter = none) :
    checkFrame x f s = (hearFrame x f s).onPort x (Port.begins f) := by
  unfold checkFrame
  rw [show (if f.marked then s else readFrameBits x f s) = hearFrame x f s from rfl]
  simp only [quiet]
  rfl

theorem checkFrame_joins {x : Approach} {f : Frame} {s : State} {q : Quarter}
    (held : ((hearFrame x f s).ports.get x).quarter = some q) (joins : q.offset + 1 + f.lost ≤ 3) :
    checkFrame x f s = (hearFrame x f s).onPort x fun p => { p with
      quarter := some { offset := q.offset + 1 + f.lost, payloads := q.payloads ++ [f.payload],
                        complete := q.complete && f.lost == 0 } } := by
  unfold checkFrame
  rw [show (if f.marked then s else readFrameBits x f s) = hearFrame x f s from rfl]
  simp only [held]
  rw [if_pos joins]

theorem checkFrame_settles {x : Approach} {f : Frame} {s : State} {q : Quarter}
    (held : ((hearFrame x f s).ports.get x).quarter = some q) (settles : 3 < q.offset + 1 + f.lost) :
    checkFrame x f s =
      forceHunt x q f ((settleQuarter x q f (hearFrame x f s)).onPort x (Port.begins f)) := by
  unfold checkFrame
  rw [show (if f.marked then s else readFrameBits x f s) = hearFrame x f s from rfl]
  simp only [held]
  rw [if_neg (Nat.not_le.2 settles)]
  rfl

/-- An incomplete quarter (R120). -/
theorem settled_incomplete {x : Approach} {q : Quarter} {f : Frame} (loose : ¬q.checked f = true) (s : State) :
    forceHunt x q f ((settleQuarter x q f s).onPort x (Port.begins f)) =
      (countEvents (discards (slotsUsed q.payloads) .slipLoss x) s).onPort x (Port.begins f) := by
  rw [forceHunt, if_neg (by simp [loose]), settleQuarter, if_neg loose, discardSlots_eq]

/-- A good quarter (R121). -/
theorem settled_good {x : Approach} {q : Quarter} {f : Frame} (checked : q.checked f = true) (good : q.agrees f = true)
    (s : State) : forceHunt x q f ((settleQuarter x q f s).onPort x (Port.begins f)) =
      takeSlots x (q.payloads.flatMap fun payload => [payload.take 15, payload.drop 15])
        (s.onPort x fun p => (p.resulting false).begins f) := by
  rw [forceHunt, if_neg (by simp [good]), settleQuarter, if_pos checked, if_pos good, deliverQuarter_eq,
    takeSlots_onPort, recordResult_eq, onPort_onPort]

/-- A failed quarter, before the limit is judged (R121, R122). -/
def State.failing (s : State) (x : Approach) (q : Quarter) (f : Frame) : State :=
  (countEvents (discards (slotsUsed q.payloads) .crcError x) s).onPort x fun p => (p.resulting true).begins f

theorem settled_failed {x : Approach} {q : Quarter} {f : Frame} (checked : q.checked f = true)
    (failed : ¬q.agrees f = true) (s : State) :
    forceHunt x q f ((settleQuarter x q f s).onPort x (Port.begins f)) =
      if 8 ≤ (((s.failing x q f).ports.get x).history).count true then exitToHunt x [] (s.failing x q f)
      else s.failing x q f := by
  rw [settleQuarter, if_pos checked, if_neg failed, recordResult_eq, discardSlots_eq, onPort_onPort]
  unfold forceHunt
  simp only [checked, failed, Bool.not_false, Bool.true_and, decide_eq_true_eq]
  rfl

theorem State.failing_latchesStay (s : State) (x : Approach) (q : Quarter) (f : Frame) :
    (s.failing x q f).latchesStay s [] :=
  State.latchesStay_trans (State.latchesStay_of_eq rfl _) (countEvents_latchesStay _ _ s)

theorem State.failing_sameBut {t base : State} (same : t.sameButNotices base) (x : Approach) (q : Quarter) (f : Frame) :
    (t.failing x q f).sameButNotices { base with
      ports := base.ports.set x (((base.ports.get x).resulting true).begins f),
      stats := base.countedAll (discards (slotsUsed q.payloads) .crcError x) } := by
  exact (onPort_blind x fun p => (p.resulting true).begins f).sameBut (countEvents_sameBut _ same)

/-! ### The row -/

/-- A frame instant while the store centres (R116). -/
theorem localFrameRead_centring {x : Approach} {p : Port} {s : State} (held : s.ports.get x = p)
    (aligned : p.framer = .aligned) (centring : p.centring = true) : localFrameRead x s =
      if 16 ≤ p.centringIdle + 1 then clockLost x s
      else { s with ports := s.ports.set x { p with centringIdle := p.centringIdle + 1 } } := by
  subst held
  exact (if_pos aligned).trans (if_pos centring)

/-- A frame instant at an empty store (R118). -/
theorem localFrameRead_repeats {x : Approach} {p : Port} {s : State} (held : s.ports.get x = p)
    (aligned : p.framer = .aligned) (settled : p.centring = false) (empty : p.store = []) : localFrameRead x s =
      let s1 := countEvent .linkSlip 1 (some (.port x))
        { s with ports := s.ports.set x { p with lastSlip := .repeat, repeats := p.repeats + 1 } }
      if 16 ≤ p.repeats + 1 then clockLost x s1 else s1 := by
  subst held
  refine (if_pos aligned).trans ((if_neg (Bool.not_eq_true _ ▸ settled)).trans ?_)
  split
  · next f rest stored => exact nomatch empty.symm.trans stored
  · rfl

/-- A frame instant that reads the oldest frame. -/
theorem localFrameRead_reads {x : Approach} {p : Port} {s : State} {f : Frame} {rest : List Frame}
    (held : s.ports.get x = p) (aligned : p.framer = .aligned) (settled : p.centring = false)
    (store : p.store = f :: rest) : localFrameRead x s =
      checkFrame x f { s with ports := s.ports.set x { p with store := rest, repeats := 0 } } := by
  subst held
  refine (if_pos aligned).trans ((if_neg (Bool.not_eq_true _ ▸ settled)).trans ?_)
  split
  · next g left stored =>
    obtain ⟨rfl, rfl⟩ := List.cons.inj (store.symm.trans stored)
    rfl
  · next stored => exact nomatch store.symm.trans stored

/-- The repeat that reaches the limit of R118. -/
theorem repeatLimit_left {x : Approach} {p : Port} {s : State} (held : s.ports.get x = p) :
    (clockLost x (countEvent .linkSlip 1 (some (.port x))
      { s with ports := s.ports.set x { p with lastSlip := .repeat, repeats := p.repeats + 1 } })).leftAligned s x
        { p.hunts [] with
          lastSlip := .repeat, repeats := p.repeats + 1,
          sending := p.sending.map fun r => { r with timing := .local } } [(.linkSlip, 1, some (.port x))] :=
  clockLost_left (q := { p with lastSlip := .repeat, repeats := p.repeats + 1 }) (countEvent_sameBut _ _ _ _)
    (State.latchesStay_trans (countEvent_latchesStay _ _ _ _ _) (State.latchesStay_of_eq rfl _)) (by rw [held])

/-- Settles O51. -/
theorem localFrameInstant : Obligations.LocalFrameInstant := by
  unfold Obligations.LocalFrameInstant
  intro x p s running held aligned
  have runs : ∀ t, localFrameRead x s = t → exec (.localFrameRead x) s = .next t := fun t run =>
    (whenRunning_running running _).trans (congrArg _ run)
  refine ⟨fun centring early => ?_, fun centring late => ?_, fun settled empty early => ?_, fun settled empty late => ?_,
    fun f rest settled store marked quiet => ?_, fun f rest settled store => ?_⟩
  · exact runs _ ((localFrameRead_centring held aligned centring).trans (if_neg (by omega)))
  · have row := (localFrameRead_centring held aligned centring).trans (if_pos (by omega))
    have timeout : exec (.centringTimeout x) s = .next (clockLost x s) :=
      (whenRunning_running running _).trans (congrArg _ (if_pos (by rw [held]; exact ⟨aligned, centring, by omega⟩)))
    have left : (clockLost x s).leftAligned s x
        { p.hunts [] with sending := p.sending.map fun r => { r with timing := .local } } [] :=
      clockLost_left (q := p) (by rw [← held, PerApproach.set_get]; exact State.sameButNotices_refl s)
        (State.latchesStay_of_eq rfl _) (by rw [held])
    rintro c (rfl | rfl)
    · exact ⟨_, runs _ row, left⟩
    · exact ⟨_, timeout, left⟩
  · have row := localFrameRead_repeats held aligned settled empty
    exact ⟨_, runs _ (row.trans (if_neg (by omega))), countEvent_sameBut _ _ _ _⟩
  · have row := localFrameRead_repeats held aligned settled empty
    have limit : exec (.consecutiveRepeatLimit x) s = .next (clockLost x (countEvent .linkSlip 1 (some (.port x))
        { s with ports := s.ports.set x { p with lastSlip := .repeat, repeats := p.repeats + 1 } })) := by
      refine (whenRunning_running running _).trans (congrArg _ ((if_pos ?_).trans ?_))
      · rw [held]
        exact ⟨aligned, settled, empty, by omega⟩
      · rw [onPort_eq held]
    rintro c (rfl | rfl)
    · exact ⟨_, runs _ (row.trans (if_pos (by omega))), repeatLimit_left held⟩
    · exact ⟨_, limit, repeatLimit_left held⟩
  · have row := localFrameRead_reads held aligned settled store
    have same := hearFrame_marked marked x { s with ports := s.ports.set x { p with store := rest, repeats := 0 } }
    have begun := checkFrame_begins (x := x) (f := f)
      (s := { s with ports := s.ports.set x { p with store := rest, repeats := 0 } })
      (by rw [same, PerApproach.get_set_self]; exact quiet)
    rw [same, onPort_eq (PerApproach.get_set_self _ _ _), PerApproach.set_set] at begun
    exact runs _ (row.trans begun)
  · have row := localFrameRead_reads held aligned settled store
    have quiet := hearFrame_sameBut x f { s with ports := s.ports.set x { p with store := rest, repeats := 0 } }
    have alarmed := hearFrame_alarmed x f { s with ports := s.ports.set x { p with store := rest, repeats := 0 } }
    have stays := hearFrame_latchesStay x f { s with ports := s.ports.set x { p with store := rest, repeats := 0 } }
    have begins := checkFrame_begins (x := x) (f := f)
      (s := { s with ports := s.ports.set x { p with store := rest, repeats := 0 } })
    have joins := fun q => checkFrame_joins (x := x) (f := f) (q := q)
      (s := { s with ports := s.ports.set x { p with store := rest, repeats := 0 } })
    have settles := fun q => checkFrame_settles (x := x) (f := f) (q := q)
      (s := { s with ports := s.ports.set x { p with store := rest, repeats := 0 } })
    simp only [PerApproach.get_set_self, PerApproach.set_set] at quiet
    generalize hearFrame x f { s with ports := s.ports.set x { p with store := rest, repeats := 0 } } = h at *
    generalize checkFrame x f { s with ports := s.ports.set x { p with store := rest, repeats := 0 } } = c at *
    have port : h.ports.get x = ({ p with store := rest, repeats := 0 } : Port).hearing f := by
      rw [sameButNotices_ports quiet, PerApproach.get_set_self]
    have heard : h.onlyAlarmed s x f := ⟨alarmed, stays⟩
    intro bits read begun seen alarms only
    have write : ∀ {u : State} {r : Port} (g : Port → Port) (stats : Statistics),
        u.sameButNotices { s with ports := s.ports.set x r, stats := stats } →
        (u.onPort x g).sameButNotices { s with ports := s.ports.set x (g r), stats := stats } := fun {u r} g stats same => by
      have written := (onPort_blind x g).sameBut same
      simp only [State.onPort, PerApproach.get_set_self, PerApproach.set_set] at written
      exact written
    refine ⟨fun none_held => ?_, fun q held_q => ⟨fun joining => ?_, fun settling loose => ?_, fun checked good => ?_,
      fun checked failed few => ?_, fun checked failed many => ?_⟩⟩
    · exact ⟨_, runs _ (row.trans (begins (by rw [port]; exact none_held))), heard, write _ _ quiet⟩
    · exact ⟨_, runs _ (row.trans (joins q (by rw [port]; exact held_q) joining)), heard, write _ _ quiet⟩
    · have settled := (settles q (by rw [port]; exact held_q) settling).trans
        (settled_incomplete (mt (Quarter.checked_iff q f).1 loose) h)
      refine ⟨_, runs _ (row.trans settled), State.onlyAlarmed_trans (countEvents_latchesStay [] _ _) heard, ?_⟩
      rw [State.countedAll_append]
      exact write (Port.begins f) _ (countEvents_sameBut _ quiet)
    · have settled := (settles q (by rw [port]; exact held_q) (by omega)).trans
        (settled_good ((Quarter.checked_iff q f).2 checked) ((Quarter.agrees_iff q f).2 good) h)
      exact ⟨h.onPort x fun p => (p.resulting false).begins f, _, heard, write _ _ quiet, runs _ (row.trans settled),
        takeSlots_slotsTaken x _ _⟩
    all_goals
      have settled := (settles q (by rw [port]; exact held_q) (by omega)).trans
        (settled_failed ((Quarter.checked_iff q f).2 checked) (mt (Quarter.agrees_iff q f).1 failed) h)
      have failing := State.failing_sameBut quiet x q f
      simp only [PerApproach.get_set_self, PerApproach.set_set] at failing
      have after : h.failing x q f |>.onlyAlarmed s x f :=
        State.onlyAlarmed_trans (State.failing_latchesStay h x q f) heard
      rw [sameButNotices_ports failing, PerApproach.get_set_self] at settled
    · refine ⟨_, runs _ (row.trans (settled.trans (if_neg (Nat.not_le.2 few)))), after, ?_⟩
      rw [State.countedAll_append]
      exact failing
    · have exit := exitToHunt_sameBut failing x []
      simp only [PerApproach.get_set_self, PerApproach.set_set] at exit
      have exits := exitToHunt_latchesStay x [] (h.failing x q f)
      have linkState := after.2 (.linkState x) (linkState_mem x) nofun (by simp)
      have now : (h.failing x q f).now = s.now := by
        obtain ⟨_, _, _, same, _, _⟩ := failing
        rw [same]
      refine ⟨_, runs _ (row.trans (settled.trans (if_pos many))), ?_, ?_, ?_, ?_⟩
      · exact State.alarmed_trans exits (by simp) (by simp) after.1
      · refine (leaveAligned_linkState x _).trans ?_
        rw [now]
        exact congrArg (fun l => setOnce l 0 s.now) linkState
      · exact State.latchesStay_trans (State.latchesStay_weaken exits (by simp))
          (State.latchesStay_weaken after.2 (by simp))
      · rw [State.countedAll_append, State.countedAll_append]
        exact exit

end Sys2Proof.Machine
end


section
/-! SUPPORT. The return stream (section 6.5): when a return frame is due, and the octets composed. -/

namespace Sys2Proof.Machine

/-! ### When a return frame is due (R124) -/

theorem Port.returnDue_of {p : Port} (idle : ∀ r, p.sending = some r → r.timing = .local ∨ r.unsent = 0) :
    p.returnDue = true := by
  unfold Port.returnDue
  split
  · next r sending => simpa using idle r sending
  · rfl

theorem Port.returnDue_busy {p : Port} {r : ReturnFrame} (sending : p.sending = some r) (loop : r.timing = .loop)
    (busy : 0 < r.unsent) : p.returnDue = false := by
  have left : r.unsent ≠ 0 := by omega
  simp [Port.returnDue, sending, loop, left]

theorem Port.clocked_eq (p : Port) (n : Nat) : p.clocked n = { p with
    sending := p.sending.map fun r => if r.timing = .loop then { r with unsent := r.unsent - n } else r } := by
  cases sending : p.sending with
  | none => simp [Port.clocked, sending]
  | some r => cases timing : r.timing <;> simp [Port.clocked, sending, timing]

/-! ### The indication places (R125, R126) -/

/-- The wait estimate by the next window of the phase that has not ended (R62, R126). -/
theorem waitEstimate_eq (ws : Option (List Window)) (phase : Nat) : waitEstimate ws phase =
    match ws with
    | some l =>
      (match l.find? fun w => w.phase == phase && 0 < w.stop with
       | some w => if phase = 0 then 255 else min 254 ((w.start + 9) / 10)
       | none => 255)
    | none => 255 := by
  cases ws with
  | none => simp [waitEstimate]
  | some l =>
    simp only [waitEstimate, nextGreen, Option.bind_some]
    cases l.find? fun w => w.phase == phase && 0 < w.stop with
    | none => simp
    | some w => simp

theorem indicationPlace_length (ws : Option (List Window)) (e : Entry) : (indicationPlace ws e).length = 6 := rfl

theorem places_length (ws : Option (List Window)) (l : List Entry) :
    (l.flatMap (indicationPlace ws)).length = 6 * l.length := by
  rw [List.length_flatMap, List.map_congr_left fun e _ => indicationPlace_length ws e, List.map_const', List.sum_replicate,
    smul_eq_mul, Nat.mul_comm]

/-- The entries a return frame of `x` shows. -/
def State.shown (s : State) (x : Approach) : List Entry :=
  if s.mode = .run then rotated (s.indicationList x) (s.ports.get x).rotation else []

theorem State.shown_length (s : State) (x : Approach) : (s.shown x).length ≤ 5 := by
  unfold State.shown
  split
  · exact List.length_take_le _ _
  · exact Nat.zero_le _

theorem State.returnPayload_eq (s : State) (x : Approach) : s.returnPayload x =
    (s.shown x).flatMap (indicationPlace s.projection) ++ List.replicate (30 - 6 * (s.shown x).length) 0 := by
  unfold State.returnPayload
  rw [← places_length s.projection]
  rfl

theorem State.returnPayload_length (s : State) (x : Approach) : (s.returnPayload x).length = 30 := by
  have few := s.shown_length x
  rw [State.returnPayload_eq, List.length_append, places_length, List.length_replicate]
  omega

/-- The rotation index, an empty list apart (R125). -/
theorem nextRotation_eq (l : List Entry) (index : Nat) : nextRotation l.length index =
    if l = [] then 0 else (index % l.length + min 5 l.length) % l.length := by
  simp only [nextRotation, List.length_eq_zero_iff]

/-! ### The head of a frame (R123, R128) -/

theorem Port.sendsFarAlarm_iff (p : Port) : p.sendsFarAlarm = true ↔ p.framer ≠ .aligned ∨ p.force = true := by
  rw [Port.sendsFarAlarm, Bool.or_eq_true, bne_iff_ne]

theorem Port.nextCrcInsertion_eq (p : Port) : p.nextCrcInsertion =
    if p.returnPos % 4 = 0 then (if p.crcInsertion = .waiting then .aimed else .none) else p.crcInsertion := by
  unfold Port.nextCrcInsertion
  cases p.crcInsertion <;> rfl

theorem State.returnOctets_eq {s : State} {x : Approach} {p : Port} (held : s.ports.get x = p) : s.returnOctets x =
    (if p.markerInsertion then 0x93 else 0x6C) ::
      octet (p.returnPos * 16 + (if p.framer ≠ .aligned ∨ p.force = true then 8 else 0) +
        (if s.mode = .standby then 4 else 0)) ::
      (if p.returnPos % 4 = 0 then
        (if p.crcInsertion = .aimed then crc8 p.sent.flatten ^^^ 0xFF else crc8 p.sent.flatten)
       else if p.returnPos % 4 = 1 then flag p.echo else 0) :: s.returnPayload x := by
  subst held
  simp only [State.returnOctets, State.returnControl, Port.sendsFarAlarm_iff]
  rfl

/-! ### The row (R123) -/

theorem returnFrame_composed {x : Approach} {p : Port} {s : State} (held : s.ports.get x = p) (due : p.returnDue = true)
    (enabled : p.framer ≠ .disabled) : returnFrame x s = { s with ports := s.ports.set x { p with
      sending := some { octets := s.returnOctets x, unsent := 264,
                        timing := if p.framer = .aligned then .loop else .local },
      markerInsertion := false, crcInsertion := p.nextCrcInsertion, returnPos := (p.returnPos + 1) % 16,
      sent := p.sent.drop 1 ++ [(s.returnOctets x).drop 3],
      rotation := if s.mode = .run then nextRotation (s.indicationList x).length p.rotation else p.rotation } } := by
  subst held
  exact (if_neg (by rw [due]; nofun)).trans (if_neg enabled)

theorem returnFrame_stops {x : Approach} {p : Port} {s : State} (held : s.ports.get x = p) (due : p.returnDue = true)
    (disabled : p.framer = .disabled) :
    returnFrame x s = { s with ports := s.ports.set x { p with sending := none } } := by
  subst held
  exact (if_neg (by rw [due]; nofun)).trans (if_pos disabled)

/-- The rows of the inbound bits at a DISABLED port (R111, R124). -/
theorem exec_unread {x : Approach} {p : Port} {s : State} (running : s.held = false) (held : s.ports.get x = p)
    (disabled : p.framer = .disabled) (new : Bits) {c : Instr}
    (bits : c = .candidateMarker x new ∨ c = .confirmTest x new ∨ c = .frameSlot x new) :
    exec c s = .next { s with ports := s.ports.set x (p.clocked new.length) } := by
  subst held
  have unread : unreadBits x new s = { s with ports := s.ports.set x ((s.ports.get x).clocked new.length) } :=
    if_pos disabled
  rcases bits with rfl | rfl | rfl
  all_goals
    refine (whenRunning_running running _).trans (congrArg _ (Eq.trans (if_neg ?_) unread))
    rw [disabled]
    nofun

/-- Settles O52. -/
theorem returnFrameComposed : Obligations.ReturnFrameComposed := by
  unfold Obligations.ReturnFrameComposed
  intro x p s running held
  have runs : ∀ t, returnFrame x s = t → exec (.returnFrame x) s = .next t := fun t run =>
    (whenRunning_running running _).trans (congrArg _ run)
  refine ⟨fun disabled idle => ?_, fun disabled new c bits => ?_, fun r sending loop busy => ?_,
    fun inside enabled idle => ?_, fun n => p.clocked_eq n⟩
  · exact runs _ (returnFrame_stops held (Port.returnDue_of idle) disabled)
  · exact exec_unread running held disabled new bits
  · refine runs s (if_pos ?_)
    rw [held]
    exact Port.returnDue_busy sending loop busy
  · intro list first shown wait place payload check
    have places : place = indicationPlace s.projection := funext fun e => by
      rw [indicationPlace, waitEstimate_eq]
      rfl
    have showing : shown = s.shown x := by
      simp only [shown, State.shown, held]
      rfl
    have composed : payload = s.returnPayload x := by
      rw [State.returnPayload_eq, ← places, ← showing]
    refine ⟨composed ▸ s.returnPayload_length x, ?_⟩
    have row := returnFrame_composed held (Port.returnDue_of idle) enabled
    rw [nextRotation_eq, State.returnOctets_eq held, Port.nextCrcInsertion_eq, ← composed] at row
    have rotation : (if s.mode ≠ .run then p.rotation
        else if list = [] then 0 else (p.rotation % list.length + min 5 list.length) % list.length) =
        if s.mode = .run then
          (if list = [] then 0 else (p.rotation % list.length + min 5 list.length) % list.length)
        else p.rotation := ite_not _ _ _
    rw [rotation]
    exact runs _ row

end Sys2Proof.Machine
end


section
/-! SUPPORT. A planning pass that is due (sections 4.2 to 4.6): when it runs, and the suspended pass. -/

namespace Sys2Proof.Machine

/-! ### The row (R66) -/

theorem exec_planningPass {s : State} (running : s.held = false) (due : s.planner.passDue = true)
    (awake : s.mode ≠ .standby) : exec .planningPass s = .next (endPass (passBody (beginPass s))) :=
  (whenRunning_running running _).trans (congrArg _ (if_pos ⟨due, awake⟩))

theorem trackedPlan_none {s : State} (lost : s.model.state ≠ .tracking) : s.trackedPlan = none := by
  unfold State.trackedPlan
  split
  · next a state anchor => exact absurd state lost
  · rfl

theorem passBody_suspended {s : State} (lost : s.trackedPlan = none) : passBody s = suspendedPass s := by
  unfold passBody
  rw [lost]

theorem passBody_tracked {s : State} {a : Anchor} {p : Plan} (tracked : s.trackedPlan = some (a, p)) :
    passBody s = classifyAll a p (evaluateAll s) := by
  unfold passBody
  rw [tracked]

theorem classifiable_iff (e : Entry) : e.state.classifiable = true ↔ e.state = .covered ∨ e.state = .waiting := by
  cases e.state <;> simp [EntryState.classifiable]

/-! ### The suspended pass (R68) -/

/-- Settles O20. -/
theorem suspendedPassOnlySuspends : Obligations.SuspendedPassOnlySuspends := by
  unfold Obligations.SuspendedPassOnlySuspends
  intro s running due mark awake lost
  have entries : ∀ e : Entry, (if e.state.classifiable then e.place .waiting (some .suspended) else e) =
      if e.state = .covered ∨ e.state = .waiting then
        { e with state := .waiting, reason := some .suspended, indication := .wait }
      else e := fun e => by
    simp only [classifiable_iff]
    rfl
  rw [exec_planningPass running due awake, passBody_suspended (s := beginPass s) (trackedPlan_none lost)]
  simp only [suspendedPass, entries, endPass, beginPass, State.onPlanner, mark, Bool.or_self]

end Sys2Proof.Machine
end


section
/-! SUPPORT. Reading the items of a CONFIGURE (Table 10-6): the lengths the walk leaves, the fields of records, and the
structure of a message as a proposition (R152). -/

namespace Sys2Proof.Machine

/-! ### The walk (R170) -/

/-- The data of an item has the length of its section. -/
def Item.measured (it : Item) : Prop := dataLength it.name it.data = some it.data.length

theorem dataLength_take {name : SectionName} {data : List Octet} {n : Nat} (length : dataLength name data = some n) :
    dataLength name (data.take n) = some n := by
  cases data with
  | nil =>
    rw [List.take_nil]
    exact length
  | cons m data =>
    cases name
    case general => exact length
    case approach => exact length
    case cls => exact length
    case movementMap => exact length
    all_goals
      obtain rfl := Option.some.inj length
      rw [Nat.add_comm 1, List.take_succ_cons]
      exact congrArg some (Nat.add_comm _ _)

/-- The walk over an item of a section that has a name and a length. -/
theorem walkItems_cons {code : Octet} {name : SectionName} {data : List Octet} {n : Nat} (names : sectionOf code = some name)
    (length : dataLength name data = some n) (k : Nat) (place : Octet) :
    walkItems (k + 1) (code :: place :: data) =
      if data.length < n then none
      else (walkItems k (data.drop n)).map fun r =>
        { r with items := { name := name, place := place, data := data.take n } :: r.items } := by
  simp only [walkItems, names, length]

/-- A walk that finds an item. -/
theorem walkItems_inv {k : Nat} {body : List Octet} {r : Items} (walked : walkItems (k + 1) body = some r) :
    r.items = [] ∨ ∃ name place data n later, dataLength name data = some n ∧ n ≤ data.length ∧
      walkItems k (data.drop n) = some later ∧
      r.items = { name := name, place := place, data := data.take n } :: later.items := by
  match body with
  | [] => exact nomatch walked
  | code :: rest =>
    cases names : sectionOf code with
    | none =>
      simp only [walkItems, names] at walked
      obtain rfl := Option.some.inj walked
      exact .inl rfl
    | some name =>
      match rest with
      | [] => simp only [walkItems, names, reduceCtorEq] at walked
      | place :: data =>
        cases length : dataLength name data with
        | none => simp only [walkItems, names, length, reduceCtorEq] at walked
        | some n =>
          rw [walkItems_cons names length] at walked
          split at walked
          · exact nomatch walked
          · next long =>
            obtain ⟨later, rest, rfl⟩ := Option.map_eq_some_iff.1 walked
            exact .inr ⟨name, place, data, n, later, length, Nat.not_lt.1 long, rest, rfl⟩

theorem walkItems_measured : ∀ (k : Nat) (body : List Octet) (r : Items), walkItems k body = some r →
    ∀ it ∈ r.items, it.measured
  | 0, body, r, walked => by
    unfold walkItems at walked
    split at walked
    · obtain rfl := Option.some.inj walked
      simp
    · exact nomatch walked
  | k + 1, body, r, walked => by
    rcases walkItems_inv walked with none_found | ⟨name, place, data, n, later, length, long, rest, items⟩
    · simp [none_found]
    · rw [items, List.forall_mem_cons]
      refine ⟨?_, walkItems_measured k _ later rest⟩
      rw [Item.measured, List.length_take, Nat.min_eq_left long]
      exact dataLength_take length

/-! ### Fields of records -/

theorem number_one (o : Octet) : number [o] = o.toNat := Nat.zero_add _

theorem number_take_one (os : List Octet) (k : Nat) : number ((os.drop k).take 1) = (bodyOctet os k).toNat := by
  unfold bodyOctet
  rw [← List.head?_drop]
  cases os.drop k with
  | nil => rfl
  | cons o l => exact number_one o

theorem number_take_two {os : List Octet} {k : Nat} (long : k + 2 ≤ os.length) :
    number ((os.drop k).take 2) = (bodyOctet os k).toNat * 256 + (bodyOctet os (k + 1)).toNat := by
  have pair : (os.drop k).take 2 = [bodyOctet os k, bodyOctet os (k + 1)] := by
    refine List.ext_getElem (by simp; omega) fun i short _ => ?_
    have few : i < 2 := by
      rw [List.length_take] at short
      omega
    rcases i with _ | _ | i
    · simp [bodyOctet, show k < os.length by omega]
    · simp [bodyOctet, show k + 1 < os.length by omega]
    · omega
  rw [pair, number_pair]

theorem records_eq (len : Nat) : ∀ (n : Nat) (os : List Octet),
    records len n os = (List.range n).map fun i => (os.drop (len * i)).take len
  | 0, _ => rfl
  | n + 1, os => by
    rw [records, records_eq len n, List.range_succ_eq_map, List.map_cons, List.map_map]
    simp [Function.comp_def, Nat.mul_add, Nat.add_comm]

/-- A field of one octet of a record behind the count octet. -/
theorem field_octet (data : List Octet) (len i j k : Nat) (inside : k < len) (ws : List Nat)
    (read : ∀ os : List Octet, field (readFields ws os) j = number ((os.drop k).take 1)) :
    field (readFields ws ((data.tail.drop (len * i)).take len)) j = (bodyOctet data (len * i + k + 1)).toNat := by
  have place : (((data.tail.drop (len * i)).take len).drop k).take 1 = (data.drop (len * i + k + 1)).take 1 := by
    rw [List.drop_take, List.take_take, Nat.min_eq_left (by omega), List.drop_drop, ← List.drop_one, List.drop_drop]
    congr 2
    omega
  rw [read, place, number_take_one]

/-- Field `j` of every record of an item, as written. -/
def Item.column (it : Item) (j : Nat) : List Nat := it.recs.map fun r => field r.written j

theorem numbered_written {f : Nat → List Nat → Rec} (keeps : ∀ i v, (f i v).written = v) :
    ∀ (i : Nat) (l : List (List Nat)), (numbered f i l).map (fun r => r.written) = l
  | _, [] => rfl
  | i, v :: l => by rw [numbered, List.map_cons, keeps, numbered_written keeps (i + 1) l]

theorem numbered_taken {f : Nat → List Nat → Rec} {g : List Nat → List Nat} (takes : ∀ i v, (f i v).taken = g v) :
    ∀ (i : Nat) (l : List (List Nat)), (numbered f i l).map (fun r => r.taken) = l.map g
  | _, [] => rfl
  | i, v :: l => by rw [numbered, List.map_cons, takes, numbered_taken takes (i + 1) l, List.map_cons]

theorem Item.column_eq (it : Item) (j : Nat) : it.column j = (it.recs.map fun r => r.written).map fun v => field v j := by
  rw [List.map_map]
  rfl

/-- A column of records of one length. -/
theorem column_of_records {it : Item} {len : Nat} {ws : List Nat} (j : Nat)
    (written : it.recs.map (fun r => r.written) = (records len (countOf it.data) it.data.tail).map (readFields ws)) :
    it.column j = (List.range (bodyOctet it.data 0).toNat).map fun i =>
      field (readFields ws ((it.data.tail.drop (len * i)).take len)) j := by
  rw [Item.column_eq, written, records_eq, List.map_map, List.map_map]
  rfl

theorem written_routeMap (place : Octet) (data : List Octet) :
    (Item.mk .routeMap place data).recs.map (fun r => r.written) =
      (records 3 (countOf data) data.tail).map (readFields routeWidths) :=
  numbered_written (fun _ _ => rfl) 0 _

theorem written_phaseTable (place : Octet) (data : List Octet) :
    (Item.mk .phaseTable place data).recs.map (fun r => r.written) =
      (records 12 (countOf data) data.tail).map (readFields phaseWidths) := by
  show List.map _ (List.map _ _) = _
  rw [List.map_map]
  exact List.map_id' _

theorem written_planTable (place : Octet) (data : List Octet) :
    (Item.mk .planTable place data).recs.map (fun r => r.written) =
      (records 19 (countOf data) data.tail).map (readFields planWidths) :=
  numbered_written (fun _ _ => rfl) 0 _

theorem column_routes {place : Octet} {data : List Octet} (measured : (Item.mk .routeMap place data).measured) :
    (Item.mk .routeMap place data).column 0 = (List.range (bodyOctet data 0).toNat).map fun i =>
      (bodyOctet data (3 * i + 1)).toNat * 256 + (bodyOctet data (3 * i + 2)).toNat := by
  have long : data.length = 1 + 3 * (bodyOctet data 0).toNat := by
    cases data with
    | nil => exact nomatch measured
    | cons m data => exact (Option.some.inj measured).symm
  rw [column_of_records 0 (written_routeMap place data)]
  refine List.map_congr_left fun i mem => ?_
  have within := List.mem_range.1 mem
  have place : ((data.tail.drop (3 * i)).take 3).take 2 = (data.drop (3 * i + 1)).take 2 := by
    rw [List.take_take, ← List.drop_one, List.drop_drop, Nat.add_comm 1]
    rfl
  show number (((data.tail.drop (3 * i)).take 3).take 2) = _
  rw [place, number_take_two (by simp only at *; omega)]

theorem column_phases (place : Octet) (data : List Octet) :
    (Item.mk .phaseTable place data).column 0 =
      (List.range (bodyOctet data 0).toNat).map fun i => (bodyOctet data (12 * i + 1)).toNat := by
  rw [column_of_records 0 (written_phaseTable place data)]
  exact List.map_congr_left fun i _ => field_octet data 12 i 0 0 (by decide) phaseWidths fun os => rfl

theorem column_truncatable (place : Octet) (data : List Octet) :
    (Item.mk .phaseTable place data).column 7 =
      (List.range (bodyOctet data 0).toNat).map fun i => (bodyOctet data (12 * i + 12)).toNat := by
  rw [column_of_records 7 (written_phaseTable place data)]
  exact List.map_congr_left fun i _ => field_octet data 12 i 7 11 (by decide) phaseWidths fun os => by
    simp [phaseWidths, readFields, field]

theorem column_plans (place : Octet) (data : List Octet) :
    (Item.mk .planTable place data).column 0 =
      (List.range (bodyOctet data 0).toNat).map fun i => (bodyOctet data (19 * i + 1)).toNat := by
  rw [column_of_records 0 (written_planTable place data)]
  exact List.map_congr_left fun i _ => field_octet data 19 i 0 0 (by decide) planWidths fun os => rfl

/-! ### The structure of one item (R152) -/

theorem Item.sound_general (place : Octet) (data : List Octet) :
    (Item.mk .general place data).sound = true ↔ ¬(Item.mk .general place data).faulty := by
  have mode : field (readFields generalWidths data) 14 = (bodyOctet data 17).toNat := by
    rw [← number_take_one]
    simp [generalWidths, readFields, field]
  simp [Item.sound, Item.recs, Item.faulty, mode]

theorem Item.sound_approach (place : Octet) (data : List Octet) :
    (Item.mk .approach place data).sound = true ↔ ¬(Item.mk .approach place data).faulty := by
  have enabled : field (readFields approachWidths data) 0 = (bodyOctet data 0).toNat := number_take_one data 0
  have depth : field (readFields approachWidths data) 1 = (bodyOctet data 1).toNat := number_take_one data 1
  simp [Item.sound, Item.recs, Item.faulty, enabled, depth]
  tauto

theorem Item.sound_cls (place : Octet) (data : List Octet) :
    (Item.mk .cls place data).sound = true ↔ ¬(Item.mk .cls place data).faulty := by
  have enabled : field (readFields classWidths data) 0 = (bodyOctet data 0).toNat := number_take_one data 0
  have unconditional : field (readFields classWidths data) 1 = (bodyOctet data 1).toNat := number_take_one data 1
  simp [Item.sound, Item.recs, Item.faulty, enabled, unconditional]

/-- A test of one field of every record, and of a field's values among themselves. -/
theorem all_column (it : Item) (j : Nat) (test : Nat → Bool) :
    ((it.recs.map fun r => r.written).all fun v => test (field v j)) = (it.column j).all test := by
  rw [Item.column_eq]
  generalize it.recs.map (fun r => r.written) = l
  rw [List.all_map]
  rfl

theorem Item.sound_routeMap {place : Octet} {data : List Octet} (measured : (Item.mk .routeMap place data).measured) :
    (Item.mk .routeMap place data).sound = true ↔ ¬(Item.mk .routeMap place data).faulty := by
  have inside := all_column (Item.mk .routeMap place data) 0 fun n => 1 ≤ n && n ≤ 999
  have distinct := Item.column_eq (Item.mk .routeMap place data) 0
  rw [column_routes measured] at inside distinct
  have sound : (Item.mk .routeMap place data).sound =
      ((bodyOctet data 0).toNat ≤ 64 && ((Item.mk .routeMap place data).recs.map fun r => r.written).all (fun v =>
        1 ≤ field v 0 && field v 0 ≤ 999) &&
        noRepeats (((Item.mk .routeMap place data).recs.map fun r => r.written).map fun v => field v 0)) := rfl
  rw [sound, inside, ← distinct]
  simp only [Bool.and_eq_true, decide_eq_true_eq, List.all_eq_true, noRepeats_iff_nodup, Item.faulty,
    reduceCtorEq, false_and, true_and, or_false, false_or, not_or, not_exists, not_and, not_not, not_lt]
  refine and_assoc.trans (and_congr_right fun _ => and_congr_left fun _ => forall₂_congr fun n _ => ?_)
  rw [Nat.one_le_iff_ne_zero]

theorem Item.sound_phaseTable (place : Octet) (data : List Octet) :
    (Item.mk .phaseTable place data).sound = true ↔ ¬(Item.mk .phaseTable place data).faulty := by
  have inside := all_column (Item.mk .phaseTable place data) 0 fun n => 1 ≤ n && n ≤ (bodyOctet data 0).toNat
  have flags := all_column (Item.mk .phaseTable place data) 7 fun n => n ≤ 1
  have distinct := Item.column_eq (Item.mk .phaseTable place data) 0
  rw [column_phases] at inside distinct
  rw [column_truncatable] at flags
  have sound : (Item.mk .phaseTable place data).sound =
      (2 ≤ (bodyOctet data 0).toNat && (bodyOctet data 0).toNat ≤ 8 &&
        ((Item.mk .phaseTable place data).recs.map fun r => r.written).all (fun v =>
          1 ≤ field v 0 && field v 0 ≤ (bodyOctet data 0).toNat && field v 7 ≤ 1) &&
        noRepeats (((Item.mk .phaseTable place data).recs.map fun r => r.written).map fun v => field v 0)) := rfl
  have both : ∀ l : List (List Nat), (l.all fun v => 1 ≤ field v 0 && field v 0 ≤ (bodyOctet data 0).toNat && field v 7 ≤ 1) =
      (l.all (fun v => 1 ≤ field v 0 && field v 0 ≤ (bodyOctet data 0).toNat) && l.all fun v => field v 7 ≤ 1) := fun l =>
    Bool.eq_iff_iff.2 (by simp only [Bool.and_eq_true, List.all_eq_true, ← forall₂_and])
  rw [sound, both, inside, flags, ← distinct]
  simp only [Bool.and_eq_true, decide_eq_true_eq, List.all_eq_true, noRepeats_iff_nodup, Item.faulty,
    reduceCtorEq, false_and, true_and, or_false, false_or, not_or, not_exists, not_and, not_not, not_lt,
    List.forall_mem_map, Nat.one_le_iff_ne_zero, ne_eq]
  tauto

theorem Item.sound_planTable (place : Octet) (data : List Octet) :
    (Item.mk .planTable place data).sound = true ↔ ¬(Item.mk .planTable place data).faulty := by
  have inside := all_column (Item.mk .planTable place data) 0 fun n => n ≤ 15
  rw [column_plans] at inside
  have sound : (Item.mk .planTable place data).sound =
      ((bodyOctet data 0).toNat ≤ 4 && ((Item.mk .planTable place data).recs.map fun r => r.written).all fun v => field v 0 ≤ 15) :=
    rfl
  rw [sound, inside]
  simp [Item.faulty]

theorem Item.sound_movementMap (place : Octet) (data : List Octet) :
    (Item.mk .movementMap place data).sound = true ↔ ¬(Item.mk .movementMap place data).faulty := by
  simp [Item.sound, Item.recs, Item.faulty]

/-- The structure of an item of the right length is sound exactly when R152 finds no error in it. -/
theorem Item.sound_iff {it : Item} (measured : it.measured) : it.sound = true ↔ ¬it.faulty := by
  obtain ⟨name, place, data⟩ := it
  cases name with
  | general => exact Item.sound_general place data
  | approach => exact Item.sound_approach place data
  | cls => exact Item.sound_cls place data
  | routeMap => exact Item.sound_routeMap measured
  | phaseTable => exact Item.sound_phaseTable place data
  | planTable => exact Item.sound_planTable place data
  | movementMap => exact Item.sound_movementMap place data

/-! ### The structure of a message (R152) -/

/-- What names the section and place of an item, as the statement of R152 has it. -/
def Item.placed (it : Item) : Nat × Octet := (it.name.code, if it.name = .approach ∨ it.name = .cls then it.place else 0)

/-- The key of a section and place. -/
def placedKey (q : Nat × Octet) : Nat :=
  if q.1 = 2 then 1000 + q.2.toNat else if q.1 = 3 then 2000 + q.2.toNat else q.1

/-- The section and place of a key. -/
def keyPlace (k : Nat) : Nat × Octet :=
  if 2000 ≤ k then (3, BitVec.ofNat 8 (k - 2000)) else if 1000 ≤ k then (2, BitVec.ofNat 8 (k - 1000)) else (k, 0)

theorem Item.key_eq (it : Item) : it.key = placedKey it.placed := by
  obtain ⟨name, place, data⟩ := it
  cases name <;> rfl

theorem Item.placed_eq (it : Item) : it.placed = keyPlace it.key := by
  obtain ⟨name, place, data⟩ := it
  have below := place.isLt
  cases name
  case approach => simp [Item.placed, Item.key, keyPlace, SectionName.code, show ¬2000 ≤ 1000 + place.toNat by omega]
  case cls => simp [Item.placed, Item.key, keyPlace, SectionName.code]
  all_goals rfl

/-- The keys of the model tell the same items apart as section and place do. -/
theorem keys_nodup (items : List Item) : (items.map Item.key).Nodup ↔ (items.map Item.placed).Nodup := by
  constructor
  · intro distinct
    rw [show items.map Item.key = (items.map Item.placed).map placedKey by
      rw [List.map_map]; exact List.map_congr_left fun it _ => it.key_eq] at distinct
    exact distinct.of_map _
  · intro distinct
    rw [show items.map Item.placed = (items.map Item.key).map keyPlace by
      rw [List.map_map]; exact List.map_congr_left fun it _ => it.placed_eq] at distinct
    exact distinct.of_map _

theorem mapAgrees_iff (c : Configuration) (items : List Item) : mapAgrees c items = true ↔
    ¬((((findItem .phaseTable items).isSome = true ∨ (findItem .movementMap items).isSome = true)) ∧
      ∃ n ∈ (match findItem .movementMap items with
        | some it => it.data.map fun (o : Octet) => o.toNat
        | none => mapPhases c.movementMap),
        (match findItem .phaseTable items with
          | some it => countOf it.data
          | none => c.phases.length) < n) := by
  unfold mapAgrees
  cases findItem .phaseTable items <;> cases findItem .movementMap items <;>
    simp

theorem structureOk_iff {c : Configuration} {count : Nat} {r : Items} (measured : ∀ it ∈ r.items, it.measured) :
    structureOk c count r = true ↔ ¬Items.faulty c count r := by
  have each : (∀ it ∈ r.items, it.sound = true) ↔ ¬∃ it ∈ r.items, it.faulty := by
    rw [not_exists]
    exact forall_congr' fun it => by
      rw [not_and]
      exact forall_congr' fun mem => Item.sound_iff (measured it mem)
  have whole : ∀ unknown distinct error clash : Prop,
      ((((¬unknown ∧ 1 ≤ count) ∧ count ≤ 7) ∧ distinct) ∧ ¬error) ∧ ¬clash ↔
        ¬(unknown ∨ count = 0 ∨ 7 < count ∨ ¬distinct ∨ error ∨ clash) := by
    intro unknown distinct error clash
    rw [Nat.one_le_iff_ne_zero, ← Nat.not_lt]
    tauto
  have known : r.unknown = false ↔ ¬r.unknown = true := by simp
  unfold structureOk Items.faulty
  simp only [Bool.and_eq_true, decide_eq_true_eq, List.all_eq_true, noRepeats_iff_nodup, keys_nodup, mapAgrees_iff, each,
    Bool.not_eq_true', known]
  exact whole _ _ _ _

end Sys2Proof.Machine
end


section
/-! SUPPORT. The judgement of a CONFIGURE (R151, R152): the items of a message, and what is left alone when it is
written. -/

namespace Sys2Proof.Machine

/-! ### What the effects of a section leave (R154) -/

theorem asked_of_noticed {t s : State} (h : t.noticedFrom s) : t.link.asked = s.link.asked := by
  obtain ⟨_, _, _, _, link, _⟩ := h
  rw [link]

theorem disablePort_asked (x : Approach) (s : State) : (disablePort x s).link.asked = s.link.asked := by
  have left : (leaveAligned x s).link.asked = s.link.asked := by
    have noticed := State.sameButNotices.noticed (leaveAligned_sameBut (State.sameButNotices_refl s) x)
    exact asked_of_noticed noticed
  unfold disablePort
  dsimp only
  split
  · rfl
  · split
    · exact left
    · rfl

theorem sectionEffect_asked (s : State) (it : Item) : (sectionEffect s it).link.asked = s.link.asked := by
  have discarded : (discardAnchor s).link.asked = s.link.asked :=
    asked_of_noticed (setModelState_noticed .noStatus { s with model := { s.model with anchor := none } })
  have followed : ∀ x, (followEnabled x s).link.asked = s.link.asked := fun x => by
    unfold followEnabled enablePort
    split
    · split <;> rfl
    · exact disablePort_asked x s
  unfold sectionEffect
  split
  · exact discarded
  · exact discarded
  · split
    · next x _ =>
      unfold limitTokens
      split
      · exact followed x
      · exact followed x
    · rfl
  all_goals rfl

theorem writeAll_asked (items : List Item) (s : State) : (writeAll items s).link.asked = s.link.asked :=
  foldl_keeps (fun t : State => t.link.asked) sectionEffect sectionEffect_asked items _

/-! ### The judgement (R151) -/

theorem configureOwner_badLength {m : AskedMessage} {k : Octet} {body : List Octet} (message : m.body = k :: body)
    (fails : walkItems k.toNat body = none) (s : State) : configureOwner m s = (s, .bare .badLength) := by
  simp only [configureOwner, message, fails]

theorem configureOwner_judges {m : AskedMessage} {k : Octet} {body : List Octet} {r : Items} (message : m.body = k :: body)
    (walked : walkItems k.toNat body = some r) (s : State) : configureOwner m s = judgeConfigure k.toNat r s := by
  simp only [configureOwner, message, walked]

theorem standbyOnly_iff (n : SectionName) :
    n.standbyOnly = true ↔ n = .phaseTable ∨ n = .planTable ∨ n = .movementMap := by
  cases n <;> simp [SectionName.standbyOnly]

theorem judgeConfigure_wrongMode {s : State} {count : Nat} {r : Items} (awake : s.mode ≠ .standby)
    (carries : ∃ it ∈ r.items, it.name = .phaseTable ∨ it.name = .planTable ∨ it.name = .movementMap) :
    judgeConfigure count r s = (s, .bare .wrongMode) := by
  obtain ⟨it, mem, named⟩ := carries
  exact if_pos ⟨awake, List.any_eq_true.2 ⟨it, mem, (standbyOnly_iff _).2 named⟩⟩

/-- The mode allows the sections of a message. -/
def State.allows (s : State) (items : List Item) : Prop :=
  s.mode = .standby ∨ ∀ it ∈ items, it.name ≠ .phaseTable ∧ it.name ≠ .planTable ∧ it.name ≠ .movementMap

theorem judgeConfigure_allowed {s : State} {count : Nat} {r : Items} (allowed : s.allows r.items) :
    judgeConfigure count r s =
      if structureOk s.config count r then (writeAll r.items s, writtenReply r.items) else (s, .bare .badValue) := by
  refine if_neg ?_
  rintro ⟨awake, carries⟩
  obtain ⟨it, mem, named⟩ := List.any_eq_true.1 carries
  rcases allowed with standby | none_carried
  · exact awake standby
  · obtain ⟨phases, plans, map⟩ := none_carried it mem
    rcases (standbyOnly_iff _).1 named with h | h | h
    · exact phases h
    · exact plans h
    · exact map h

theorem writtenReply_code (items : List Item) : (writtenReply items).code.code ≤ 1 := by
  unfold writtenReply
  dsimp only
  split
  · exact Nat.zero_le _
  · exact Nat.le_refl _

/-- The row of CONFIGURE by what its owner gives. -/
theorem exec_configure {s base : State} {m : AskedMessage} {rest : List AskedMessage} {r : Reply} (takes : s.takes m rest)
    (kind : m.kind = 1) (owned : configureOwner m (s.asking rest) = (base.asking rest, r)) :
    exec .configure s = .next (base.answered m rest r.code.code r.data) :=
  takeAsked_answered (want := fun m => m.kind == 0x01) takes (beq_iff_eq.2 kind) owned

/-- A state with a queue of asked messages, and that queue put back. -/
theorem asking_self {s : State} {rest : List AskedMessage} (asked : s.link.asked = rest) : s.asking rest = s := by
  subst asked
  rfl

/-- Settles O42. -/
theorem configureRefusedWhole : Obligations.ConfigureRefusedWhole := by
  unfold Obligations.ConfigureRefusedWhole
  intro m rest k body s takes kind message
  refine ⟨fun fails => ?_, fun r walked => ⟨fun awake carries => ?_, fun allowed => ⟨fun faulty => ?_, fun sound => ?_⟩⟩⟩
  · exact exec_configure (r := .bare .badLength) takes kind (configureOwner_badLength message fails _)
  · exact exec_configure (r := .bare .wrongMode) takes kind
      ((configureOwner_judges message walked _).trans (judgeConfigure_wrongMode (s := s.asking rest) awake carries))
  all_goals
    have structure_ := structureOk_iff (c := s.config) (count := k.toNat) (walkItems_measured _ body r walked)
    have judged := (configureOwner_judges message walked (s.asking rest)).trans
      (judgeConfigure_allowed (s := s.asking rest) allowed)
  · have refused := judged.trans (if_neg (fun ok => structure_.1 ok faulty))
    exact exec_configure (r := .bare .badValue) takes kind refused
  · have written := judged.trans (if_pos (structure_.2 sound))
    have asked : (writeAll r.items (s.asking rest)).asking rest = writeAll r.items (s.asking rest) :=
      asking_self (writeAll_asked r.items (s.asking rest))
    rw [← asked] at written
    exact ⟨_, _, _, writtenReply_code r.items, exec_configure takes kind written⟩

end Sys2Proof.Machine
end


section
/-! SUPPORT. Fields written and read again (R169): widths, ranges within their widths, and the records of a section. -/

namespace Sys2Proof.Machine

/-! ### Fields and their widths -/

/-- Every field fits its width. -/
def fitting (ws v : List Nat) : Prop := ∀ i, field v i < 256 ^ field ws i

theorem fitting_cons {w n : Nat} {ws v : List Nat} (h : fitting (w :: ws) (n :: v)) : n < 256 ^ w ∧ fitting ws v :=
  ⟨h 0, fun i => h (i + 1)⟩

theorem writeFields_length : ∀ (ws v : List Nat), (∀ w ∈ ws, w = 1 ∨ w = 2) → v.length = ws.length →
    (writeFields ws v).length = ws.sum
  | [], _, _, _ => rfl
  | w :: ws, n :: v, widths, length => by
    obtain ⟨width, widths⟩ := List.forall_mem_cons.1 widths
    rw [writeFields, List.length_append, writeFields_length ws v widths (Nat.succ_injective length), List.sum_cons]
    rcases width with rfl | rfl <;> rfl

theorem toNat_octet (n : Nat) : (octet n).toNat = n % 256 := BitVec.toNat_ofNat n 8

theorem number_octets2 {n : Nat} (small : n < 65536) : number (octets2 n) = n := by
  rw [octets2, number_pair, toNat_octet, toNat_octet]
  omega

/-- Fields written in their widths are read back. -/
theorem readFields_writeFields : ∀ (ws v : List Nat), (∀ w ∈ ws, w = 1 ∨ w = 2) → v.length = ws.length → fitting ws v →
    readFields ws (writeFields ws v) = v
  | [], [], _, _, _ => rfl
  | w :: ws, n :: v, widths, length, fits => by
    obtain ⟨width, widths⟩ := List.forall_mem_cons.1 widths
    obtain ⟨small, fits⟩ := fitting_cons fits
    have rest := readFields_writeFields ws v widths (Nat.succ_injective length) fits
    rcases width with rfl | rfl
    · have first : number [octet n] = n := by
        rw [number_one, toNat_octet]
        omega
      exact congrArg₂ List.cons first rest
    · exact congrArg₂ List.cons (number_octets2 small) rest

/-! ### Ranges within their widths (R153) -/

/-- Every range fits its width. -/
def narrow (ws : List Nat) (ranges : List (Nat × Nat)) : Prop :=
  ∀ i < ranges.length, max (ranges.getD i (0, 0)).1 (ranges.getD i (0, 0)).2 < 256 ^ field ws i

theorem clampFields_length (ranges : List (Nat × Nat)) (v : List Nat) :
    (clampFields ranges v).length = min v.length ranges.length := by
  rw [clampFields, List.length_map, List.length_zip]

theorem field_of_length {v : List Nat} {i : Nat} (beyond : v.length ≤ i) : field v i = 0 := by
  rw [field, List.getElem?_eq_none beyond]
  rfl

theorem clampFields_fitting {ws : List Nat} {ranges : List (Nat × Nat)} (within : narrow ws ranges) (v : List Nat) :
    fitting ws (clampFields ranges v) := by
  intro i
  by_cases there : i < min v.length ranges.length
  · have range : ranges[i]? = some (ranges.getD i (0, 0)) := by
      rw [List.getD_eq_getElem?_getD, List.getElem?_eq_getElem (by omega)]
      rfl
    rw [field_clampFields (lo := (ranges.getD i (0, 0)).1) (hi := (ranges.getD i (0, 0)).2) range (by omega)]
    have small := within i (by omega)
    omega
  · rw [field_of_length (by rw [clampFields_length]; omega)]
    exact Nat.pow_pos (by decide)

theorem narrow_general : narrow generalWidths generalRanges := by unfold narrow; decide
theorem narrow_approach : narrow approachWidths approachRanges := by unfold narrow; decide
theorem narrow_class : narrow classWidths classRanges := by unfold narrow; decide
theorem narrow_phase : narrow phaseWidths phaseRanges := by unfold narrow; decide
theorem narrow_plan : narrow planWidths planRanges := by unfold narrow; decide

/-- Values in their ranges survive writing and reading. -/
theorem readFields_clamped {ws : List Nat} {ranges : List (Nat × Nat)} {v : List Nat} (widths : ∀ w ∈ ws, w = 1 ∨ w = 2)
    (within : narrow ws ranges) (length : v.length = ws.length) (clamped : clampFields ranges v = v) :
    readFields ws (writeFields ws v) = v :=
  readFields_writeFields ws v widths length (clamped ▸ clampFields_fitting within v)

theorem field_setField {v : List Nat} {i : Nat} (there : i < v.length) (n j : Nat) :
    field (setField v i n) j = if j = i then n else field v j := by
  unfold field setField
  by_cases same : j = i
  · subst same
    simp [there]
  · simp [Ne.symm same, same]

/-- The values of an APPROACH section after both clamps fit their widths. -/
theorem clampApproach_fitting {v : List Nat} (length : v.length = 15) : fitting approachWidths (clampApproach v) := by
  have fits := clampFields_fitting narrow_approach v
  have stale : field (clampFields approachRanges v) 10 ≤ 10 := by
    rw [field_clampFields (lo := 1) (hi := 10) rfl (by omega)]
    omega
  have long : (clampFields approachRanges v).length = 15 := by rw [clampFields_length, length]; rfl
  unfold clampApproach
  generalize clampFields approachRanges v = u at *
  have floored : ∀ t : List Nat, t = (if field u 3 < field u 2 then setField u 2 (field u 3) else u) →
      t.length = 15 ∧ fitting approachWidths t ∧ field t 10 ≤ 10 := by
    rintro t rfl
    split
    · refine ⟨by rw [setField, List.length_set, long], fun i => ?_, ?_⟩
      · rw [field_setField (by omega)]
        split
        · next at_ =>
          subst at_
          exact fits 3
        · exact fits i
      · rw [field_setField (by omega), if_neg (by decide)]
        exact stale
    · exact ⟨long, fits, stale⟩
  unfold clampPairs
  dsimp only
  obtain ⟨long, fits, stale⟩ := floored _ rfl
  generalize (if field u 3 < field u 2 then setField u 2 (field u 3) else u) = t at *
  split
  · intro i
    rw [field_setField (by omega)]
    split
    · next at_ =>
      subst at_
      show field t 10 + 1 < 256
      omega
    · exact fits i
  · exact fits

/-! ### Settings as fields -/

theorem General.ofFields_fields (g : General) : General.ofFields g.fields = g := by
  obtain ⟨_, _, _, _, _, _, _, _, _, _, _, _, _, _, mode, _⟩ := g
  cases mode <;> rfl

theorem ApproachConfig.ofFields_fields (a : ApproachConfig) : ApproachConfig.ofFields a.fields = a := by
  obtain ⟨enabled⟩ := a
  cases enabled <;> rfl

theorem ClassConfig.ofFields_fields (c : ClassConfig) : ClassConfig.ofFields c.fields = c := by
  obtain ⟨enabled, unconditional⟩ := c
  cases enabled <;> cases unconditional <;> rfl

theorem PhaseRecord.ofFields_fields (r : PhaseRecord) (i : Nat) : PhaseRecord.ofFields (r.fields i) = r := by
  obtain ⟨_, _, _, _, _, _, truncatable⟩ := r
  cases truncatable <;> rfl

theorem Plan.ofFields_fields {p : Plan} (length : p.splits.length = 8) : Plan.ofFields p.fields = p := by
  obtain ⟨id, cycle, splits⟩ := p
  exact congrArg (Plan.mk id cycle) (List.take_of_length_le (Nat.le_of_eq length))

/-! ### Records of one length -/

theorem records_flatMap {α : Type} {len : Nat} {f : α → List Octet} : ∀ (l : List α), (∀ a ∈ l, (f a).length = len) →
    records len l.length (l.flatMap f) = l.map f
  | [], _ => rfl
  | a :: l, lengths => by
    obtain ⟨length, lengths⟩ := List.forall_mem_cons.1 lengths
    rw [List.length_cons, records, List.flatMap_cons, List.take_left' length, List.drop_left' length,
      records_flatMap l lengths, List.map_cons]

/-- Numbered phase records as one list of records. -/
theorem phaseOctets_eq (l : List PhaseRecord) : ∀ i : Nat,
    phaseOctets i l = (l.zipIdx i).flatMap fun q => writeFields phaseWidths (q.1.fields q.2) := by
  induction l with
  | nil => exact fun _ => rfl
  | cons r l ih =>
    intro i
    rw [phaseOctets, List.zipIdx_cons, List.flatMap_cons, ih]

/-- The taken fields of phase records in their order give the table back. -/
theorem phaseTableOf_fields (l : List PhaseRecord) :
    phaseTableOf l.length ((l.zipIdx 1).map fun q => q.1.fields q.2) = l := by
  have found : ∀ i (short : i < l.length),
      ((l.zipIdx 1).map fun q => q.1.fields q.2).find? (fun v => field v 0 == i + 1) = some (l[i].fields (i + 1)) := by
    intro i short
    refine List.find?_eq_some_iff_getElem.2 ⟨beq_self_eq_true (i + 1), i, by simpa using short, ?_, fun j before => ?_⟩
    · simp [Nat.add_comm]
    · have other : ¬j + 1 = i + 1 := by omega
      simpa [field, PhaseRecord.fields, Nat.add_comm] using other
  refine List.ext_getElem (by simp [phaseTableOf]) fun i _ short => ?_
  simp only [phaseTableOf, List.getElem_map, List.getElem_range, found i short, Option.getD_some]
  exact PhaseRecord.ofFields_fields _ _

end Sys2Proof.Machine
end


section
/-! SUPPORT. A CONFIGURE of one section (R151, R153, R154): its row, and what each section stores and does. -/

namespace Sys2Proof.Machine

/-! ### A message of one item -/

theorem walkItems_one {code : Octet} {name : SectionName} {data : List Octet} (names : sectionOf code = some name)
    (length : dataLength name data = some data.length) (place : Octet) :
    walkItems 1 (code :: place :: data) = some { items := [⟨name, place, data⟩], unknown := false } := by
  rw [walkItems_cons names length, if_neg (Nat.lt_irrefl _), List.drop_length, List.take_length]
  rfl

theorem structureOk_one (c : Configuration) (it : Item) :
    structureOk c 1 { items := [it], unknown := false } = (it.sound && mapAgrees c [it]) := by
  simp [structureOk, noRepeats]

/-- Only the sections of STANDBY look at the movement map. -/
theorem mapAgrees_other {it : Item} (open_ : it.name.standbyOnly = false) (c : Configuration) :
    mapAgrees c [it] = true := by
  rw [← Bool.not_eq_true, standbyOnly_iff, not_or, not_or] at open_
  obtain ⟨phases, -, map⟩ := open_
  have absent : ∀ n, it.name ≠ n → findItem n [it] = none := fun n other => by
    rw [findItem, List.find?_cons_of_neg (by simpa using other), List.find?_nil]
  rw [mapAgrees, absent _ phases, absent _ map]

/-- The row of a message that writes one section, by what the effects of the section leave. -/
theorem exec_configure_one {s base : State} {m : AskedMessage} {rest : List AskedMessage} {code : Octet} {it : Item}
    (takes : s.takes m rest) (kind : m.kind = 1) (message : m.body = 1 :: code :: it.place :: it.data)
    (names : sectionOf code = some it.name) (length : dataLength it.name it.data = some it.data.length)
    (allowed : s.allows [it]) (sound : it.sound = true) (agrees : mapAgrees s.config [it] = true)
    (written : sectionEffect { s.asking rest with config := writeItem s.config it } it = base.asking rest) :
    exec .configure s = .next (base.answered m rest (writtenReply [it]).code.code (writtenReply [it]).data) := by
  refine exec_configure takes kind ?_
  have ok : structureOk s.config 1 { items := [it], unknown := false } = true :=
    (structureOk_one _ _).trans (by rw [sound, agrees]; rfl)
  rw [configureOwner_judges message (walkItems_one names length it.place),
    judgeConfigure_allowed (s := s.asking rest) (r := { items := [it], unknown := false }) allowed,
    ← written]
  exact if_pos ok

theorem clampedFrom_self : ∀ (i : Nat) (v : List Nat), clampedFrom i v v = []
  | _, [] => rfl
  | i, n :: v => by rw [clampedFrom, if_pos rfl, clampedFrom_self (i + 1) v]

theorem clampedFrom_nil : ∀ (i : Nat) (w t : List Nat), w.length = t.length → clampedFrom i w t = [] → w = t
  | _, [], [], _, _ => rfl
  | i, a :: w, b :: t, length, none_clamped => by
    rw [clampedFrom] at none_clamped
    split at none_clamped
    · next same => rw [same, clampedFrom_nil (i + 1) w t (Nat.succ_injective length) none_clamped]
    · exact nomatch none_clamped

theorem writtenReply_ok {it : Item} (plain : ∀ r ∈ it.recs, r.taken = r.written) : writtenReply [it] = .bare .ok := by
  have none_clamped : it.clamped = [] := by
    rw [Item.clamped, List.flatMap_eq_nil_iff]
    intro r mem
    rw [plain r mem, clampedFrom_self]
    rfl
  rw [writtenReply, List.flatMap_cons, none_clamped]
  rfl

/-- The row of a message whose one section is stored as it was written. -/
theorem exec_configure_plain {s base : State} {m : AskedMessage} {rest : List AskedMessage} {code : Octet} {it : Item}
    (takes : s.takes m rest) (kind : m.kind = 1) (message : m.body = 1 :: code :: it.place :: it.data)
    (names : sectionOf code = some it.name) (length : dataLength it.name it.data = some it.data.length)
    (allowed : s.allows [it]) (sound : it.sound = true) (agrees : mapAgrees s.config [it] = true)
    (plain : ∀ r ∈ it.recs, r.taken = r.written)
    (written : sectionEffect { s.asking rest with config := writeItem s.config it } it = base.asking rest) :
    exec .configure s = .next (base.answered m rest 0 []) := by
  have row := exec_configure_one takes kind message names length allowed sound agrees written
  rwa [writtenReply_ok plain] at row

/-- A section of every mode is allowed. -/
theorem allows_other {it : Item} (open_ : it.name.standbyOnly = false) (s : State) : s.allows [it] := by
  right
  intro q mem
  obtain rfl := List.mem_singleton.1 mem
  rw [← Bool.not_eq_true, standbyOnly_iff] at open_
  simpa using open_

/-! ### GENERAL (R153, Table 8-4) -/

/-- The item of GENERAL. -/
def generalItem (data : List Octet) : Item := ⟨.general, 0, data⟩

theorem generalItem_written {g : General} (clamped : clampFields generalRanges g.fields = g.fields) :
    (generalItem (writeFields generalWidths g.fields)).recs = [{ place := 0, written := g.fields, taken := g.fields }] := by
  have read : readFields generalWidths (writeFields generalWidths g.fields) = g.fields :=
    readFields_clamped (by decide) narrow_general rfl clamped
  simp only [generalItem, Item.recs, read, clamped]

theorem generalItem_sound (g : General) (clamped : clampFields generalRanges g.fields = g.fields) :
    (generalItem (writeFields generalWidths g.fields)).sound = true := by
  have sound : (generalItem (writeFields generalWidths g.fields)).sound = List.all
      ((generalItem (writeFields generalWidths g.fields)).recs.map fun r => r.written) fun v => field v 14 ≤ 1 := rfl
  have mode : field g.fields 14 ≤ 1 := by
    show (if g.outcomeMode = .stop then 0 else 1) ≤ 1
    split <;> decide
  rw [sound, generalItem_written clamped]
  simpa using mode

/-- GENERAL with values in range. -/
theorem configure_general {s : State} {m : AskedMessage} {rest : List AskedMessage} (takes : s.takes m rest)
    (kind : m.kind = 1) {g : General} (clamped : clampFields generalRanges g.fields = g.fields)
    (message : m.body = 1 :: 1 :: 0 :: writeFields generalWidths g.fields) :
    exec .configure s =
      .next (State.answered { s with config := { s.config with general := g } } m rest 0 []) := by
  have recs := generalItem_written clamped
  have stored : writeItem s.config (generalItem (writeFields generalWidths g.fields)) =
      { s.config with general := g } := by
    have read : writeItem s.config (generalItem (writeFields generalWidths g.fields)) = { s.config with
        general := .ofFields (((generalItem (writeFields generalWidths g.fields)).recs.map fun r => r.taken).headD []) } :=
      rfl
    rw [read, recs]
    exact congrArg (fun u => { s.config with general := u }) g.ofFields_fields
  refine exec_configure_plain (it := generalItem (writeFields generalWidths g.fields)) takes kind message rfl ?_
    (allows_other rfl s) (generalItem_sound g clamped) (mapAgrees_other rfl _) (by simp [recs]) ?_
  · exact congrArg some (writeFields_length generalWidths g.fields (by decide) rfl).symm
  · rw [stored]
    rfl

/-- GENERAL of any values, each limited to its range. -/
theorem configure_general_clamps {s : State} {m : AskedMessage} {rest : List AskedMessage} (takes : s.takes m rest)
    (kind : m.kind = 1) {data : List Octet} (length : data.length = 19) (mode : (bodyOctet data 17).toNat ≤ 1)
    (message : m.body = 1 :: 1 :: 0 :: data) :
    ∃ list : List Octet, exec .configure s =
      .next (State.answered { s with config := { s.config with
          general := .ofFields (clampFields generalRanges (readFields generalWidths data)) } } m rest
        (if clampFields generalRanges (readFields generalWidths data) = readFields generalWidths data then 0 else 1)
        list) := by
  have sound : (generalItem data).sound = true := by
    refine (Item.sound_general 0 data).2 ?_
    simpa [Item.faulty] using mode
  have row := exec_configure_one (it := generalItem data) (base := { s with config := { s.config with
    general := .ofFields (clampFields generalRanges (readFields generalWidths data)) } }) takes kind message rfl
    (congrArg some length.symm) (allows_other rfl s) sound (mapAgrees_other rfl _) rfl
  have code : (writtenReply [generalItem data]).code.code =
      if clampFields generalRanges (readFields generalWidths data) = readFields generalWidths data then 0 else 1 := by
    split
    · next same =>
      rw [writtenReply_ok]
      · rfl
      · intro r mem
        obtain rfl := List.mem_singleton.1 mem
        exact same
    · next differs =>
      unfold writtenReply
      dsimp only
      rw [if_neg]
      · rfl
      · intro empty
        have none_clamped : clampedFrom 0 (readFields generalWidths data)
            (clampFields generalRanges (readFields generalWidths data)) = [] := by
          simpa [Item.clamped, generalItem, Item.recs] using empty
        exact differs (clampedFrom_nil 0 _ _ (by rw [clampFields_length, readFields_length]; rfl) none_clamped).symm
  exact ⟨_, code ▸ row⟩

/-! ### CLASS (Table 8-6) -/

/-- CLASS with values in range. -/
theorem configure_class {s : State} {m : AskedMessage} {rest : List AskedMessage} (takes : s.takes m rest)
    (kind : m.kind = 1) {n : Nat} {c : ClassConfig} (class_ : n ≤ 3) (clamped : clampFields classRanges c.fields = c.fields)
    (message : m.body = 1 :: 3 :: octet n :: writeFields classWidths c.fields) :
    exec .configure s = .next (State.answered { s with config := { s.config with
      classes := s.config.classes.set n c } } m rest 0 []) := by
  have read : readFields classWidths (writeFields classWidths c.fields) = c.fields :=
    readFields_clamped (by decide) narrow_class rfl clamped
  have place : (octet n).toNat = n := by
    rw [toNat_octet]
    omega
  have recs : (Item.mk .cls (octet n) (writeFields classWidths c.fields)).recs =
      [{ place := n, written := c.fields, taken := c.fields }] := by
    simp only [Item.recs, read, clamped, place]
  have flags : field c.fields 0 ≤ 1 ∧ field c.fields 1 ≤ 1 := ⟨Bool.toNat_le _, Bool.toNat_le _⟩
  have sound : (Item.mk .cls (octet n) (writeFields classWidths c.fields)).sound = true := by
    simp only [Item.sound, recs, place]
    simpa using ⟨class_, flags⟩
  have stored : writeItem s.config (Item.mk .cls (octet n) (writeFields classWidths c.fields)) =
      { s.config with classes := s.config.classes.set n c } := by
    simp only [writeItem, recs, place]
    exact congrArg (fun u => { s.config with classes := s.config.classes.set n u }) c.ofFields_fields
  refine exec_configure_plain (it := Item.mk .cls (octet n) (writeFields classWidths c.fields)) takes kind message rfl ?_
    (allows_other rfl s) sound (mapAgrees_other rfl _) (by simp [recs]) ?_
  · exact congrArg some (writeFields_length classWidths c.fields (by decide) rfl).symm
  · rw [stored]
    rfl

/-! ### ROUTE_MAP -/

/-- The data of a route map. -/
def routeData (l : List RouteEntry) : List Octet :=
  octet l.length :: l.flatMap fun e => writeFields routeWidths [e.route, e.cls]

theorem length_flatMap_const {α β : Type} {len : Nat} {f : α → List β} : ∀ (l : List α), (∀ a ∈ l, (f a).length = len) →
    (l.flatMap f).length = len * l.length
  | [], _ => rfl
  | a :: l, lengths => by
    obtain ⟨length, lengths⟩ := List.forall_mem_cons.1 lengths
    rw [List.flatMap_cons, List.length_append, length, length_flatMap_const l lengths, List.length_cons, Nat.mul_succ,
      Nat.add_comm]

/-- The length of data that carries its count. -/
theorem counted_length {len n : Nat} {data : List Octet} (few : n < 256) (length : data.length = len * n) :
    some (1 + len * (octet n).toNat) = some (octet n :: data).length := by
  rw [toNat_octet, Nat.mod_eq_of_lt few, List.length_cons, length, Nat.add_comm]

theorem routeData_count {l : List RouteEntry} (few : l.length ≤ 64) : countOf (routeData l) = l.length := by
  show (octet l.length).toNat = l.length
  rw [toNat_octet]
  omega

/-- The fields of the records of a route map. -/
theorem routeData_fields {l : List RouteEntry} (few : l.length ≤ 64)
    (inside : ∀ e ∈ l, 1 ≤ e.route ∧ e.route ≤ 999 ∧ e.cls ≤ 3) :
    (records 3 (countOf (routeData l)) (routeData l).tail).map (readFields routeWidths) =
      l.map fun e => [e.route, e.cls] := by
  rw [routeData_count few, routeData, List.tail_cons, records_flatMap (len := 3) l fun e _ =>
    writeFields_length routeWidths [e.route, e.cls] (by decide) rfl, List.map_map]
  refine List.map_congr_left fun e mem => ?_
  obtain ⟨least, most, cls⟩ := inside e mem
  exact readFields_writeFields routeWidths [e.route, e.cls] (by decide) rfl fun i => by
    rcases i with _ | _ | i
    · show e.route < 65536
      omega
    · show e.cls < 256
      omega
    · exact Nat.pow_pos (by decide)

/-- ROUTE_MAP with routes and classes in range, no route twice. -/
theorem configure_routeMap {s : State} {m : AskedMessage} {rest : List AskedMessage} (takes : s.takes m rest)
    (kind : m.kind = 1) {place : Octet} {l : List RouteEntry} (few : l.length ≤ 64)
    (inside : ∀ e ∈ l, 1 ≤ e.route ∧ e.route ≤ 999 ∧ e.cls ≤ 3) (distinct : (l.map RouteEntry.route).Nodup)
    (message : m.body = 1 :: 4 :: place :: routeData l) :
    exec .configure s = .next (State.answered { s with config := { s.config with routeMap := l } } m rest 0 []) := by
  have written : (Item.mk .routeMap place (routeData l)).recs.map (fun r => r.written) = l.map fun e => [e.route, e.cls] :=
    (written_routeMap place (routeData l)).trans (routeData_fields few inside)
  have kept : ∀ e ∈ l, clampFields routeRanges [e.route, e.cls] = [e.route, e.cls] := by
    intro e mem
    obtain ⟨least, most, cls⟩ := inside e mem
    simp only [clampFields, routeRanges, List.zip_cons_cons, List.zip_nil_left, List.map_cons, List.map_nil,
      List.cons.injEq, and_true]
    omega
  have taken : (Item.mk .routeMap place (routeData l)).recs.map (fun r => r.taken) = l.map fun e => [e.route, e.cls] := by
    refine (numbered_taken (g := clampFields routeRanges) (fun _ _ => rfl) 0 _).trans ?_
    rw [routeData_fields few inside, List.map_map]
    exact List.map_congr_left kept
  have sound : (Item.mk .routeMap place (routeData l)).sound = true := by
    simp only [Item.sound, written, List.map_map, routeData_count few]
    simp only [Bool.and_eq_true, decide_eq_true_eq, noRepeats_iff_nodup, List.all_map, List.all_eq_true,
      Function.comp_apply]
    exact ⟨⟨few, fun e mem => ⟨(inside e mem).1, (inside e mem).2.1⟩⟩, distinct⟩
  have stored : writeItem s.config (Item.mk .routeMap place (routeData l)) = { s.config with routeMap := l } := by
    simp only [writeItem, taken, List.map_map]
    exact congrArg (fun u => { s.config with routeMap := u }) (List.map_id' l)
  refine exec_configure_plain (it := Item.mk .routeMap place (routeData l)) takes kind message rfl ?_
    (allows_other rfl s) sound (mapAgrees_other rfl _) ?_ ?_
  · exact counted_length (by omega)
      (length_flatMap_const (len := 3) l fun e _ => writeFields_length routeWidths [e.route, e.cls] (by decide) rfl)
  · exact fun r mem => List.map_inj_left.1 (taken.trans written.symm) r mem
  · rw [stored]
    rfl

/-! ### MOVEMENT_MAP -/

/-- The data of a movement map. -/
def mapData (map : PerApproach MovementLine) : List Octet := allApproaches.flatMap fun x => (map.get x).octets

/-- The phases a movement map names, read from its data. -/
theorem mapData_phases {map : PerApproach MovementLine}
    (inside : ∀ x, (map.get x).through ≤ 8 ∧ (map.get x).left ≤ 8 ∧ (map.get x).right ≤ 8) :
    (mapData map).map (fun (o : Octet) => o.toNat) = mapPhases map := by
  have code : ∀ n, n ≤ 8 → (octet n).toNat = n := fun n small => by
    rw [toNat_octet]
    omega
  have lines : ∀ x, (map.get x).octets.map (fun (o : Octet) => o.toNat) =
      [(map.get x).through, (map.get x).left, (map.get x).right] := fun x => by
    obtain ⟨through, left, right⟩ := inside x
    simp only [MovementLine.octets, List.map_cons, List.map_nil, code _ through, code _ left, code _ right]
  rw [mapData, mapPhases, List.map_flatMap]
  simp only [lines]

/-- MOVEMENT_MAP in STANDBY, with phases of the intersection. -/
theorem configure_movementMap {s : State} {m : AskedMessage} {rest : List AskedMessage} (takes : s.takes m rest)
    (kind : m.kind = 1) {place : Octet} {map : PerApproach MovementLine} (standby : s.mode = .standby)
    (inside : ∀ x, (map.get x).through ≤ 8 ∧ (map.get x).left ≤ 8 ∧ (map.get x).right ≤ 8)
    (exist : ∀ n ∈ mapPhases map, n ≤ s.config.phases.length) (message : m.body = 1 :: 7 :: place :: mapData map) :
    exec .configure s =
      .next (State.answered { s with config := { s.config with movementMap := map } } m rest 0 []) := by
  have phases := mapData_phases inside
  have small : ∀ n ∈ mapPhases map, n ≤ 8 := by
    intro n mem
    obtain ⟨x, -, line⟩ := List.mem_flatMap.1 mem
    obtain ⟨through, left, right⟩ := inside x
    simp only [List.mem_cons, List.not_mem_nil, or_false] at line
    omega
  have recs : (Item.mk .movementMap place (mapData map)).recs =
      [{ place := 0, written := mapPhases map, taken := mapPhases map }] := by
    simp only [Item.recs, phases]
  have sound : (Item.mk .movementMap place (mapData map)).sound = true := by
    simp only [Item.sound, recs]
    simpa using small
  have agrees : mapAgrees s.config [Item.mk .movementMap place (mapData map)] = true := by
    have found : mapAgrees s.config [Item.mk .movementMap place (mapData map)] =
        ((mapData map).map (fun (o : Octet) => o.toNat)).all fun n => n ≤ s.config.phases.length := rfl
    rw [found, phases]
    simpa using exist
  have stored : writeItem s.config (Item.mk .movementMap place (mapData map)) =
      { s.config with movementMap := map } := by
    simp only [writeItem, recs]
    rfl
  refine exec_configure_plain (it := Item.mk .movementMap place (mapData map)) takes kind message rfl rfl (.inl standby)
    sound agrees (by simp [recs]) ?_
  rw [stored]
  rfl

/-! ### PHASE_TABLE and PLAN_TABLE (R46, R52, R67) -/

/-- What discarding the anchor leaves, with no grant active. -/
theorem discardAnchor_discards {s : State} (quiet : s.planner.grant = none) :
    (discardAnchor s).notices.latches.signalModel =
        (if s.model.state = .noStatus then s.notices.latches.signalModel
         else setOnce s.notices.latches.signalModel 0 s.now) ∧
      (discardAnchor s).latchesStay s [.signalModel] ∧
      (discardAnchor s).sameButNotices { s with
        model := { state := .noStatus, anchor := none },
        planner := { s.planner with
          review := if s.model.state = .tracking then none else s.planner.review } } := by
  have noted : ∀ u : State, (latchNotice .signalModel 0 u).notices.latches.signalModel =
      setOnce u.notices.latches.signalModel 0 u.now := latchNotice_get_same .signalModel 0
  by_cases before : s.model.state = .noStatus
  · have same : discardAnchor s = { s with model := { state := .noStatus, anchor := none } } := by
      rw [discardAnchor, setModelState, if_pos before]
      exact congrArg (fun st => { s with model := { state := st, anchor := none } }) before
    have review : (if s.model.state = .tracking then none else s.planner.review) = s.planner.review :=
      if_neg (by rw [before]; decide)
    rw [same, review, if_pos before]
    exact ⟨rfl, State.latchesStay_of_eq rfl _, State.sameButNotices_refl _⟩
  · have changed : discardAnchor s = signalPlanner s.model.state .noStatus
        (latchNotice .signalModel 0 { s with model := { state := .noStatus, anchor := none } }) :=
      setModelState_of_ne before
    rw [if_neg before]
    by_cases tracking : s.model.state = .tracking
    · rw [tracking, signalPlanner_unarmed (by decide) (by simp [quiet])] at changed
      rw [changed, if_pos tracking]
      refine ⟨noted _, latchNotice_latchesStay .signalModel 0 _, ?_⟩
      exact (Blind.onPlanner fun p => { p with review := none }).sameBut (latchNotice_sameBut .signalModel 0 _)
    · rw [signalPlanner_outside tracking (by decide)] at changed
      rw [changed, if_neg tracking]
      exact ⟨noted _, latchNotice_latchesStay .signalModel 0 _, latchNotice_sameBut .signalModel 0 _⟩

/-- The row of a table that discards the anchor. -/
theorem configure_table {s : State} {m : AskedMessage} {rest : List AskedMessage} {code : Octet} {it : Item}
    {config : Configuration} (takes : s.takes m rest) (kind : m.kind = 1)
    (message : m.body = 1 :: code :: it.place :: it.data) (names : sectionOf code = some it.name)
    (length : dataLength it.name it.data = some it.data.length) (standby : s.mode = .standby) (sound : it.sound = true)
    (agrees : mapAgrees s.config [it] = true) (plain : ∀ r ∈ it.recs, r.taken = r.written)
    (stored : writeItem s.config it = config) (effect : ∀ u, sectionEffect u it = discardAnchor u)
    (quiet : s.planner.grant = none) :
    ∃ u : State, exec .configure s = .next (u.answered m rest 0 []) ∧
      u.notices.latches.signalModel =
        (if s.model.state = .noStatus then s.notices.latches.signalModel
         else setOnce s.notices.latches.signalModel 0 s.now) ∧
      u.latchesStay s [.signalModel] ∧
      u.sameButNotices { s with
        config := config, model := { state := .noStatus, anchor := none },
        planner := { s.planner with
          review := if s.model.state = .tracking then none else s.planner.review } } := by
  obtain ⟨latch, stays, same⟩ := discardAnchor_discards (s := { s.asking rest with config := config }) quiet
  obtain ⟨asking, same⟩ := unasked_asking (base := { s with
    config := config, model := { state := .noStatus, anchor := none },
    planner := { s.planner with
      review := if s.model.state = .tracking then none else s.planner.review } }) same
  have row := exec_configure_plain
    (base := (discardAnchor { s.asking rest with config := config }).unasked s.link.asked) takes kind message names length
    (.inl standby) sound agrees plain (by rw [stored, effect]; exact asking.symm)
  exact ⟨_, row, latch, stays, same⟩

/-- The records of a phase table in their order. -/
def tableFields (l : List PhaseRecord) : List (List Nat) := (l.zipIdx 1).map fun q => q.1.fields q.2

/-- The data of a phase table. -/
def phaseData (l : List PhaseRecord) : List Octet := octet l.length :: phaseOctets 1 l

theorem clampFields_phase {r : PhaseRecord} (clamped : clampFields phaseRanges (r.fields 1) = r.fields 1) {i : Nat}
    (first : 1 ≤ i) (last : i ≤ 8) : clampFields phaseRanges (r.fields i) = r.fields i := by
  have tail := (List.cons.inj clamped).2
  have head : max 1 (min 8 i) = i := by omega
  exact congrArg₂ List.cons head tail

theorem mem_tableFields {l : List PhaseRecord} {v : List Nat} (mem : v ∈ tableFields l) :
    ∃ r ∈ l, ∃ i, 1 ≤ i ∧ i ≤ l.length ∧ v = r.fields i := by
  obtain ⟨⟨r, i⟩, found, rfl⟩ := List.mem_map.1 mem
  obtain ⟨first, last, at_⟩ := List.mem_zipIdx found
  exact ⟨r, at_ ▸ List.getElem_mem _, i, first, by omega, rfl⟩

theorem tableFields_places (l : List PhaseRecord) : (tableFields l).map (fun v => field v 0) = List.range' 1 l.length := by
  rw [tableFields, List.map_map]
  exact List.zipIdx_map_snd 1 l

/-- PHASE_TABLE in STANDBY, its values in range. -/
theorem phaseData_item {l : List PhaseRecord} (least : 2 ≤ l.length) (most : l.length ≤ 8)
    (clamped : ∀ r ∈ l, clampFields phaseRanges (r.fields 1) = r.fields 1) (place : Octet) (c : Configuration) :
    let it : Item := ⟨.phaseTable, place, phaseData l⟩
    dataLength it.name it.data = some it.data.length ∧ it.sound = true ∧ (∀ r ∈ it.recs, r.taken = r.written) ∧
      writeItem c it = { c with phases := l } := by
  intro it
  have count : countOf (phaseData l) = l.length := by
    show (octet l.length).toNat = l.length
    rw [toNat_octet]
    omega
  have long : ∀ q ∈ l.zipIdx 1, (writeFields phaseWidths (q.1.fields q.2)).length = 12 := fun q _ =>
    writeFields_length phaseWidths (q.1.fields q.2) (by decide) rfl
  have kept : ∀ v ∈ tableFields l, clampFields phaseRanges v = v := by
    intro v mem
    obtain ⟨r, there, i, first, last, rfl⟩ := mem_tableFields mem
    exact clampFields_phase (clamped r there) first (by omega)
  have fields : it.phaseFields = tableFields l := by
    have records_ : records 12 (countOf it.data) it.data.tail =
        (l.zipIdx 1).map fun q => writeFields phaseWidths (q.1.fields q.2) := by
      show records 12 (countOf (phaseData l)) (phaseOctets 1 l) = _
      rw [count, phaseOctets_eq, ← records_flatMap (l.zipIdx 1) long, List.length_zipIdx]
    rw [Item.phaseFields, records_, List.map_map]
    refine List.map_congr_left fun q mem => ?_
    exact readFields_clamped (by decide) narrow_phase rfl (kept _ (List.mem_map_of_mem mem))
  obtain ⟨written, taken⟩ := Item.recs_phaseTable (it := it) rfl
  rw [fields] at written taken
  rw [List.map_congr_left (g := id) fun v mem => kept v mem, List.map_id] at taken
  refine ⟨?_, ?_, ?_, ?_⟩
  · refine counted_length (by omega) ?_
    rw [phaseOctets_eq, length_flatMap_const (len := 12) (l.zipIdx 1) long, List.length_zipIdx]
  · have sound : it.sound = (2 ≤ countOf (phaseData l) && countOf (phaseData l) ≤ 8 &&
        ((it.recs.map fun r => r.written).all fun v =>
          1 ≤ field v 0 && field v 0 ≤ countOf (phaseData l) && field v 7 ≤ 1) &&
        noRepeats ((it.recs.map fun r => r.written).map fun v => field v 0)) := rfl
    rw [sound, written, count, tableFields_places]
    simp only [Bool.and_eq_true, decide_eq_true_eq, noRepeats_iff_nodup, List.all_eq_true]
    refine ⟨⟨⟨least, most⟩, fun v mem => ?_⟩, List.nodup_range'⟩
    obtain ⟨r, there, i, first, last, rfl⟩ := mem_tableFields mem
    exact ⟨⟨first, last⟩, Bool.toNat_le _⟩
  · exact fun r mem => List.map_inj_left.1 (taken.trans written.symm) r mem
  · have stored : writeItem c it =
        { c with phases := phaseTableOf (countOf (phaseData l)) (it.recs.map fun r => r.taken) } := rfl
    rw [stored, taken, count]
    exact congrArg (fun u => { c with phases := u }) (phaseTableOf_fields l)

/-- The data of a plan table. -/
def planData (l : List Plan) : List Octet := octet l.length :: l.flatMap fun p => writeFields planWidths p.fields

/-- PLAN_TABLE, its values in range. -/
theorem planData_item {l : List Plan} (few : l.length ≤ 4)
    (clamped : ∀ p ∈ l, p.splits.length = 8 ∧ clampFields planRanges p.fields = p.fields) (place : Octet)
    (c : Configuration) :
    let it : Item := ⟨.planTable, place, planData l⟩
    dataLength it.name it.data = some it.data.length ∧ it.sound = true ∧ (∀ r ∈ it.recs, r.taken = r.written) ∧
      writeItem c it = { c with plans := l } := by
  intro it
  have count : countOf (planData l) = l.length := by
    show (octet l.length).toNat = l.length
    rw [toNat_octet]
    omega
  have ten : ∀ p ∈ l, p.fields.length = planWidths.length := fun p mem =>
    congrArg (· + 2) (clamped p mem).1
  have long : ∀ p ∈ l, (writeFields planWidths p.fields).length = 19 := fun p mem =>
    writeFields_length planWidths p.fields (by decide) (ten p mem)
  have fields : (records 19 (countOf (planData l)) (planData l).tail).map (readFields planWidths) = l.map Plan.fields := by
    rw [count, planData, List.tail_cons, records_flatMap l long, List.map_map]
    exact List.map_congr_left fun p mem =>
      readFields_clamped (by decide) narrow_plan (ten p mem) (clamped p mem).2
  have written : it.recs.map (fun r => r.written) = l.map Plan.fields := (written_planTable place _).trans fields
  have taken : it.recs.map (fun r => r.taken) = l.map Plan.fields := by
    refine (numbered_taken (g := clampFields planRanges) (fun _ _ => rfl) 0 _).trans ?_
    rw [fields, List.map_map]
    exact List.map_congr_left fun p mem => (clamped p mem).2
  refine ⟨?_, ?_, ?_, ?_⟩
  · exact counted_length (by omega) (length_flatMap_const l long)
  · have sound : it.sound = (countOf (planData l) ≤ 4 && (it.recs.map fun r => r.written).all fun v => field v 0 ≤ 15) :=
      rfl
    rw [sound, written, count]
    simp only [Bool.and_eq_true, decide_eq_true_eq, List.all_eq_true, List.forall_mem_map]
    refine ⟨few, fun p mem => ?_⟩
    have id : max 0 (min 15 p.id) = p.id := (List.cons.inj (clamped p mem).2).1
    show p.id ≤ 15
    omega
  · exact fun r mem => List.map_inj_left.1 (taken.trans written.symm) r mem
  · have stored : writeItem c it = { c with plans := (it.recs.map fun r => r.taken).map Plan.ofFields } := rfl
    rw [stored, taken, List.map_map]
    refine congrArg (fun u => { c with plans := u }) ?_
    exact (List.map_congr_left (g := id) fun p mem => Plan.ofFields_fields (clamped p mem).1).trans (List.map_id l)

/-! ### APPROACH (R83, R129, R130, Table 8-5) -/

theorem limitTokens_eq (x : Approach) (kMax : Nat) (s : State) : limitTokens x kMax s = { s with
    planner := { s.planner with tokens := s.planner.tokens.set x (min (s.planner.tokens.get x) kMax) } } := by
  unfold limitTokens
  split
  · next above => rw [Nat.min_eq_right (Nat.le_of_lt above)]; rfl
  · next within => rw [Nat.min_eq_left (Nat.not_lt.1 within), PerApproach.set_get]

theorem limitTokens_blind (x : Approach) (kMax : Nat) : Blind (limitTokens x kMax) := fun s latches out dropped _ => by
  rw [limitTokens_eq, limitTokens_eq]
  rfl

/-- The port of a disabled approach, whatever it was. -/
def Port.off (p : Port) : Port :=
  { p with
    framer := .disabled, bits := [], passed := 0, store := [], repeats := 0, farAlarm := false,
    senderFault := false, markerInsertion := false, crcInsertion := .none }

theorem disablePort_off {x : Approach} {p : Port} {s : State} (held : s.ports.get x = p)
    (unaligned : p.framer = .hunt ∨ p.framer = .confirm) :
    disablePort x s = { s with ports := s.ports.set x p.off } := by
  subst held
  have enabled : (s.ports.get x).framer ≠ .disabled := by rcases unaligned with h | h <;> rw [h] <;> decide
  have loose : (s.ports.get x).framer ≠ .aligned := by rcases unaligned with h | h <;> rw [h] <;> decide
  unfold disablePort
  simp only [if_neg enabled, if_neg loose]
  rfl

theorem enablePort_hunts {x : Approach} {p : Port} {s : State} (held : s.ports.get x = p)
    (disabled : p.framer = .disabled) : enablePort x s = { s with ports := s.ports.set x { p with
      framer := .hunt, bits := [], passed := 0, store := [], repeats := 0, returnPos := 0,
      sent := List.replicate 4 (List.replicate 30 0), echo := false, sending := none } } := by
  subst held
  exact if_pos disabled

/-- A disable of an ALIGNED port, behind the limit of its tokens. -/
theorem limited_aligned {x : Approach} {s : State} (aligned : (s.ports.get x).framer = .aligned) (kMax : Nat) :
    let u := limitTokens x kMax (disablePort x s)
    u.notices.latches.linkState.get x = setOnce (s.notices.latches.linkState.get x) 0 s.now ∧
      u.latchesStay s [.linkState x] ∧
      u.sameButNotices { s with
        planner := { s.planner with tokens := s.planner.tokens.set x (min (s.planner.tokens.get x) kMax) },
        ports := s.ports.set x (s.ports.get x).cleared.off,
        stats := s.countedAll ((s.ports.get x).lossEvents x) } := by
  intro u
  have enabled : (s.ports.get x).framer ≠ .disabled := by rw [aligned]; decide
  have closes : disablePort x s = (leaveAligned x s).onPort x Port.off := by
    unfold disablePort
    simp only [if_neg enabled, if_pos aligned]
    rfl
  have written : u = limitTokens x kMax ((leaveAligned x s).onPort x Port.off) := congrArg (limitTokens x kMax) closes
  have left := (limitTokens_blind x kMax).sameBut
    ((onPort_blind x Port.off).sameBut (leaveAligned_sameBut (State.sameButNotices_refl s) x))
  have latches : u.notices.latches = (leaveAligned x s).notices.latches := by
    rw [written, limitTokens_eq]
    rfl
  rw [limitTokens_eq _ _ (State.onPort { s with
    ports := s.ports.set x (s.ports.get x).cleared, stats := s.countedAll ((s.ports.get x).lossEvents x) } x Port.off),
    ← written] at left
  simp only [State.onPort, PerApproach.get_set_self, PerApproach.set_set] at left
  refine ⟨?_, ?_, left⟩
  · rw [latches]
    exact leaveAligned_linkState x s
  · exact State.latchesStay_trans (State.latchesStay_of_eq latches _) (leaveAligned_latchesStay x s)

/-- The item of APPROACH. -/
def approachItem (x : Approach) (a : ApproachConfig) : Item :=
  ⟨.approach, octet (Approach.index x), writeFields approachWidths a.fields⟩

theorem approachOf_octet (x : Approach) : approachOf (octet (Approach.index x)) = some x := by
  cases x <;> rfl

/-- The effects of APPROACH written. -/
theorem sectionEffect_approach (x : Approach) (a : ApproachConfig) (u : State)
    (stored : u.config.approaches.get x = a) : sectionEffect u (approachItem x a) =
      limitTokens x a.kMax (if a.enabled = true then enablePort x u else disablePort x u) := by
  have effect : sectionEffect u (approachItem x a) = match approachOf (octet (Approach.index x)) with
      | some y => limitTokens y (u.config.approaches.get y).kMax (followEnabled y u)
      | none => u := rfl
  rw [effect, approachOf_octet]
  simp only [followEnabled, stored]

/-- APPROACH with values in range, by what its effects leave. -/
theorem configure_approach {s base : State} {m : AskedMessage} {rest : List AskedMessage} (takes : s.takes m rest)
    (kind : m.kind = 1) {x : Approach} {a : ApproachConfig} (clamped : clampApproach a.fields = a.fields)
    (depth : a.depth = 2 ∨ a.depth = 4 ∨ a.depth = 8)
    (message : m.body = 1 :: 2 :: octet (Approach.index x) :: writeFields approachWidths a.fields)
    (effect : limitTokens x a.kMax
      (if a.enabled = true then
        enablePort x { s.asking rest with config := { s.config with approaches := s.config.approaches.set x a } }
      else disablePort x { s.asking rest with config := { s.config with approaches := s.config.approaches.set x a } }) =
        base.asking rest) :
    exec .configure s = .next (base.answered m rest 0 []) := by
  have read : readFields approachWidths (writeFields approachWidths a.fields) = a.fields :=
    readFields_writeFields approachWidths a.fields (by decide) rfl (clamped ▸ clampApproach_fitting (v := a.fields) rfl)
  have recs : (approachItem x a).recs =
      [{ place := (octet (Approach.index x)).toNat, written := a.fields, taken := a.fields }] := by
    simp only [approachItem, Item.recs, read, clamped]
  have sound : (approachItem x a).sound = true := by
    have whole : (approachItem x a).sound = ((octet (Approach.index x)).toNat ≤ 3 &&
        ((approachItem x a).recs.map fun r => r.written).all fun v =>
          field v 0 ≤ 1 && (field v 1 == 2 || field v 1 == 4 || field v 1 == 8)) := rfl
    have place : (octet (Approach.index x)).toNat ≤ 3 := by cases x <;> decide
    have enabled : field a.fields 0 ≤ 1 := Bool.toNat_le _
    have depth : field a.fields 1 = 2 ∨ field a.fields 1 = 4 ∨ field a.fields 1 = 8 := depth
    rw [whole, recs]
    simpa [or_assoc] using ⟨place, enabled, depth⟩
  have stored : writeItem s.config (approachItem x a) =
      { s.config with approaches := s.config.approaches.set x a } := by
    have whole : ∀ v, ((approachItem x a).recs.map fun r => r.taken).headD [] = v →
        writeItem s.config (approachItem x a) = match approachOf (octet (Approach.index x)) with
          | some y => { s.config with approaches := s.config.approaches.set y (.ofFields v) }
          | none => s.config := by
      rintro v rfl
      rfl
    rw [whole a.fields (by rw [recs]; rfl), approachOf_octet]
    exact congrArg (fun u => { s.config with approaches := s.config.approaches.set x u }) a.ofFields_fields
  refine exec_configure_plain (it := approachItem x a) takes kind message rfl ?_ (allows_other rfl s) sound
    (mapAgrees_other rfl _) (by simp [recs]) ?_
  · exact congrArg some (writeFields_length approachWidths a.fields (by decide) rfl).symm
  · rw [stored, sectionEffect_approach x a _ (PerApproach.get_set_self _ _ _), effect]

/-- Settles O41. -/
theorem configureGeneralStoresValues : Obligations.ConfigureGeneralStoresValues := by
  unfold Obligations.ConfigureGeneralStoresValues
  intro m rest s takes kind
  refine ⟨fun g clamped message => ⟨configure_general takes kind clamped message, rfl⟩,
    fun data length mode message => configure_general_clamps takes kind length mode message,
    fun x a p clamped depth held message => ?_,
    fun n c class_ clamped message => configure_class takes kind class_ clamped message,
    fun place => ⟨fun l few inside distinct message => configure_routeMap takes kind few inside distinct message,
      fun map standby inside exist message => configure_movementMap takes kind standby inside exist message,
      fun config standby quiet tables => ?_⟩⟩
  · intro written off
    have row := fun base => configure_approach (base := base) takes kind clamped depth message
    refine ⟨fun unchanged => ?_, fun enabled disabled => ?_, fun cleared unaligned => ?_, fun cleared aligned => ?_⟩
    · refine row written ?_
      rw [limitTokens_eq]
      rcases unchanged with ⟨enabled, other⟩ | ⟨cleared, disabled⟩
      · rw [if_pos enabled, enablePort, if_neg (by rw [← held] at other; exact other)]
        rfl
      · rw [if_neg (by simp [cleared]), disablePort, if_pos (by rw [← held] at disabled; exact disabled)]
        rfl
    · refine row _ ?_
      have hunts := enablePort_hunts (s := { s.asking rest with
        config := { s.config with approaches := s.config.approaches.set x a } }) held disabled
      rw [if_pos enabled, hunts, limitTokens_eq]
      rfl
    · refine row _ ?_
      have stops := disablePort_off (s := { s.asking rest with
        config := { s.config with approaches := s.config.approaches.set x a } }) held unaligned
      rw [if_neg (by simp [cleared]), stops, limitTokens_eq]
      rfl
    · subst held
      obtain ⟨latch, stays, same⟩ := limited_aligned (s := { s.asking rest with config := written.config }) aligned a.kMax
      obtain ⟨asking, same⟩ := unasked_asking (base := { written with
        ports := s.ports.set x (s.ports.get x).cleared.off,
        stats := s.countedAll ((s.ports.get x).lossEvents x) }) same
      have stored := row _ ((congrArg (limitTokens x a.kMax) (if_neg (by rw [cleared]; nofun))).trans asking.symm)
      exact ⟨_, stored, latch, stays, same⟩
  · rcases tables with ⟨l, rfl, least, most, inside, exist, message⟩ | ⟨l, rfl, few, inside, message⟩
    · obtain ⟨length, sound, plain, stored⟩ := phaseData_item least most inside place s.config
      have agrees : mapAgrees s.config [⟨.phaseTable, place, phaseData l⟩] = true := by
        have found : mapAgrees s.config [⟨.phaseTable, place, phaseData l⟩] =
            (mapPhases s.config.movementMap).all fun n => n ≤ countOf (phaseData l) := rfl
        have count : countOf (phaseData l) = l.length := by
          show (octet l.length).toNat = l.length
          rw [toNat_octet]
          omega
        rw [found, count]
        simpa using exist
      exact configure_table takes kind message rfl length standby sound agrees plain stored (fun _ => rfl) quiet
    · obtain ⟨length, sound, plain, stored⟩ := planData_item few inside place s.config
      exact configure_table takes kind message rfl length standby sound rfl plain stored (fun _ => rfl) quiet

end Sys2Proof.Machine
end


section
/-! SUPPORT. The evaluation of an entry (chapter 2) against what it must give, and the placement of its state after an
update and after a pass (R10, R27). -/

namespace Sys2Proof.Machine

/-! ### The estimate (R28 to R36, R40 to R42) -/

/-- The estimate of an entry at the present instant. -/
def State.estimate (s : State) (el : Eligibility) (e : Entry) : Estimate :=
  evaluate s.config.general (s.config.approaches.get e.approach) (s.config.classes.get e.cls) (s.linkAligned e.approach)
    s.now el e

theorem smoothedSpeed_eq (a : ApproachConfig) (ring : List Nat) :
    smoothedSpeed a ring =
      if ring.drop (ring.length - min a.depth ring.length) = [] then a.vCruise
      else max a.vFloor (min a.vCap ((ring.drop (ring.length - min a.depth ring.length)).sum /
        (ring.drop (ring.length - min a.depth ring.length)).length)) := by
  have length : (ring.drop (ring.length - min a.depth ring.length)).length = min a.depth ring.length := by
    rw [List.length_drop]
    omega
  simp only [smoothedSpeed, clamp, ← List.length_eq_zero_iff, length]

theorem coastingNow_iff (s : State) (e : Entry) :
    coastingNow (s.config.approaches.get e.approach) (s.linkAligned e.approach) e.fromCabinet (elapsed s.now e.tLast) = true ↔
      10 * (s.config.approaches.get e.approach).tStale < (s.now - e.tLast).toNat ∨
        e.fromCabinet = false ∧ (s.ports.get e.approach).framer ≠ .aligned := by
  simp only [coastingNow, State.linkAligned, Bool.or_eq_true, decide_eq_true_eq, Bool.and_eq_true, Bool.not_eq_true',
    beq_eq_false_iff_ne]
  rfl

theorem travelTime_eq (a : ApproachConfig) (atStop : Bool) (d v : Nat) : travelTime a atStop d v =
    (d * 100 + ((if atStop = true then a.vCruise else v) - 1)) / (if atStop = true then a.vCruise else v) := by
  cases atStop <;> rfl

theorem dwellRemainder_eq (a : ApproachConfig) (atStop doorOpen : Bool) (dwell delta : Nat) :
    dwellRemainder a atStop doorOpen dwell delta =
      if atStop = true then
        if doorOpen = true then max a.dDep (a.dStop - (10 * dwell + delta)) else a.dDep - delta
      else 0 := by
  cases atStop <;> cases doorOpen <;> rfl

/-- The estimate is what chapter 2 gives. -/
theorem estimates_estimate (s : State) (el : Eligibility) (e : Entry) : s.estimates el e (s.estimate el e) := by
  have coasts := coastingNow_iff s e
  refine ⟨rfl, rfl, smoothedSpeed_eq _ _, rfl, ?_, ?_, coasts, rfl, rfl, rfl, rfl, rfl⟩
  · simp only [State.estimate, evaluate, travelTime_eq, dwellRemainder_eq]
    rfl
  · simp only [State.estimate, evaluate, travelTime_eq, dwellRemainder_eq, decide_eq_true_eq]
    rfl

/-- Nothing else is. -/
theorem estimates_unique {s : State} {el : Eligibility} {e : Entry} {v w : Estimate} (hv : s.estimates el e v)
    (hw : s.estimates el e w) : v = w := by
  obtain ⟨evalTime, speed, distNow, eta, beyond, half, start, stop, eligibility, score, coasting, ever⟩ := v
  obtain ⟨evalTime', speed', distNow', eta', beyond', half', start', stop', eligibility', score', coasting', ever'⟩ := w
  dsimp only [State.estimates] at hv hw
  obtain ⟨rfl, rfl, rfl, rfl, rfl, far, stale, width, opens, closes, sum, coasted⟩ := hv
  obtain ⟨rfl, rfl, rfl, rfl, rfl, far', stale', width', opens', closes', sum', coasted'⟩ := hw
  obtain rfl : beyond = beyond' := Bool.eq_iff_iff.2 (far.trans far'.symm)
  obtain rfl : coasting = coasting' := Bool.eq_iff_iff.2 (stale.trans stale'.symm)
  rw [coasted, coasted', sum, sum', closes, closes', opens, opens', width, width']

theorem estimate_of_estimates {s : State} {el : Eligibility} {e : Entry} {v : Estimate} (h : s.estimates el e v) :
    v = s.estimate el e := estimates_unique h (estimates_estimate s el e)

/-! ### Eligibility (R37, R38) -/

theorem decides_decideEligibility (c : ClassConfig) (previous : Eligibility) (lateness : Int) :
    c.decides previous lateness (decideEligibility c previous lateness) := by
  unfold decideEligibility
  refine ⟨fun off => by simp [off], fun on always => by simp [on, always], fun on judged => ?_⟩
  simp only [on, judged, Bool.not_true, Bool.false_eq_true, if_false, Bool.and_eq_true, decide_eq_true_eq]
  refine ⟨fun was keeps => if_pos ⟨was, keeps⟩, fun was keeps => ?_, fun leaves stays => ?_⟩
  · rw [if_neg (fun h => by rw [h.1] at was; exact nomatch was), if_pos ⟨was, keeps⟩]
  · rw [if_neg leaves, if_neg stays]
    refine ⟨fun late => if_pos late, fun below early => ?_, fun below above => ?_⟩
    · rw [if_neg (Int.not_le.2 below), if_pos early]
    · rw [if_neg (Int.not_le.2 below), if_neg (Int.not_le.2 above)]

/-! ### Placement (R10, R27) -/

theorem placeByEstimate_placed (e : Entry)
    (judged : e.state = .far ∨ e.state = .watch ∨ e.state = .covered ∨ e.state = .waiting ∨ e.state = .new) :
    (e.est.beyond = true → e.placeByEstimate = { e with state := .far, reason := none, indication := .none }) ∧
    (e.est.beyond = false → e.est.eligibility ≠ .eligible ∨ e.phase = 0 →
      e.placeByEstimate = { e with state := .watch, reason := none,
                                   indication := if e.est.eligibility = .hold then .hold else .none }) ∧
    (e.est.beyond = false → e.est.eligibility = .eligible → e.phase ≠ 0 →
      (e.state = .covered ∨ e.state = .waiting → e.placeByEstimate = e) ∧
      (e.state ≠ .covered → e.state ≠ .waiting → e.placeByEstimate = e.asWaiting .needsGreen)) := by
  unfold Entry.placeByEstimate
  refine ⟨fun far => if_pos far, fun near unfit => ?_, fun near fit phase => ?_⟩
  · rw [if_neg (by simp [near]), if_pos unfit, Entry.place]
    cases e.est.eligibility <;> rfl
  · rw [if_neg (by simp [near]), if_neg (by simp [fit, phase])]
    refine ⟨fun kept => ?_, fun other waits => ?_⟩
    · rcases kept with kept | kept <;> rw [kept]
    · rcases judged with h | h | h | h | h
      · rw [h]; rfl
      · rw [h]; rfl
      · exact absurd h other
      · exact absurd h waits
      · rw [h]; rfl

/-- The entries R10 judges by their estimate. -/
theorem placeAfterUpdate_judged {e : Entry} (judged : e.state = .far ∨ e.state = .watch ∨ e.state = .covered ∨
    e.state = .waiting ∨ e.state = .new ∧ (2 ≤ e.ring.length ∨ e.atStop = true)) :
    e.placeAfterUpdate = e.placeByEstimate := by
  unfold Entry.placeAfterUpdate
  rcases judged with h | h | h | h | ⟨h, enough⟩ <;> rw [h]
  exact if_neg (by simpa [or_iff_not_imp_left] using enough)

/-- Once it has left NEW an entry is placed after a pass as after an update (R10, R27). -/
theorem placeAfterPass_eq {e : Entry} (old : e.state ≠ .new) : e.placeAfterPass = e.placeAfterUpdate := by
  unfold Entry.placeAfterPass Entry.placeAfterUpdate
  cases state : e.state
  case new => exact absurd state old
  all_goals rfl

theorem placeAfterUpdate_placed (e : Entry) : e.placedAs e.placeAfterUpdate := by
  refine ⟨fun fixed => ?_, fun new few moving => ?_, fun judged => ?_⟩
  · unfold Entry.placeAfterUpdate
    rcases fixed with h | h | h | h <;> rw [h]
  · unfold Entry.placeAfterUpdate
    rw [new]
    exact if_pos (by simp [few, moving])
  · rw [placeAfterUpdate_judged judged]
    exact placeByEstimate_placed e (by tauto)

end Sys2Proof.Machine
end


section
/-! SUPPORT. A CHECK_IN or POSITION that is taken: the update of a known bus (R13) and the admission of an unknown one,
with room or over a victim (R15 to R17). -/

namespace Sys2Proof.Machine

/-! ### The update evaluation with its placement (R10, R26) -/

/-- An entry evaluated as an update evaluates it, and placed (R26, R10). -/
def State.updated (s : State) (e : Entry) : Entry := (s.updateEvaluation e).placeAfterUpdate

/-- The entry with another state, reason and indication. -/
def Entry.relabelled (e : Entry) (st : EntryState) (why : Option WaitReason) (shown : Indication) : Entry :=
  { e with state := st, reason := why, indication := shown }

/-- Placement changes state, reason and indication alone. -/
theorem placeByEstimate_frame (e : Entry) : ∃ st why shown, e.placeByEstimate = e.relabelled st why shown := by
  unfold Entry.placeByEstimate
  split
  · exact ⟨_, _, _, rfl⟩
  · split
    · exact ⟨_, _, _, rfl⟩
    · cases e.state <;> exact ⟨_, _, _, rfl⟩

theorem placeAfterUpdate_frame (e : Entry) : ∃ st why shown, e.placeAfterUpdate = e.relabelled st why shown := by
  have same : ∃ st why shown, e = e.relabelled st why shown := ⟨e.state, e.reason, e.indication, rfl⟩
  have judged := placeByEstimate_frame e
  unfold Entry.placeAfterUpdate
  cases e.state
  case new =>
    dsimp only
    split
    · exact same
    · exact judged
  case commanded | granted | spent | denied => exact same
  all_goals exact judged

/-- What the update of an entry gives (R10, R26, R30 to R38, R40 to R42). -/
theorem updated_evaluated (s : State) (e : Entry) : ∃ el v,
    (s.config.classes.get e.cls).decides e.est.eligibility e.lateness el ∧ s.estimates el e v ∧
      Entry.placedAs { e with est := v } (s.updated e) :=
  ⟨_, _, decides_decideEligibility _ _ _, estimates_estimate s _ e, placeAfterUpdate_placed _⟩

/-- An accepted CHECK_IN or POSITION of a known bus updates its entry (R12, R13). -/
theorem takeKnown_report {t : Telegram} {e : Entry} {s : State} (same : t.approach = e.approach)
    (newer : 1 ≤ sequenceDifference t.seq e.seq) (fresh : sequenceDifference t.seq e.seq ≤ 7)
    (kind : t.kind = .checkIn ∨ t.kind = .position) :
    takeKnown t e s = triggerPass (updateEntry e.bus (fun _ => s.updated (e.move t s.now)) s) := by
  have nonzero : sequenceDifference t.seq e.seq ≠ 0 := by omega
  have few : ¬8 ≤ sequenceDifference t.seq e.seq := by omega
  rcases kind with kind | kind <;> simp [takeKnown, same, nonzero, few, kind, updateKnown, State.updated]

/-! ### What a newcomer is (R8, R16) -/

/-- The entry that an admission adds. -/
def State.newcomer (s : State) (t : Telegram) : Entry := s.updated (s.newEntry t)

theorem admitBus_eq (t : Telegram) (s : State) :
    admitBus t s = triggerPass (countEvent .admission (if t.kind = .position then 1 else 0) (some t.source)
      { s with table := s.table ++ [s.newcomer t], admissions := s.admissions + 1 }) := rfl

/-- The class of a newcomer (R8). -/
theorem classOf_eq (s : State) (route : Nat) : s.classOf route =
    (match s.config.routeMap.find? fun r => r.route == route with
      | some r => if route = 0 then s.config.general.defaultClass else r.cls
      | none => s.config.general.defaultClass) := by
  unfold State.classOf
  cases s.config.routeMap.find? fun r => r.route == route with
  | none => exact ite_self _
  | some r => rfl

/-- The distance of a newcomer is that of its telegram: no time has passed (R29, R31). -/
theorem newEntry_distNow (s : State) (t : Telegram) (el : Eligibility) :
    (s.estimate el (s.newEntry t)).distNow = t.distance - t.speed * t.age / 1000 := by
  simp [State.estimate, evaluate, distanceNow, State.newEntry, elapsed, correctedDistance]

/-- Where a newcomer is placed: in NEW while it moves, otherwise by its estimate (R10, R16). -/
theorem newcomer_state (s : State) (t : Telegram) :
    (t.atStop = false → (s.newcomer t).state = .new ∧ (s.newcomer t).reason = none ∧ (s.newcomer t).indication = .none) ∧
      (t.atStop = true →
        (s.newcomer t).state = .far ∨ (s.newcomer t).state = .watch ∨ (s.newcomer t).state = .waiting) := by
  obtain ⟨-, moving, judged⟩ := placeAfterUpdate_placed (s.updateEvaluation (s.newEntry t))
  refine ⟨fun moves => ?_, fun stands => ?_⟩
  · have kept : s.newcomer t = s.updateEvaluation (s.newEntry t) :=
      moving rfl (by simp [State.updateEvaluation, State.evaluateWith, State.newEntry, moves]) moves
    rw [kept]
    exact ⟨rfl, rfl, rfl⟩
  · obtain ⟨far, watch, waits⟩ := judged (.inr (.inr (.inr (.inr ⟨rfl, .inr stands⟩))))
    by_cases beyond : (s.updateEvaluation (s.newEntry t)).est.beyond = true
    · exact .inl (congrArg Entry.state (far beyond))
    · rw [Bool.not_eq_true] at beyond
      by_cases unfit : (s.updateEvaluation (s.newEntry t)).est.eligibility ≠ .eligible ∨ (s.newEntry t).phase = 0
      · exact .inr (.inl (congrArg Entry.state (watch beyond unfit)))
      · obtain ⟨fit, phase⟩ := not_or.1 unfit
        have waiting := (waits beyond (not_not.1 fit) phase).2 nofun nofun
        exact .inr (.inr (congrArg Entry.state waiting))

/-! ### The victim of a full table (R17) -/

/-- The ETA of the newcomer's single sample is that of its estimate (R17, R26). -/
theorem trialEta_eq (s : State) (t : Telegram) : s.trialEta t = (s.estimate .neutral (s.newEntry t)).eta := by
  cases stop : t.atStop <;>
    simp [State.trialEta, State.estimate, evaluate, State.newEntry, stop, elapsed, distanceNow, smoothedSpeed, Nat.min_comm]

/-- The re-evaluation before the choice of a victim, from what it must give (R17, R26). -/
theorem victimEvaluation_eq {s : State} {e q : Entry} (kept : e.state ≠ .far → e.state ≠ .watch → q = e)
    (again : e.state = .far ∨ e.state = .watch → ∃ v, s.estimates e.est.eligibility e v ∧ q = { e with est := v }) :
    s.victimEvaluation e = q := by
  have evaluated (moves : e.state = .far ∨ e.state = .watch) : s.keepEvaluation e = q := by
    obtain ⟨v, estimates, rfl⟩ := again moves
    rw [estimate_of_estimates estimates]
    rfl
  unfold State.victimEvaluation
  cases state : e.state
  case far => exact evaluated (.inl state)
  case watch => exact evaluated (.inr state)
  all_goals exact (kept (by simp [state]) (by simp [state])).symm

theorem victimValue_of_may {e : Entry} (may : e.state = .new ∨ e.state = .far ∨ e.state = .watch) :
    victimValue e = some (if e.state = .new then 2551 else e.est.eta) := by
  unfold victimValue
  rcases may with h | h | h <;> rw [h] <;> rfl

theorem may_of_victimValue {e : Entry} {v : Nat} (value : victimValue e = some v) :
    (e.state = .new ∨ e.state = .far ∨ e.state = .watch) ∧ v = if e.state = .new then 2551 else e.est.eta := by
  have may : e.state = .new ∨ e.state = .far ∨ e.state = .watch := by
    unfold victimValue at value
    split at value <;> simp_all
  rw [victimValue_of_may may, Option.some.injEq] at value
  exact ⟨may, value.symm⟩

theorem chooseVictim_value : ∀ {l : List Entry} {e : Entry} {v : Nat}, chooseVictim l = some (e, v) → victimValue e = some v
  | [], _, _, h => nomatch h
  | q :: l, e, v, h => by
    unfold chooseVictim at h
    split at h
    · exact chooseVictim_value h
    · next value _ =>
      cases h
      exact value
    · next value later =>
      split at h
      · cases h
        exact value
      · cases h
        exact chooseVictim_value later

/-- The victim is the entry of the greatest value, the first among equals (R17). -/
theorem chooseVictim_eq {victim : Entry} {w : Nat} {back : List Entry} (value : victimValue victim = some w)
    (behind : ∀ e ∈ back, ∀ v, victimValue e = some v → v ≤ w) : ∀ {front : List Entry},
    (∀ e ∈ front, ∀ v, victimValue e = some v → v < w) → chooseVictim (front ++ victim :: back) = some (victim, w)
  | [], _ => by
    rw [List.nil_append, chooseVictim, value]
    cases later : chooseVictim back with
    | none => rfl
    | some p => exact if_pos (behind p.1 (chooseVictim_mem later) p.2 (chooseVictim_value later))
  | e :: front, before => by
    rw [List.cons_append, chooseVictim, chooseVictim_eq value behind fun q mem => before q (List.mem_cons_of_mem _ mem)]
    cases first : victimValue e with
    | none => rfl
    | some v => exact if_neg (Nat.not_le.2 (before e List.mem_cons_self v first))

/-! ### Admission beside what counting latches -/

theorem State.sameButSaturation.sameBut {t base : State} (h : t.sameButSaturation base) : t.sameButNotices base := by
  rcases h with rfl | ⟨i, c, -, -, rfl⟩
  · exact State.sameButNotices_refl _
  · exact latchNotice_sameBut _ _ _

/-- The state with another table, cache and admission counter. -/
def State.holding (table : List Entry) (cache : List CacheEntry) (admissions : BitVec 16) (s : State) : State :=
  { s with table := table, cache := cache, admissions := admissions }

theorem latchNotice_holding (l : Latch) (d : Nat) (table : List Entry) (cache : List CacheEntry) (n : BitVec 16) (s : State) :
    (latchNotice l d s).holding table cache n = latchNotice l d (s.holding table cache n) := by
  unfold latchNotice State.holding
  simp only
  split
  · rfl
  · split
    · unfold offerNotice
      simp only
      split <;> rfl
    · rfl

theorem sameButSaturation_holding {u base : State} (h : u.sameButSaturation base) (table : List Entry)
    (cache : List CacheEntry) (n : BitVec 16) : (u.holding table cache n).sameButSaturation (base.holding table cache n) := by
  rcases h with rfl | ⟨i, c, held, full, rfl⟩
  · exact .inl rfl
  · exact .inr ⟨i, c, held, full, latchNotice_holding _ _ _ _ _ _⟩

/-- The state with other pass marks. -/
def State.marking (due mark : Bool) (s : State) : State := s.onPlanner fun p => { p with passDue := due, passMark := mark }

theorem sameButSaturation_triggerPass {u base : State} (h : u.sameButSaturation base) : (triggerPass u).sameButSaturation
    (base.marking (triggerPass u).planner.passDue (triggerPass u).planner.passMark) := by
  have marked : triggerPass u = u.marking (triggerPass u).planner.passDue (triggerPass u).planner.passMark :=
    triggerPass_eq u
  generalize triggerPass u = v at *
  rw [marked]
  generalize v.planner.passDue = due, v.planner.passMark = mark
  rcases h with rfl | ⟨i, c, held, full, rfl⟩
  · exact .inl rfl
  · exact .inr ⟨i, c, held, full, latchNotice_onPlanner _ _ _ _⟩

/-- The state with an entry of a telegram added and its admission counted, the pass marks as given (R16, R162). -/
def State.admitting (s : State) (t : Telegram) (due mark : Bool) : State :=
  { s with table := s.table ++ [s.newcomer t], admissions := s.admissions + 1,
           stats := s.counted .admission (if t.kind = .position then 1 else 0) (some t.source),
           planner := { s.planner with passDue := due, passMark := mark } }

theorem admitBus_sameButSaturation {u base : State} (t : Telegram) (h : u.sameButSaturation base) :
    (admitBus t u).sameButSaturation
      (base.admitting t (admitBus t u).planner.passDue (admitBus t u).planner.passMark) := by
  have newcomer : u.newcomer t = base.newcomer t := by
    obtain ⟨latches, out, dropped, rfl, -, -⟩ := h.sameBut
    rfl
  have table : u.table = base.table := sameButNotices_table h.sameBut
  have admissions : u.admissions = base.admissions := by
    obtain ⟨latches, out, dropped, rfl, -, -⟩ := h.sameBut
    rfl
  have cache : u.cache = base.cache := by
    obtain ⟨latches, out, dropped, rfl, -, -⟩ := h.sameBut
    rfl
  have held := sameButSaturation_holding h (base.table ++ [base.newcomer t]) base.cache (base.admissions + 1)
  have counted := sameButSaturation_count held .admission (if t.kind = .position then 1 else 0) (some t.source)
  have passed := sameButSaturation_triggerPass counted
  have admits : admitBus t u = triggerPass (countEvent .admission (if t.kind = .position then 1 else 0) (some t.source)
      (u.holding (base.table ++ [base.newcomer t]) base.cache (base.admissions + 1))) := by
    rw [admitBus_eq, newcomer, table, admissions, ← cache]
    rfl
  rw [admits]
  exact passed

theorem admitBus_sameBut {u base : State} (t : Telegram) (h : u.sameButNotices base) :
    (admitBus t u).sameButNotices
      (base.admitting t (admitBus t u).planner.passDue (admitBus t u).planner.passMark) := by
  have admitted := (admitBus_sameButSaturation t (.inl rfl : u.sameButSaturation u)).sameBut
  generalize (admitBus t u).planner.passDue = due, (admitBus t u).planner.passMark = mark at *
  exact State.sameButNotices_trans admitted
    (Blind.sameBut (f := fun v => v.admitting t due mark) (fun _ _ _ _ _ => rfl) h)

/-- An admission makes a pass due when none runs (R16, R65). -/
theorem admitBus_passes {t : Telegram} {s : State} (awake : s.mode ≠ .standby) (idle : s.planner.passRunning = false) :
    (admitBus t s).planner.passDue = true := by
  rw [admitBus_eq]
  exact triggerPass_due (by simpa using awake) (by simpa using idle)

theorem admitBus_reports (t : Telegram) (s : State) :
    (admitBus t s).outcomes = s.outcomes ∧ (admitBus t s).latchesStay s [] := by
  rw [admitBus_eq]
  refine ⟨by simp, State.latchesStay_trans (State.latchesStay_of_eq (Blind.triggerPass.latches _) _)
    (countEvent_latchesStay _ _ _ _ _)⟩

/-! ### The cache lookup and the full table (R15, R17) -/

/-- A lookup that does not stop the newcomer leaves the lookup counted and the cache without the bus (R15). -/
theorem lookUpAndAdmit_passes {t : Telegram} {s : State} {k : Nat} {cache : List CacheEntry}
    (lookup : s.findCached t.bus = none ∧ k = 1 ∧ cache = s.cache ∨
      (∃ c, s.findCached t.bus = some c ∧ 10 * s.config.general.quietTime ≤ (s.now - c.time).toNat) ∧ k = 2 ∧
        cache = s.cache.filter fun c => c.bus != t.bus) :
    ∃ u, lookUpAndAdmit t s = admitAny t u ∧
      u.sameButSaturation { s with cache := cache, stats := s.counted .cacheLookup k (some t.source) } := by
  rcases lookup with ⟨uncached, rfl, rfl⟩ | ⟨⟨c, cached, past⟩, rfl, rfl⟩
  · exact ⟨_, lookUpAndAdmit_missed uncached, countEvent_saturation _ _ _ _⟩
  · have held := sameButSaturation_holding (countEvent_saturation .cacheLookup 2 (some t.source) s) s.table
      (s.cache.filter fun q => q.bus != t.bus) s.admissions
    refine ⟨_, lookUpAndAdmit_expired cached past, ?_⟩
    have same : State.holding s.table (s.cache.filter fun q => q.bus != t.bus) s.admissions
        (countEvent .cacheLookup 2 (some t.source) s) =
        { countEvent .cacheLookup 2 (some t.source) s with cache := s.cache.filter fun q => q.bus != t.bus } := by
      conv_lhs => rw [← countEvent_table .cacheLookup 2 (some t.source) s,
        ← countEvent_admissions .cacheLookup 2 (some t.source) s]
      rfl
    rw [← same]
    exact held

theorem admitFull_evicts {t : Telegram} {s : State} {e : Entry} {v : Nat} {table : List Entry}
    (evaluated : s.table.map s.victimEvaluation = table) (chosen : chooseVictim table = some (e, v))
    (worse : s.trialEta t < v) :
    admitFull t s = admitBus t (countEvent .evict 0 (some (.port e.approach))
      (leaveTable e .evicted false false { s with table := table })) := by
  unfold admitFull
  simp only [evaluated, chosen, if_pos worse]

theorem admitFull_keeps {t : Telegram} {s : State} {e : Entry} {v : Nat} {table : List Entry}
    (evaluated : s.table.map s.victimEvaluation = table) (chosen : chooseVictim table = some (e, v))
    (better : v ≤ s.trialEta t) :
    admitFull t s = countEvent .admitReject 0 (some t.source) { s with table := table } := by
  unfold admitFull
  simp only [evaluated, chosen, if_neg (Nat.not_lt.2 better)]

/-- What the leave of a victim that is no member of the grant leaves: a record, two counts and the pass marks (R17, R19). -/
theorem evict_leaves {e : Entry} (s : State) (outside : e.state ≠ .granted) :
    let u := countEvent .evict 0 (some (.port e.approach)) (leaveTable e .evicted false false s)
    u.tookRecord s (outcomeRecord e .evicted s.now false) ∧ u.latchesStay s [.outcomesWaiting, .outcomeOverrun] ∧
      u.sameButNotices { s with
        table := s.table.filter fun q => q.bus != e.bus, outcomes := u.outcomes,
        stats := s.countedAll [(.close, 7, some (.port e.approach)), (.evict, 0, some (.port e.approach))],
        planner := { s.planner with passDue := u.planner.passDue, passMark := u.planner.passMark } } := by
  obtain ⟨-, took, -, latches, -, stays, frame⟩ := leaveTable_leaves e .evicted false false s
  obtain ⟨table, grant, revise⟩ := stays outside
  rw [table, grant, revise, leaveTable_cache_stays] at frame
  generalize leaveTable e .evicted false false s = v at *
  have counted := countEvent_latchesStay .evict 0 (some (.port e.approach)) v []
  have behind := countEvent_sameBut_behind frame .evict 0 (some (.port e.approach))
  refine ⟨tookRecord_of_eq took (by simp) (counted .outcomesWaiting (by decide) (by simp) (by simp))
    (counted .outcomeOverrun (by decide) (by simp) (by simp)) rfl rfl rfl rfl,
    State.latchesStay_trans (State.latchesStay_weaken counted (by simp)) latches, ?_⟩
  rw [countEvent_outcomes, countEvent_planner]
  exact behind

/-- The admission of a bus over a victim, as its rows leave it (R16, R17). -/
theorem admitFull_leaves {t : Telegram} {u base : State} {e : Entry} {v : Nat} (table : List Entry)
    (h : u.sameButSaturation base) (evaluated : base.table.map base.victimEvaluation = table)
    (chosen : chooseVictim table = some (e, v)) (outside : e.state ≠ .granted) (worse : base.trialEta t < v) :
    (admitFull t u).tookRecord base (outcomeRecord e .evicted base.now false) ∧
      (admitFull t u).latchesStay base [.outcomesWaiting, .outcomeOverrun] ∧
      (base.mode ≠ .standby → base.planner.passRunning = false → (admitFull t u).planner.passDue = true) ∧
      (admitFull t u).sameButNotices { base with
        table := (table.filter fun q => q.bus != e.bus) ++ [base.newcomer t], admissions := base.admissions + 1,
        outcomes := (admitFull t u).outcomes,
        stats := base.countedAll [(.close, 7, some (.port e.approach)), (.evict, 0, some (.port e.approach)),
          (.admission, if t.kind = .position then 1 else 0, some t.source)],
        planner := { base.planner with
          passDue := (admitFull t u).planner.passDue, passMark := (admitFull t u).planner.passMark } } := by
  have stays : u.latchesStay base [] := by
    rcases h with rfl | ⟨i, c, -, -, rfl⟩
    · exact State.latchesStay_of_eq rfl _
    · exact fun l _ other _ => latchNotice_get_other other _ _
  have same : ({ u with table := table } : State).sameButNotices { base with table := table } :=
    Blind.sameBut (f := fun v : State => { v with table := table }) (fun _ _ _ _ _ => rfl) h.sameBut
  have alike : u.table.map u.victimEvaluation = base.table.map base.victimEvaluation ∧ u.trialEta t = base.trialEta t ∧
      u.outcomes = base.outcomes ∧ u.config = base.config ∧ u.now = base.now := by
    obtain ⟨latches, out, dropped, rfl, -, -⟩ := h.sameBut
    exact ⟨rfl, rfl, rfl, rfl, rfl⟩
  obtain ⟨evaluation, trial, outcomes, config, now⟩ := alike
  rw [admitFull_evicts (evaluation.trans evaluated) chosen (trial ▸ worse)]
  obtain ⟨took, latches, left⟩ := evict_leaves { u with table := table } outside
  generalize countEvent .evict 0 (some (.port e.approach)) (leaveTable e .evicted false false { u with table := table }) = w
    at *
  rw [now] at took
  have left' := State.sameButNotices_trans left (Blind.sameBut (f := fun v : State => { v with
      table := table.filter fun q => q.bus != e.bus, outcomes := w.outcomes,
      stats := v.countedAll [(.close, 7, some (.port e.approach)), (.evict, 0, some (.port e.approach))],
      planner := { v.planner with passDue := w.planner.passDue, passMark := w.planner.passMark } })
    (fun _ _ _ _ _ => rfl) same)
  have admitted := admitBus_sameBut t left'
  obtain ⟨records, reports⟩ := admitBus_reports t w
  have idle : w.mode = base.mode ∧ w.planner.passRunning = base.planner.passRunning := by
    obtain ⟨_, _, _, written, -, -⟩ := left'
    exact ⟨(congrArg State.mode written).trans rfl, (congrArg (fun v : State => v.planner.passRunning) written).trans rfl⟩
  refine ⟨?_, ?_, fun awake i => admitBus_passes (idle.1 ▸ awake) (idle.2 ▸ i), ?_⟩
  · unfold State.tookRecord at took ⊢
    have waiting := (reports .outcomesWaiting (by decide) (by simp) (by simp))
    have lost := (reports .outcomeOverrun (by decide) (by simp) (by simp))
    have waited := (stays .outcomesWaiting (by decide) (by simp) (by simp))
    have overran := (stays .outcomeOverrun (by decide) (by simp) (by simp))
    dsimp only [PerLatch.get] at waiting lost waited overran
    rw [records, waiting, lost]
    simpa only [outcomes, config, waited, overran] using took
  · exact State.latchesStay_trans (State.latchesStay_weaken reports (by simp))
      (State.latchesStay_trans latches (State.latchesStay_weaken stays (by simp)))
  · rw [records]
    exact admitted

/-- Settles O29: a known bus is updated in place, an unknown one admitted, over a victim or not at all. -/
theorem reportUpdatesOrAdmits : Obligations.ReportUpdatesOrAdmits := by
  unfold Obligations.ReportUpdatesOrAdmits
  intro t s serves kind passes marked
  have awake := awake_of_serves serves
  constructor
  · intro e known same newer fresh moved
    have row := exec_telegramRow_of_known serves known
    rw [takeKnown_report same newer fresh kind] at row
    obtain ⟨el, v, decides, estimates, placed⟩ := updated_evaluated { s with intake := s.intake.serve } moved
    refine ⟨_, _, el, v, row, decides, estimates, placed, fun idle => triggerPass_due awake idle, ?_⟩
    rw [← findEntry_bus known]
    exact triggerPass_eq _
  · intro k cache unknown lookup looked counted admits
    have row := exec_telegramRow_of_unknown serves unknown
    rw [takeUnknown_report kind] at row
    obtain ⟨u, admission, same⟩ := lookUpAndAdmit_passes (s := { s with intake := s.intake.serve }) lookup
    rw [admission] at row
    have fields : admits (s.newcomer t) := by
      have decides := decides_decideEligibility (s.config.classes.get (s.classOf t.route)) .neutral t.lateness
      obtain ⟨moving, standing⟩ := newcomer_state s t
      have placed : Entry.placedAs (s.updateEvaluation (s.newEntry t)) (s.newcomer t) := placeAfterUpdate_placed _
      obtain ⟨st, why, shown, eq⟩ : ∃ st why shown, s.newcomer t =
        (s.updateEvaluation (s.newEntry t)).relabelled st why shown :=
        placeAfterUpdate_frame (s.updateEvaluation (s.newEntry t))
      generalize s.newcomer t = q at *
      subst eq
      exact ⟨_, _, decides, estimates_estimate _ _ _, placed, rfl, rfl, rfl, classOf_eq s t.route, rfl, rfl, rfl, rfl, rfl,
        rfl, rfl, rfl, rfl, rfl, rfl, rfl, rfl, rfl, rfl, rfl, rfl, newEntry_distNow s t _, rfl, rfl, Nat.min_le_right _ _,
        rfl, rfl, rfl, rfl, rfl, rfl, rfl, rfl, rfl, rfl, rfl, rfl, moving, standing⟩
    constructor
    · intro room
      have less : u.table.length < 32 := by rwa [sameButNotices_table same.sameBut]
      rw [admitAny, if_pos less] at row
      have idle : u.mode = s.mode ∧ u.planner = s.planner := by
        obtain ⟨latches, out, dropped, rfl, -, -⟩ := same.sameBut
        exact ⟨rfl, rfl⟩
      exact ⟨_, _, row, fields, fun i => admitBus_passes (idle.1 ▸ awake) (idle.2 ▸ i), admitBus_sameButSaturation t same⟩
    · intro full worth may now table front victim back trial again newcomer evaluated split leaves before behind
      have more : ¬u.table.length < 32 := sameButNotices_table same.sameBut ▸ Nat.not_lt.2 full
      rw [admitAny, if_neg more] at row
      have table_eq : s.table.map s.victimEvaluation = table := by
        rw [evaluated]
        exact List.map_congr_left fun e mem => victimEvaluation_eq (again e mem).1 (again e mem).2
      have value : victimValue victim = some (worth victim) := victimValue_of_may leaves
      have chosen : chooseVictim table = some (victim, worth victim) := by
        rw [split]
        refine chooseVictim_eq value (fun e mem v held => ?_) fun e mem v held => ?_
        · obtain ⟨able, rfl⟩ := may_of_victimValue held
          exact behind e mem able
        · obtain ⟨able, rfl⟩ := may_of_victimValue held
          exact before e mem able
      have eta : s.trialEta t = trial.eta := by rw [trialEta_eq, estimate_of_estimates newcomer]
      refine ⟨fun worse => ?_, fun better => ?_⟩
      · have outside : victim.state ≠ .granted := by rcases leaves with h | h | h <;> simp [h]
        obtain ⟨took, latches, due, left⟩ :=
          admitFull_leaves (t := t) table same table_eq chosen outside (by exact eta ▸ worse)
        exact ⟨_, _, _, row, fields, due awake, took, outcomeRecord_isOf _ _ _ _, rfl, latches, left⟩
      · have alike : u.table.map u.victimEvaluation = s.table.map s.victimEvaluation ∧ u.trialEta t = s.trialEta t := by
          obtain ⟨_, _, _, rfl, -, -⟩ := same.sameBut
          exact ⟨rfl, rfl⟩
        rw [admitFull_keeps (alike.1.trans table_eq) chosen (by rw [alike.2, eta]; exact better)] at row
        refine ⟨_, row, ?_⟩
        have kept := sameButSaturation_holding same table cache s.admissions
        have counts := sameButSaturation_count kept .admitReject 0 (some t.source)
        have same' : State.holding table cache s.admissions u = { u with table := table } := by
          obtain ⟨_, _, _, rfl, -, -⟩ := same.sameBut
          rfl
        rw [← same']
        exact counts

end Sys2Proof.Machine
end


section
/-! SUPPORT. The projection of the model against the windows ahead (R55 to R61): the timeline counted from 0, the slack an
advance takes, and the cut at the horizon. -/

namespace Sys2Proof.Machine

/-! ### The timeline, counted from 0 (R56, R57) -/

/-- What the projection rests on (R44, R55): the horizon, the phases and their yellows, and the anchor's phase. -/
structure Configuration.Anchored (c : Configuration) (a : Anchor) : Prop where
  horizon : c.general.horizon ≤ 2550
  few : c.phases.length ≤ 8
  yellow : ∀ r ∈ c.phases, 20 ≤ r.yellow
  anchor : c.hasPhase a.phase

theorem Configuration.Anchored.yellow_of {c : Configuration} {a : Anchor} (h : c.Anchored a) {i : Nat}
    (named : c.hasPhase i) : 20 ≤ (c.phase i).yellow := by
  obtain ⟨least, most⟩ := named
  cases i with
  | zero => exact absurd least (by decide)
  | succ j =>
    have held : j < c.phases.length := most
    rw [Configuration.phase, List.getElem?_eq_getElem held]
    exact h.yellow _ (List.getElem_mem held)

/-- A ring window is followed by that of the next phase (R57). -/
theorem ringAhead_succ (c : Configuration) (p : Plan) (a : Anchor) (now : PartTime) (x i : Nat) :
    c.ringAhead p a now x (i + 1) =
      c.greenFrom p (phaseAfter c.phases.length (c.ringAhead p a now x i).phase) ((c.ringAhead p a now x i).stop +
        (c.phase (c.ringAhead p a now x i).phase).yellow + (c.phase (c.ringAhead p a now x i).phase).redClear) := rfl

theorem ringWindows_eq {c : Configuration} {p : Plan} {a : Anchor} {now : PartTime} {x : Nat} :
    ∀ {fuel i start j : Nat}, c.ringAhead p a now x j = c.greenFrom p i start →
      c.ringWindows p fuel i start = (List.range fuel).map fun m => c.ringAhead p a now x (j + m)
  | 0, _, _, _, _ => rfl
  | fuel + 1, i, start, j, first => by
    have next : c.ringAhead p a now x (j + 1) = c.greenFrom p (phaseAfter c.phases.length i)
        ((c.greenFrom p i start).stop + (c.phase i).yellow + (c.phase i).redClear) := by
      rw [ringAhead_succ, first]
      rfl
    rw [Configuration.ringWindows, List.range_succ_eq_map, List.map_cons, List.map_map]
    refine congrArg₂ List.cons first.symm ?_
    exact (ringWindows_eq next).trans (List.map_congr_left fun m _ => by
      rw [Function.comp, Nat.succ_eq_add_one, Nat.add_assoc, Nat.add_comm 1])

/-- How many windows the model's timeline holds. -/
def Anchor.reach (a : Anchor) : Nat := if a.interval = .green then 161 else 160

theorem timeline_eq (c : Configuration) (p : Plan) (a : Anchor) (now : PartTime) (adj : Adjustment) :
    c.timeline p a now adj = (List.range a.reach).map (c.ringAhead p a now (adj.extension a.phase)) := by
  unfold Configuration.timeline Anchor.reach projectionFuel
  cases interval : a.interval
  case green =>
    have zero : c.ringAhead p a now (adj.extension a.phase) 0 =
        { phase := a.phase, start := 0,
          stop := c.plannedGreen p a.phase + adj.extension a.phase - a.elapsedAt now, current := true } := by
      simp only [Configuration.ringAhead, interval]
      rfl
    have one : c.ringAhead p a now (adj.extension a.phase) 1 = c.greenFrom p (phaseAfter c.phases.length a.phase)
        (c.plannedGreen p a.phase + adj.extension a.phase - a.elapsedAt now + (c.phase a.phase).yellow +
          (c.phase a.phase).redClear) := by
      rw [ringAhead_succ, zero]
    rw [if_pos rfl, List.range_succ_eq_map, List.map_cons, List.map_map, zero]
    refine congrArg (List.cons _) ((ringWindows_eq one).trans (List.map_congr_left fun m _ => ?_))
    rw [Function.comp, Nat.succ_eq_add_one, Nat.add_comm 1]
  case yellow | redClear =>
    rw [if_neg (by decide)]
    refine (ringWindows_eq (j := 0) ?_).trans (List.map_congr_left fun m _ => by rw [Nat.zero_add])
    simp only [Configuration.ringAhead, interval]
    rfl

/-! ### The windows are apart and name phases -/

theorem ringAhead_hasPhase {c : Configuration} (p : Plan) {a : Anchor} (named : c.hasPhase a.phase) (now : PartTime)
    (x : Nat) : ∀ i, c.hasPhase (c.ringAhead p a now x i).phase
  | 0 => by
    unfold Configuration.ringAhead
    cases a.interval
    · exact named
    · exact phaseAfter_hasPhase named _
    · exact phaseAfter_hasPhase named _
  | i + 1 => phaseAfter_hasPhase named _

theorem ringAhead_ordered (c : Configuration) (p : Plan) (a : Anchor) (now : PartTime) (x : Nat) :
    ∀ i, (c.ringAhead p a now x i).start ≤ (c.ringAhead p a now x i).stop
  | 0 => by
    unfold Configuration.ringAhead
    cases a.interval
    · exact Nat.zero_le _
    · exact Nat.le_add_right _ _
    · exact Nat.le_add_right _ _
  | i + 1 => Nat.le_add_right _ _

/-- Between the end of a window and the start of the next lies at least a yellow (R44, R57). -/
theorem Configuration.Anchored.apart {c : Configuration} {a : Anchor} (h : c.Anchored a) (p : Plan) (now : PartTime)
    (x i : Nat) : (c.ringAhead p a now x i).stop + 20 ≤ (c.ringAhead p a now x (i + 1)).start := by
  have yellow := h.yellow_of (ringAhead_hasPhase p h.anchor now x i)
  rw [ringAhead_succ]
  change _ ≤ _ + _ + _
  omega

/-- Only the first window can be the current green (R57). -/
theorem ringAhead_current {c : Configuration} {p : Plan} {a : Anchor} {now : PartTime} {x i : Nat} (later : 0 < i) :
    (c.ringAhead p a now x i).current = false := by
  obtain ⟨j, rfl⟩ := Nat.exists_eq_succ_of_ne_zero (Nat.pos_iff_ne_zero.1 later)
  rfl

/-- From one window on every phase of the intersection comes within one turn of the ring (R44). -/
theorem ringAhead_climbs {c : Configuration} {p : Plan} {a : Anchor} {now : PartTime} {x i q : Nat}
    (below : (c.ringAhead p a now x i).phase ≤ q) (most : q ≤ c.phases.length) :
    (c.ringAhead p a now x (i + (q - (c.ringAhead p a now x i).phase))).phase = q := by
  obtain ⟨d, rfl⟩ := Nat.exists_eq_add_of_le below
  rw [Nat.add_sub_cancel_left]
  induction d with
  | zero => rfl
  | succ d ih =>
    have before := ih (Nat.le_add_right _ _) (by omega)
    rw [← Nat.add_assoc, ringAhead_succ, before]
    exact if_pos (by omega)

theorem ringAhead_reaches {c : Configuration} {p : Plan} {a : Anchor} {now : PartTime} {x q : Nat}
    (named : c.hasPhase a.phase) (asked : c.hasPhase q) (i : Nat) :
    ∃ m < c.phases.length, (c.ringAhead p a now x (i + m)).phase = q := by
  obtain ⟨least, most⟩ := asked
  obtain ⟨first, last⟩ := ringAhead_hasPhase p named now x i
  rcases Nat.lt_or_ge q (c.ringAhead p a now x i).phase with behind | ahead
  · have top := ringAhead_climbs (p := p) (now := now) (x := x) last (Nat.le_refl _)
    have wraps : (c.ringAhead p a now x (i + (c.phases.length - (c.ringAhead p a now x i).phase) + 1)).phase = 1 := by
      rw [ringAhead_succ, top]
      exact if_neg (Nat.lt_irrefl _)
    have climbs := ringAhead_climbs (p := p) (now := now) (x := x) (wraps ▸ least) most
    rw [wraps] at climbs
    refine ⟨c.phases.length - (c.ringAhead p a now x i).phase + 1 + (q - 1), by omega, ?_⟩
    rwa [← Nat.add_assoc, ← Nat.add_assoc]
  · exact ⟨q - (c.ringAhead p a now x i).phase, by omega, ringAhead_climbs ahead most⟩

/-- The window an advance is aimed at is one of the first n + 1 (R60). -/
theorem target_found {c : Configuration} {p : Plan} {a : Anchor} {now : PartTime} {x q : Nat}
    (named : c.hasPhase a.phase) (asked : c.hasPhase q) : ∃ m,
    (List.range (c.phases.length + 1)).find? (fun k => (c.ringAhead p a now x k).phase == q &&
      !(c.ringAhead p a now x k).current) = some m := by
  rw [← Option.isSome_iff_exists, List.find?_isSome]
  obtain ⟨m, within, phase⟩ := ringAhead_reaches (p := p) (now := now) (x := x) named asked 1
  exact ⟨1 + m, List.mem_range.2 (by omega), by simp [phase, ringAhead_current (Nat.lt_add_right m Nat.one_pos)]⟩

/-! ### What an advance takes (R60) -/

/-- What the windows of a list can give to an advance to phase `q` (R58, R60). -/
def slackSum (slackOf : Window → Nat) (q : Nat) (ws : List Window) : Nat :=
  ((ws.filter fun w => w.phase != q).map slackOf).sum

theorem slackSum_cons (slackOf : Window → Nat) (q : Nat) (w : Window) (ws : List Window) :
    slackSum slackOf q (w :: ws) = (if w.phase = q then 0 else slackOf w) + slackSum slackOf q ws := by
  unfold slackSum
  by_cases same : w.phase = q <;> simp [same]

theorem takeBack_append (slackOf : Window → Nat) (q : Nat) : ∀ (x : Nat) (ws vs : List Window),
    takeBack slackOf q x (ws ++ vs) = takeBack slackOf q x ws ++ takeBack slackOf q (x - slackSum slackOf q ws) vs
  | x, [], vs => rfl
  | x, w :: ws, vs => by
    rw [List.cons_append, takeBack, takeBack_append, takeBack, slackSum_cons, List.cons_append]
    congr 3
    split <;> omega

theorem slackSum_reverse (slackOf : Window → Nat) (q : Nat) (ws : List Window) :
    slackSum slackOf q ws.reverse = slackSum slackOf q ws := by
  simp [slackSum, List.filter_reverse, List.map_reverse, List.sum_reverse]

/-- The latest windows give first, so that a window gives what those from it on give, less what those behind it do. -/
theorem takeBack_cons (slackOf : Window → Nat) (q x : Nat) (w : Window) (ws : List Window) :
    (takeBack slackOf q x (w :: ws).reverse).reverse =
      (min x (slackSum slackOf q (w :: ws)) - min x (slackSum slackOf q ws)) ::
        (takeBack slackOf q x ws.reverse).reverse := by
  rw [List.reverse_cons, takeBack_append, slackSum_reverse, slackSum_cons]
  simp only [takeBack, List.reverse_append, List.reverse_cons, List.reverse_nil, List.nil_append, List.cons_append]
  congr 1
  split <;> omega

theorem splitAtTarget_fst (q : Nat) : ∀ ws : List Window,
    (splitAtTarget q ws).1 = ws.takeWhile fun w => !(w.phase == q && !w.current)
  | [] => rfl
  | w :: ws => by
    unfold splitAtTarget
    by_cases target : w.phase = q ∧ w.current = false
    · rw [if_pos target, List.takeWhile_cons_of_neg (by simp [target])]
    · have other : (w.phase == q && !w.current) = false := by
        rcases not_and_or.1 target with apart | current
        · simp [apart]
        · simp [Bool.eq_true_of_not_eq_false current]
      rw [if_neg target, List.takeWhile_cons, other]
      exact congrArg (List.cons w) (splitAtTarget_fst q ws)

/-- The windows of a timeline before the first that satisfies a test (R60 step 1). -/
theorem takeWhile_range {u : Nat → Window} {f : Window → Bool} {n m : Nat} (within : m < n) (target : f (u m) = true)
    (before : ∀ k < m, f (u k) = false) :
    ((List.range n).map u).takeWhile (fun w => !f w) = (List.range m).map u := by
  obtain ⟨d, rfl⟩ := Nat.exists_eq_add_of_lt within
  rw [Nat.add_assoc, List.range_add, List.map_append, List.takeWhile_append_of_pos, List.range_succ_eq_map]
  · simp [target]
  · intro w mem
    obtain ⟨k, low, rfl⟩ := List.mem_map.1 mem
    simp [before k (List.mem_range.1 low)]

/-- What the windows of a timeline from number `k` on, before number `m`, give of an advance of `x`. -/
def givenFrom (slackOf : Window → Nat) (u : Nat → Window) (q x m k : Nat) : Nat :=
  min x (slackSum slackOf q (((List.range m).drop k).map u))

theorem givenFrom_zero {slackOf : Window → Nat} {u : Nat → Window} {q x m k : Nat} (past : m ≤ k) :
    givenFrom slackOf u q x m k = 0 := by
  rw [givenFrom, List.drop_eq_nil_of_le (by simpa using past)]
  simp [slackSum]

theorem drop_range {m k : Nat} (within : k < m) : (List.range m).drop k = k :: (List.range m).drop (k + 1) := by
  rw [List.drop_eq_getElem_cons (by simpa using within), List.getElem_range]

theorem givenFrom_succ {slackOf : Window → Nat} {u : Nat → Window} {q x m : Nat} (k : Nat) :
    givenFrom slackOf u q x m (k + 1) ≤ givenFrom slackOf u q x m k ∧
      givenFrom slackOf u q x m k ≤ givenFrom slackOf u q x m (k + 1) + slackOf (u k) := by
  rcases Nat.lt_or_ge k m with within | past
  · rw [givenFrom, givenFrom, drop_range within, List.map_cons, slackSum_cons]
    split <;> omega
  · rw [givenFrom_zero past, givenFrom_zero (Nat.le_succ_of_le past)]
    omega

theorem givenFrom_le_zero {slackOf : Window → Nat} {u : Nat → Window} {q x m : Nat} : ∀ k,
    givenFrom slackOf u q x m k ≤ givenFrom slackOf u q x m 0
  | 0 => Nat.le_refl _
  | k + 1 => Nat.le_trans (givenFrom_succ k).1 (givenFrom_le_zero k)

/-- A window moved earlier by what those before it have given, and shortened by what it gives itself (R60). -/
def movedBy (slackOf : Window → Nat) (u : Nat → Window) (q x m i : Nat) : Window :=
  let given := givenFrom slackOf u q x m
  { u i with start := (u i).start - (given 0 - given i), stop := (u i).stop - (given 0 - given (i + 1)) }

theorem shiftWindows_eq (slackOf : Window → Nat) (u : Nat → Window) (q x n m : Nat) (within : m ≤ n) : ∀ (d k : Nat),
    k + d = m →
    shiftWindows (givenFrom slackOf u q x m 0 - givenFrom slackOf u q x m k) (((List.range n).drop k).map u)
        (takeBack slackOf q x (((List.range m).drop k).map u).reverse).reverse =
      ((List.range n).drop k).map (movedBy slackOf u q x m)
  | 0, k, past => by
    have done : (List.range m).drop k = [] := List.drop_eq_nil_of_le (by simp; omega)
    have shift : shiftWindows (givenFrom slackOf u q x m 0 - givenFrom slackOf u q x m k) (((List.range n).drop k).map u) [] =
        (((List.range n).drop k).map u).map fun w => { w with
          start := w.start - (givenFrom slackOf u q x m 0 - givenFrom slackOf u q x m k),
          stop := w.stop - (givenFrom slackOf u q x m 0 - givenFrom slackOf u q x m k) } := by
      cases ((List.range n).drop k).map u <;> rfl
    rw [done, List.map_nil]
    refine shift.trans ?_
    rw [List.map_map]
    refine List.map_congr_left fun i mem => ?_
    have beyond : k ≤ i := by
      obtain ⟨j, inside, rfl⟩ := List.mem_iff_getElem.1 mem
      simp
    rw [Function.comp, movedBy, givenFrom_zero (k := k) (by omega), givenFrom_zero (k := i) (by omega),
      givenFrom_zero (k := i + 1) (by omega)]
  | d + 1, k, at_k => by
    have low : k < m := by omega
    rw [drop_range low, drop_range (Nat.lt_of_lt_of_le low within), List.map_cons, List.map_cons, List.map_cons,
      takeBack_cons, shiftWindows, ← shiftWindows_eq slackOf u q x n m within d (k + 1) (by omega)]
    obtain ⟨falls, -⟩ := givenFrom_succ (slackOf := slackOf) (u := u) (q := q) (x := x) (m := m) k
    have top := givenFrom_le_zero (slackOf := slackOf) (u := u) (q := q) (x := x) (m := m) k
    have here : givenFrom slackOf u q x m k =
        min x (slackSum slackOf q (u k :: ((List.range m).drop (k + 1)).map u)) := by
      rw [givenFrom, drop_range low, List.map_cons]
    have behind : givenFrom slackOf u q x m (k + 1) = min x (slackSum slackOf q (((List.range m).drop (k + 1)).map u)) := rfl
    rw [← here, ← behind]
    refine congrArg₂ List.cons ?_ (congrArg (fun n => shiftWindows n _ _) (by omega))
    rw [movedBy]
    congr 1
    omega

/-- The timeline under an advance, counted from 0 (R60). -/
theorem applyAdvance_eq {slackOf : Window → Nat} {u : Nat → Window} {q x n m : Nat} (within : m < n)
    (target : (u m).phase = q ∧ (u m).current = false)
    (before : ∀ k < m, ((u k).phase == q && !(u k).current) = false) :
    applyAdvance slackOf q x ((List.range n).map u) = (List.range n).map (movedBy slackOf u q x m) := by
  have split : (splitAtTarget q ((List.range n).map u)).1 = (List.range m).map u := by
    rw [splitAtTarget_fst]
    exact takeWhile_range (f := fun w => w.phase == q && !w.current) within (by simp [target]) before
  have shifted := shiftWindows_eq slackOf u q x n m (Nat.le_of_lt within) m 0 (Nat.zero_add m)
  rw [applyAdvance, split]
  rwa [Nat.sub_self] at shifted

/-! ### The projection is the windows ahead (R55) -/

/-- Of a list in order, the beginning that satisfies a test is all of it that does. -/
theorem takeWhile_filter {α : Type} {f : α → Bool} : ∀ {l : List α}, l.Pairwise (fun v w => f w = true → f v = true) →
    l.takeWhile f = l.filter f
  | [], _ => rfl
  | v :: l, sorted => by
    obtain ⟨first, rest⟩ := List.pairwise_cons.1 sorted
    by_cases holds : f v = true
    · rw [List.takeWhile_cons_of_pos holds, List.filter_cons_of_pos holds, takeWhile_filter rest]
    · rw [List.takeWhile_cons_of_neg holds, List.filter_cons_of_neg holds,
        List.filter_eq_nil_iff.2 fun w mem later => holds (first w mem later)]

/-- Windows that start 20 apart: those within a horizon of 2550 are among the first 128 (R55). -/
theorem cut_eq {v : Nat → Window} {horizon n : Nat} (apart : ∀ i, (v i).start + 20 ≤ (v (i + 1)).start)
    (near : horizon ≤ 2550) (enough : 128 ≤ n) :
    ((List.range n).map v).takeWhile (fun w => decide (w.start ≤ horizon)) =
      ((List.range 128).map v).filter fun w => decide (w.start ≤ horizon) := by
  have climbs : ∀ i d, (v i).start + 20 * d ≤ (v (i + d)).start := by
    intro i d
    induction d with
    | zero => exact Nat.le_refl _
    | succ d ih =>
      have step := apart (i + d)
      rw [← Nat.add_assoc]
      omega
  have sorted : ((List.range n).map v).Pairwise
      fun w w' => decide (w'.start ≤ horizon) = true → decide (w.start ≤ horizon) = true := by
    refine List.pairwise_map.2 (List.pairwise_lt_range.imp fun {i j} less => ?_)
    obtain ⟨d, rfl⟩ := Nat.exists_eq_add_of_lt less
    have climb := climbs i (d + 1)
    rw [← Nat.add_assoc] at climb
    simp only [decide_eq_true_eq]
    omega
  obtain ⟨d, rfl⟩ := Nat.exists_eq_add_of_le enough
  have beyond : (((List.range d).map fun i => 128 + i).map v).filter (fun w => decide (w.start ≤ horizon)) = [] := by
    rw [List.map_map, List.filter_eq_nil_iff]
    intro w mem
    obtain ⟨i, -, rfl⟩ := List.mem_map.1 mem
    have climb := climbs 0 (128 + i)
    rw [Nat.zero_add] at climb
    simp only [Function.comp, decide_eq_true_eq]
    omega
  rw [takeWhile_filter sorted, List.range_add, List.map_append, List.filter_append, beyond, List.append_nil]

theorem gives_le (c : Configuration) (a : Anchor) (now : PartTime) (w : Window) : c.gives a now w ≤ w.stop - w.start := by
  unfold Configuration.gives
  dsimp only
  split
  · exact Nat.sub_le _ _
  · exact Nat.zero_le _

/-- The windows ahead under an advance, from the number of its target on (R60). -/
theorem adjusted_advance {c : Configuration} {p : Plan} {a : Anchor} {now : PartTime} {q m : Nat} (x : Nat)
    (target : (List.range (c.phases.length + 1)).find? (fun k => (c.ringAhead p a now 0 k).phase == q &&
      !(c.ringAhead p a now 0 k).current) = some m) :
    c.adjusted p a now (.advance q x) = movedBy (c.gives a now) (c.ringAhead p a now 0) q x m := by
  have given : ∀ k, min x ((((List.range m).drop k).filter fun j => (c.ringAhead p a now 0 j).phase != q).map fun j =>
      c.gives a now (c.ringAhead p a now 0 j)).sum = givenFrom (c.gives a now) (c.ringAhead p a now 0) q x m k := by
    intro k
    rw [givenFrom, slackSum, List.filter_map, List.map_map]
    rfl
  funext i
  simp only [Configuration.adjusted, target, Option.getD_some, given]
  rfl

/-- An advance leaves the windows apart: each gives at most what it holds (R58, R60). -/
theorem movedBy_apart {c : Configuration} {a : Anchor} (h : c.Anchored a) (p : Plan) (now : PartTime) (q x m i : Nat) :
    (movedBy (c.gives a now) (c.ringAhead p a now 0) q x m i).start + 20 ≤
      (movedBy (c.gives a now) (c.ringAhead p a now 0) q x m (i + 1)).start := by
  have gives := fun j => Nat.le_trans (givenFrom_succ (slackOf := c.gives a now) (u := c.ringAhead p a now 0) (q := q)
    (x := x) (m := m) j).2 (Nat.add_le_add_left (gives_le c a now _) _)
  have falls := fun j => (givenFrom_succ (slackOf := c.gives a now) (u := c.ringAhead p a now 0) (q := q)
    (x := x) (m := m) j).1
  have apart := h.apart p now 0
  have ordered := ringAhead_ordered c p a now 0
  have within : ∀ j, givenFrom (c.gives a now) (c.ringAhead p a now 0) q x m 0 -
      givenFrom (c.gives a now) (c.ringAhead p a now 0) q x m j ≤ (c.ringAhead p a now 0 j).start := by
    intro j
    induction j with
    | zero => rw [Nat.sub_self]; exact Nat.zero_le _
    | succ j ih =>
      have give := gives j
      have gap := apart j
      have order := ordered j
      omega
  have low := within i
  have give := gives i
  have fall := falls i
  have gap := apart i
  have order := ordered i
  have top := givenFrom_le_zero (slackOf := c.gives a now) (u := c.ringAhead p a now 0) (q := q) (x := x) (m := m) i
  simp only [movedBy]
  omega

/-- The model's projection is the windows ahead, when the advance it takes names a phase (R55 to R61). -/
theorem Configuration.Anchored.project_eq {c : Configuration} {a : Anchor} (h : c.Anchored a) (p : Plan) (now : PartTime)
    {adj : Adjustment} (named : ∀ q x, adj = .advance q x → c.hasPhase q) :
    c.project p a now adj = c.ahead p a now adj := by
  have enough : 128 ≤ a.reach := by
    unfold Anchor.reach
    split <;> decide
  have cut : ∀ {v : Nat → Window}, (∀ i, (v i).start + 20 ≤ (v (i + 1)).start) →
      ((List.range a.reach).map v).takeWhile (fun w => w.start ≤ c.general.horizon) =
        ((List.range 128).map v).filter fun w => w.start ≤ c.general.horizon := fun apart =>
    cut_eq apart h.horizon enough
  have still : ∀ x i, (c.ringAhead p a now x i).start + 20 ≤ (c.ringAhead p a now x (i + 1)).start := fun x i =>
    Nat.le_trans (Nat.add_le_add_right (ringAhead_ordered c p a now x i) 20) (h.apart p now x i)
  unfold Configuration.project Configuration.ahead
  rw [timeline_eq]
  cases adj with
  | none => exact cut (still 0)
  | extend q total => exact cut (still _)
  | advance q x =>
    obtain ⟨m, target⟩ := target_found (p := p) (now := now) (x := 0) h.anchor (named q x rfl)
    obtain ⟨hits, within, misses⟩ := List.find?_range_eq_some.1 target
    rw [adjusted_advance x target]
    rw [Bool.and_eq_true, beq_iff_eq, Bool.not_eq_true'] at hits
    refine Eq.trans (congrArg _ ?_) (cut (movedBy_apart h p now q x m))
    refine applyAdvance_eq (Nat.lt_of_lt_of_le (List.mem_range.1 within) ?_) hits fun k less => ?_
    · have few := h.few
      omega
    · rw [← Bool.not_eq_true']
      exact misses k less

end Sys2Proof.Machine
end


section
/-! SUPPORT. What a pass finds for an entry, against what sections 4.3 to 4.5 say it finds (R69 to R77). -/

namespace Sys2Proof.Machine

/-! ### The view of a pass (R69) -/

theorem adjustmentOf_eq (s : State) : adjustmentOf s.planner.grant = s.inForce := by
  unfold adjustmentOf State.inForce
  cases s.planner.grant with
  | none => rfl
  | some g =>
    dsimp only
    split
    · rfl
    · cases g.state <;> cases g.action <;> rfl

theorem servedIn_eq (e : Entry) (ws : List Window) (q : Nat) : coveredBy ws q e = e.servedIn ws q := by
  unfold coveredBy Entry.servedIn firstWindow
  cases ws.find? (fun w => w.phase == e.phase && decide (e.est.winStart < w.stop)) <;> rfl

theorem classifiable_asks (e : Entry) : e.state.classifiable = e.asks := by
  unfold Entry.asks
  cases e.state <;> rfl

/-- What a pass works with, over the evaluated entries `l`. -/
def State.view (s : State) (a : Anchor) (p : Plan) (l : List Entry) : PassView :=
  { anchor := a, plan := p, windows := s.ahead a p, coveredSet := s.covered a p l }

theorem State.RingSound.anchored {s : State} (ring : s.RingSound) {a : Anchor} {p : Plan}
    (tracked : s.trackedPlan = some (a, p)) : s.config.Anchored a := by
  obtain ⟨horizon, -, few, yellow, anchor, -⟩ := ring
  exact ⟨horizon, few, yellow, anchor a (trackedPlan_anchor tracked)⟩

/-- The projection of a pass is the windows ahead (R55). -/
theorem State.RingSound.project_ahead {s : State} (ring : s.RingSound) {a : Anchor} {p : Plan}
    (tracked : s.trackedPlan = some (a, p)) :
    s.config.project p a s.now (adjustmentOf s.planner.grant) = s.ahead a p := by
  have named := ring.2.2.2.2.2.1
  refine ((ring.anchored tracked).project_eq p s.now fun q x advance => ?_).trans (by rw [adjustmentOf_eq]; rfl)
  unfold adjustmentOf at advance
  split at advance
  · cases advance
  · next g active =>
    split at advance
    · cases advance
    · split at advance
      · cases advance
      · cases advance
        exact named g active
      · cases advance

/-! ### The tests (R70 to R77) -/

section
variable {s : State} {a : Anchor} {p : Plan}

/-- Protection, judged on a trial that names a phase (R74, R75). -/
theorem protectedAgainst_eq (ring : s.RingSound) (tracked : s.trackedPlan = some (a, p)) (l : List Entry)
    {adj : Adjustment} (named : ∀ q x, adj = .advance q x → s.config.hasPhase q) (e : Entry) :
    s.protectedAgainst (s.view a p l) adj e = s.uncovers a p l adj e := by
  have trial : s.config.project p a s.now adj = s.config.ahead p a s.now adj :=
    (ring.anchored tracked).project_eq p s.now named
  simp only [State.protectedAgainst, State.uncovers, State.view, trial, servedIn_eq]

theorem leadFinding_eq (ring : s.RingSound) (tracked : s.trackedPlan = some (a, p)) (l : List Entry)
    {adj : Adjustment} (named : ∀ q x, adj = .advance q x → s.config.hasPhase q) (e : Entry) (act : Action) (n : Nat) :
    s.leadFinding (s.view a p l) e act n adj = s.judgesLead a p l e act n adj := by
  simp only [State.leadFinding, State.judgesLead, protectedAgainst_eq ring tracked l named, ge_iff_le, Nat.lt_one_iff]

/-- What the windows before the next green of a phase can give (R73). -/
theorem availableSlack_eq {slackOf : Window → Nat} {q : Nat} {w : Window} : ∀ {ws : List Window},
    ws.find? (fun v => v.phase == q && !v.current) = some w →
    availableSlack slackOf ws q = (((ws.takeWhile fun v => v != w).filter fun v => v.phase != q).map slackOf).sum := by
  have before : ∀ {ws : List Window}, ws.find? (fun v => v.phase == q && !v.current) = some w →
      (splitAtTarget q ws).1 = ws.takeWhile fun v => v != w := by
    intro ws found
    rw [splitAtTarget_fst]
    induction ws with
    | nil => rfl
    | cons v ws ih =>
      rw [List.find?_cons] at found
      split at found
      · next target =>
        cases found
        rw [List.takeWhile_cons_of_neg (by simp [target]), List.takeWhile_cons_of_neg (by simp)]
      · next other =>
        have differs : v ≠ w := by
          rintro rfl
          rw [List.find?_some found] at other
          cases other
        rw [List.takeWhile_cons_of_pos (by simp [other]), List.takeWhile_cons_of_pos (by simpa using differs), ih found]
  intro ws found
  rw [availableSlack, before found]

theorem greens_find (ws : List Window) (q : Nat) (f : Window → Bool) :
    (ws.filter fun w => w.phase == q).find? f = ws.find? fun w => w.phase == q && f w := by
  rw [List.find?_filter]
  congr 1
  funext w
  rw [Bool.decide_and, Bool.decide_eq_true, Bool.decide_eq_true]

/-- A lead extension under test (R72, R76). -/
theorem testLead_extend (ring : s.RingSound) (tracked : s.trackedPlan = some (a, p)) (l : List Entry) (e : Entry)
    (w : Window) : s.testLead (s.view a p l) e .extend w =
      if (s.config.phase e.phase).maxExtend < e.est.winEnd + s.config.general.clearance - w.stop then .waits .limit
      else if s.planner.ledger.remaining < e.est.winEnd + s.config.general.clearance - w.stop then .waits .budget
      else s.judgesLead a p l e .extend (e.est.winEnd + s.config.general.clearance - w.stop)
        (.extend e.phase (e.est.winEnd + s.config.general.clearance - w.stop)) := by
  simp only [State.testLead, extendVerdict, Nat.zero_add]
  generalize e.est.winEnd + s.config.general.clearance - w.stop = need
  by_cases limit : (s.config.phase e.phase).maxExtend < need
  · simp only [if_pos limit]
  · by_cases budget : s.planner.ledger.remaining < need
    · simp only [if_neg limit, if_pos budget]
    · simp only [if_neg limit, if_neg budget]
      exact leadFinding_eq ring tracked l (adj := .extend e.phase need) (fun _ _ h => nomatch h) e _ _

/-- A lead advance under test (R73, R76). -/
theorem testLead_advance (ring : s.RingSound) (tracked : s.trackedPlan = some (a, p)) (l : List Entry) (e : Entry)
    (w : Window) (named : s.config.hasPhase e.phase) : s.testLead (s.view a p l) e .advance w =
      let available := availableSlack (s.config.slack a s.now) (s.ahead a p) e.phase
      let most := min (min (w.start - e.est.winStart) available) (s.config.phase e.phase).maxAdvance
      if most < s.config.general.aMin then .waits .limit
      else if min most s.planner.ledger.remaining < s.config.general.aMin then .waits .budget
      else s.judgesLead a p l e .advance (min most s.planner.ledger.remaining)
        (.advance e.phase (min most s.planner.ledger.remaining)) := by
  have leads := fun n => leadFinding_eq ring tracked l (adj := .advance e.phase n) (fun q x h => by cases h; exact named) e
    .advance n
  unfold State.testLead advanceVerdict
  dsimp only [State.view] at leads ⊢
  generalize availableSlack (s.config.slack a s.now) (s.ahead a p) e.phase = available
  generalize min (min (w.start - e.est.winStart) available) (s.config.phase e.phase).maxAdvance = most
  by_cases budget : s.config.general.aMin ≤ min most s.planner.ledger.remaining
  · have limit : ¬most < s.config.general.aMin := by omega
    simp only [if_pos budget, if_neg limit, if_neg (Nat.not_lt.2 budget)]
    exact leads _
  · by_cases limit : most < s.config.general.aMin
    · simp only [if_neg budget, if_pos limit]
    · simp only [if_neg budget, if_neg limit, if_pos (Nat.lt_of_not_le budget)]

/-- A possible follower under test (R77). -/
theorem testFollower_eq (ring : s.RingSound) (tracked : s.trackedPlan = some (a, p)) (l : List Entry) (g : Grant)
    (e : Entry) : s.testFollower (s.view a p l) g e =
      let late := e.est.winEnd + s.config.general.clearance
      let stop := extendedEnd (s.ahead a p) g
      if ¬s.followerPath g e = true ∨ stop ≤ e.est.winStart ∨ late ≤ stop ∨ 5 ≤ g.members.length then .waits .grantBusy
      else if (s.config.phase e.phase).maxExtend < g.total + (late - stop) then .waits .limit
      else if s.planner.ledger.remaining < late - stop then .waits .budget
      else if s.uncovers a p l (.extend e.phase (g.total + (late - stop))) e then .waits .guarded
      else .candidate .extend (late - stop) := by
  have guarded := fun n => protectedAgainst_eq ring tracked l (adj := .extend e.phase n) (fun _ _ h => nomatch h) e
  unfold State.testFollower extendVerdict
  dsimp only [State.view] at guarded ⊢
  generalize extendedEnd (s.ahead a p) g = stop
  by_cases path : s.followerPath g e = true
  · by_cases starts : stop ≤ e.est.winStart
    · simp [path, starts]
    · by_cases ends : e.est.winEnd + s.config.general.clearance ≤ stop
      · simp [path, starts, ends]
      · by_cases full : 5 ≤ g.members.length
        · simp [path, starts, ends, full]
        · simp only [path, starts, ends, full, Bool.not_true, Bool.false_eq_true, if_false, not_true, or_self, guarded]
          generalize e.est.winEnd + s.config.general.clearance - stop = need
          by_cases limit : (s.config.phase e.phase).maxExtend < g.total + need
          · simp only [if_pos limit]
          · by_cases budget : s.planner.ledger.remaining < need
            · simp only [if_neg limit, if_pos budget]
            · simp only [if_neg limit, if_neg budget]
  · simp [path]

/-- The same with the end of the green told in another way, of an entry of the grant's phase. -/
theorem testFollower_judged (ring : s.RingSound) (tracked : s.trackedPlan = some (a, p)) (l : List Entry) {g : Grant}
    {e : Entry} {stop : Nat} (ends : g.phase = e.phase → extendedEnd (s.ahead a p) g = stop) :
    s.testFollower (s.view a p l) g e =
      if ¬(g.state = .running ∧ g.phase = e.phase ∧
            (s.mode = .run ∧ g.shadow = false ∨ s.mode = .monitor ∧ g.shadow = true)) ∨
          stop ≤ e.est.winStart ∨ e.est.winEnd + s.config.general.clearance ≤ stop ∨ 5 ≤ g.members.length then
        .waits .grantBusy
      else if g.total + (e.est.winEnd + s.config.general.clearance - stop) > (s.config.phase e.phase).maxExtend then
        .waits .limit
      else if e.est.winEnd + s.config.general.clearance - stop >
        s.planner.ledger.timeLimit - s.planner.ledger.committed then .waits .budget
      else if s.uncovers a p l (.extend e.phase (g.total + (e.est.winEnd + s.config.general.clearance - stop))) e then
        .waits .guarded
      else .candidate .extend (e.est.winEnd + s.config.general.clearance - stop) := by
  have path : s.followerPath g e = true ↔ g.state = .running ∧ g.phase = e.phase ∧
      (s.mode = .run ∧ g.shadow = false ∨ s.mode = .monitor ∧ g.shadow = true) := by
    simp [State.followerPath, and_assoc]
  rw [testFollower_eq ring tracked l g e]
  by_cases open_ : s.followerPath g e = true
  · rw [ends (path.1 open_).2.1]
    exact if_congr (or_congr_left (not_congr path)) rfl rfl
  · exact (if_pos (.inl open_)).trans (if_pos (.inl (mt path.2 open_))).symm

/-- What a pass finds is what it must find (R70 to R77). -/
theorem finding_eq (ring : s.RingSound) (tracked : s.trackedPlan = some (a, p)) (l : List Entry) (e : Entry) :
    s.finding (s.view a p l) e = s.judges a p l e := by
  have windows : (s.view a p l).windows = s.ahead a p := rfl
  unfold State.finding State.judges neededAction firstWindow
  simp only [greens_find, windows]
  cases found : (s.ahead a p).find? fun w => w.phase == e.phase && decide (e.est.winStart < w.stop) with
  | none => simp only []
  | some w =>
    have hit := List.find?_some found
    simp only [Bool.and_eq_true, beq_iff_eq, decide_eq_true_eq] at hit
    obtain ⟨phase, ends⟩ := hit
    have named : s.config.hasPhase e.phase := by
      rw [← phase, ← ring.project_ahead tracked] at *
      exact project_hasPhase p (ring.anchored tracked).anchor _ _ w (List.mem_of_find?_eq_some found)
    have follows : ∀ g : Grant, g.phase = e.phase → extendedEnd (s.ahead a p) g = if g.shadow = true then
        (match (s.ahead a p).find? fun w => w.phase == e.phase && w.current with | some v => v.stop | none => 0) + g.total
      else match (s.ahead a p).find? fun w => w.phase == e.phase && w.current with | some v => v.stop | none => 0 :=
      fun g same => by rw [extendedEnd, same] <;> rfl
    by_cases current : w.current = true
    · simp only [current, if_true, Bool.true_eq_false, false_and, if_false]
      by_cases coasts : e.est.coasting = true
      · rw [if_pos coasts, if_pos coasts]
      · rw [if_neg coasts, if_neg coasts]
        cases s.planner.grant with
        | some g => exact testFollower_judged ring tracked l (follows g)
        | none => exact testLead_extend ring tracked l e w
    · rw [Bool.not_eq_true] at current
      simp only [current, Bool.false_eq_true, if_false, true_and]
      by_cases next : (s.ahead a p).find? (fun v => v.phase == e.phase && !v.current) = some w ∧ e.est.winStart < w.start
      · rw [if_pos next, if_neg (by rw [not_or, not_not]; exact ⟨next.1, Nat.not_le.2 next.2⟩)]
        by_cases coasts : e.est.coasting = true
        · simp only [if_pos coasts]
        · simp only [if_neg coasts]
          cases s.planner.grant with
          | some g => exact testFollower_judged ring tracked l (follows g)
          | none =>
            have advances := testLead_advance ring tracked l e w named
            rw [availableSlack_eq next.1] at advances
            exact advances
      · rw [if_neg next, if_pos (by rw [← not_lt, ← not_and_or]; exact next)]

end

end Sys2Proof.Machine
end


section
/-! SUPPORT. The two stages of a pass (R69, R70, R76): what the coverage stage and the test stage leave of the table, the
counters and the latches. -/

namespace Sys2Proof.Machine

/-! ### Stages that rewrite an entry and count (log entry 34) -/

/-- What an event counts: its kind, sub-event and source. -/
abbrev Counted := EventKind × Nat × Option Source

/-- An entry after a rewrite for every entry of a list that has its bus, one after another. -/
def rewritten (upd : Entry → Entry → Entry) (l : List Entry) (q : Entry) : Entry :=
  l.foldl (fun q e => if q.bus = e.bus then upd e q else q) q

theorem rewritten_absent {upd : Entry → Entry → Entry} {q : Entry} : ∀ {l : List Entry}, (∀ e ∈ l, e.bus ≠ q.bus) →
    rewritten upd l q = q
  | [], _ => rfl
  | e :: l, absent => by
    rw [rewritten, List.foldl_cons, if_neg fun same => absent e List.mem_cons_self same.symm]
    exact rewritten_absent fun f mem => absent f (List.mem_cons_of_mem _ mem)

/-- Where no bus stands twice, an entry is rewritten once. -/
theorem rewritten_mem {upd : Entry → Entry → Entry} (bus : ∀ e q, (upd e q).bus = q.bus) {e q : Entry}
    (same : q.bus = e.bus) : ∀ {l : List Entry}, (l.map Entry.bus).Nodup → e ∈ l → rewritten upd l q = upd e q
  | [], _, mem => absurd mem List.not_mem_nil
  | f :: l, nodup, mem => by
    rw [List.map_cons, List.nodup_cons] at nodup
    obtain ⟨fresh, nodup⟩ := nodup
    have apart : ∀ d ∈ l, d.bus ≠ f.bus := fun d inside equal => fresh (equal ▸ List.mem_map_of_mem inside)
    rw [rewritten, List.foldl_cons]
    rcases List.mem_cons.1 mem with rfl | inside
    · rw [if_pos same]
      exact rewritten_absent fun d inside => by rw [bus, same]; exact apart d inside
    · rw [if_neg fun equal => apart e inside (same.symm.trans equal)]
      exact rewritten_mem bus same nodup inside

/-- What every rewrite keeps of an entry, the rewrites of a list keep. -/
theorem rewritten_keeps {upd : Entry → Entry → Entry} {R : Entry → Entry → Prop} (refl : ∀ q, R q q)
    (trans : ∀ {q r t}, R q r → R r t → R q t) (kept : ∀ e q, R q (upd e q)) : ∀ (l : List Entry) (q : Entry),
    R q (rewritten upd l q)
  | [], q => refl q
  | e :: l, q => by
    rw [rewritten, List.foldl_cons]
    refine trans ?_ (rewritten_keeps refl trans kept l _)
    split
    · exact kept e q
    · exact refl q

/-- A stage over the entries of a list: table, counters and latches behind it. -/
theorem stage_leaves {base : State} {step : State → Entry → State} {upd : Entry → Entry → Entry}
    {events : Entry → List Counted}
    (steps : ∀ (u : State) (table : List Entry) (stats : Statistics) (e : Entry),
      u.sameButNotices { base with table := table, stats := stats } →
        step u e = countEvents (events e) (updateEntry e.bus (upd e) u)) :
    ∀ (l : List Entry) {u : State} {table : List Entry} {stats : Statistics},
      u.sameButNotices { base with table := table, stats := stats } →
        (l.foldl step u).sameButNotices { base with
          table := table.map (rewritten upd l),
          stats := State.countedAll { base with stats := stats } (l.flatMap events) } ∧
        (l.foldl step u).latchesStay u []
  | [], u, table, stats, h => by
    have same : table.map (rewritten upd []) = table := List.map_id _
    rw [same]
    exact ⟨h, State.latchesStay_of_eq rfl _⟩
  | e :: l, u, table, stats, h => by
    have written : (updateEntry e.bus (upd e) u).sameButNotices { base with
        table := table.map fun q => if q.bus = e.bus then upd e q else q, stats := stats } :=
      (Blind.updateEntry e.bus (upd e)).sameBut h
    have counted := countEvents_sameBut (events e) (base := { base with
      table := table.map fun q => if q.bus = e.bus then upd e q else q, stats := stats }) written
    obtain ⟨rest, latches⟩ := stage_leaves steps l counted
    rw [List.foldl_cons, steps u table stats e h]
    refine ⟨?_, State.latchesStay_trans latches (State.latchesStay_trans (countEvents_latchesStay [] (events e) _)
      (State.latchesStay_of_eq rfl _))⟩
    rw [List.map_map] at rest
    rw [List.flatMap_cons, State.countedAll_append]
    exact rest

theorem flatMap_if {α β : Type} (c : α → Bool) (f : α → β) : ∀ l : List α,
    (l.flatMap fun x => if c x then [f x] else []) = (l.filter c).map f
  | [] => rfl
  | x :: l => by
    rw [List.flatMap_cons, flatMap_if c f l, List.filter_cons]
    split <;> simp

/-! ### The coverage stage (R70) -/

/-- What the coverage stage does to the entries of a bus. -/
def coverEntry (ws : List Window) (clearance : Nat) (e q : Entry) : Entry :=
  if e.state.classifiable then
    if coveredBy ws clearance e then { q.place .covered none with classified := true } else { q with classified := true }
  else q

/-- What the coverage stage counts for an entry. -/
def coverEvents (ws : List Window) (clearance : Nat) (e : Entry) : List Counted :=
  if e.state.classifiable && coveredBy ws clearance e && !e.classified then
    [(.coveredBypass, 0, some (.port e.approach))] else []

theorem updateEntry_id (b : Nat) (s : State) : updateEntry b (fun q => q) s = s := by
  simp [updateEntry]

theorem coverOne_eq (ws : List Window) (s : State) (e : Entry) :
    coverOne ws s e = countEvents (coverEvents ws s.config.general.clearance e)
      (updateEntry e.bus (coverEntry ws s.config.general.clearance e) s) := by
  unfold coverOne coverEvents
  by_cases asks : e.state.classifiable = true
  · have upd : coverEntry ws s.config.general.clearance e = fun q => if coveredBy ws s.config.general.clearance e then
        { q.place .covered none with classified := true } else { q with classified := true } :=
      funext fun q => if_pos asks
    rw [if_pos asks, upd, asks, Bool.true_and]
    by_cases first : (coveredBy ws s.config.general.clearance e && !e.classified) = true
    · rw [if_pos first, if_pos first]
      rfl
    · rw [if_neg first, if_neg first]
      rfl
  · have upd : coverEntry ws s.config.general.clearance e = fun q => q := funext fun q => if_neg asks
    rw [if_neg asks, upd, updateEntry_id, if_neg (by simp [asks])]
    rfl

/-! ### The test stage (R76, R77) -/

/-- What the test stage does to the entries of a bus. -/
def testEntry (s : State) (v : PassView) (e q : Entry) : Entry :=
  if e.state.classifiable && !coveredBy v.windows s.config.general.clearance e then
    q.place .waiting (some (s.finding v e).reason) else q

/-- What the test stage counts for an entry. -/
def testEvents (s : State) (v : PassView) (e : Entry) : List Counted :=
  if e.state.classifiable && !coveredBy v.windows s.config.general.clearance e && s.finding v e == .waits .noToken &&
      !(e.state == .waiting && e.reason == some .noToken) then
    [(.tokenEmpty, 0, some (.port e.approach))] else []

theorem testOne_eq (v : PassView) (s : State) (e : Entry) :
    testOne v s e = countEvents (testEvents s v e) (updateEntry e.bus (testEntry s v e) s) := by
  have empty_iff : (s.finding v e == .waits .noToken && !(e.state == .waiting && e.reason == some .noToken)) = true ↔
      s.finding v e = .waits .noToken ∧ ¬(e.state = .waiting ∧ e.reason = some .noToken) := by
    simp only [Bool.and_eq_true, beq_iff_eq, Bool.not_eq_true', ← Bool.not_eq_true]
  unfold testOne testEvents
  rw [Bool.and_assoc]
  by_cases tested : (e.state.classifiable && !coveredBy v.windows s.config.general.clearance e) = true
  · have upd : testEntry s v e = fun q => q.place .waiting (some (s.finding v e).reason) := funext fun q => if_pos tested
    rw [if_pos tested, upd]
    rw [tested, Bool.true_and]
    by_cases empty : s.finding v e = .waits .noToken ∧ ¬(e.state = .waiting ∧ e.reason = some .noToken)
    · rw [if_pos (empty_iff.2 empty)]
      exact if_pos empty
    · rw [if_neg (mt empty_iff.1 empty)]
      exact if_neg empty
  · have upd : testEntry s v e = fun q => q := funext fun q => if_neg tested
    rw [if_neg tested, upd, updateEntry_id, if_neg (by rw [Bool.not_eq_true] at tested; rw [tested]; simp)]
    rfl

/-! ### Both stages -/

/-- The events of a pass's classification, in the order of log entry 34. -/
def State.stageEvents (s : State) (v : PassView) (l : List Entry) : List Counted :=
  l.flatMap (coverEvents v.windows s.config.general.clearance) ++ l.flatMap (testEvents s v)

/-- An entry behind both stages over a list. -/
def State.staged (s : State) (v : PassView) (l : List Entry) (q : Entry) : Entry :=
  rewritten (testEntry s v) l (rewritten (coverEntry v.windows s.config.general.clearance) l q)

/-- The stages of a pass over the entries of a list: table, counters and latches behind them (R69). -/
theorem stages_leave (s : State) (v : PassView) (l : List Entry) :
    let u := l.foldl (testOne v) (l.foldl (coverOne v.windows) s)
    u.sameButNotices { s with table := s.table.map (s.staged v l), stats := s.countedAll (s.stageEvents v l) } ∧
      u.latchesStay s [] := by
  obtain ⟨covered, kept⟩ := stage_leaves (base := s) (step := coverOne v.windows)
    (upd := coverEntry v.windows s.config.general.clearance) (events := coverEvents v.windows s.config.general.clearance)
    (fun u table stats e h => by
      rw [coverOne_eq]
      obtain ⟨_, _, _, rfl, -, -⟩ := h
      rfl) l (State.sameButNotices_refl s)
  obtain ⟨tested, kept'⟩ := stage_leaves (base := s) (step := testOne v) (upd := testEntry s v) (events := testEvents s v)
    (fun u table stats e h => by
      rw [testOne_eq]
      obtain ⟨_, _, _, rfl, -, -⟩ := h
      rfl) l covered
  refine ⟨?_, State.latchesStay_trans kept' kept⟩
  rw [List.map_map] at tested
  rw [State.stageEvents, State.countedAll_append]
  exact tested

/-! ### The classification of a sound state (R70 to R79) -/

section
variable {s : State} {a : Anchor} {p : Plan}

/-- Where no bus stands twice the stages settle each entry by what it must be found (R70, R76 to R79). -/
theorem staged_settles (ring : s.RingSound) (tracked : s.trackedPlan = some (a, p)) {l : List Entry}
    (nodup : (l.map Entry.bus).Nodup) {e : Entry} (mem : e ∈ l) :
    s.staged (s.view a p l) l e = s.settles a p l e := by
  have coverBus : ∀ e q, (coverEntry (s.view a p l).windows s.config.general.clearance e q).bus = q.bus := fun e q => by
    unfold coverEntry
    split
    · split <;> rfl
    · rfl
  have testBus : ∀ e q, (testEntry s (s.view a p l) e q).bus = q.bus := fun e q => by
    unfold testEntry
    split <;> rfl
  rw [State.staged, rewritten_mem coverBus rfl nodup mem, rewritten_mem testBus (coverBus e e) nodup mem]
  unfold State.settles coverEntry testEntry
  rw [finding_eq ring tracked, servedIn_eq, classifiable_asks]
  have windows : (s.view a p l).windows = s.ahead a p := rfl
  rw [windows]
  cases asks : e.asks with
  | false => rfl
  | true =>
    cases served : e.servedIn (s.ahead a p) s.config.general.clearance with
    | true => rfl
    | false =>
      cases found : s.judges a p l e with
      | waits why => rfl
      | candidate act n => rfl

theorem stageEvents_eq (ring : s.RingSound) (tracked : s.trackedPlan = some (a, p)) (l : List Entry) :
    s.stageEvents (s.view a p l) l = s.passEvents a p l := by
  unfold State.stageEvents State.passEvents State.covered coverEvents testEvents
  rw [flatMap_if, flatMap_if, List.filter_filter]
  simp only [classifiable_asks, servedIn_eq, finding_eq ring tracked]
  congr 2
  refine congrArg₂ List.filter (funext fun e => ?_) rfl
  rw [Bool.and_comm]
  rfl

end

end Sys2Proof.Machine
end


section
/-! SUPPORT. The pass in TRACKING as one equation (R66, R69), and the command that it sends (R81, R89). -/

namespace Sys2Proof.Machine

/-! ### The evaluated entries (R26, R27) -/

/-- An entry after the evaluation and the placement of a pass. -/
def State.passed (s : State) (e : Entry) : Entry := if e.state = .new then e else (s.keepEvaluation e).placeAfterPass

theorem passed_evaluates (s : State) (e : Entry) : s.evaluates e (s.passed e) := by
  refine ⟨fun new => if_pos new, fun old => ⟨_, estimates_estimate s e.est.eligibility e, ?_⟩⟩
  rw [State.passed, if_neg old, placeAfterPass_eq (e := s.keepEvaluation e) old]
  exact placeAfterUpdate_placed _

theorem passed_bus (s : State) (e : Entry) : (s.passed e).bus = e.bus := by
  unfold State.passed
  split
  · rfl
  · exact Entry.placeAfterPass_bus _

/-- The state in which a pass classifies: its entries evaluated, the pass running. -/
def State.evaluated (s : State) : State :=
  { s with table := s.table.map s.passed, planner := { s.planner with passDue := false, passRunning := true } }

/-- What the model's pass works with over the evaluated entries. -/
def State.passView (s : State) (a : Anchor) (p : Plan) (l : List Entry) : PassView :=
  { anchor := a, plan := p, windows := s.config.project p a s.now (adjustmentOf s.planner.grant),
    coveredSet := l.filter fun e => e.state.classifiable &&
      coveredBy (s.config.project p a s.now (adjustmentOf s.planner.grant)) s.config.general.clearance e }

theorem passView_eq {s : State} (ring : s.RingSound) {a : Anchor} {p : Plan} (tracked : s.trackedPlan = some (a, p))
    (l : List Entry) : s.passView a p l = s.view a p l := by
  simp only [State.passView, State.view, State.covered, ring.project_ahead tracked, servedIn_eq, classifiable_asks]

/-- The state behind the stages of a pass. -/
def State.classified (s : State) (a : Anchor) (p : Plan) : State :=
  let v := s.evaluated.passView a p s.evaluated.table
  s.evaluated.table.foldl (testOne v) (s.evaluated.table.foldl (coverOne v.windows) s.evaluated)

/-- The row of a pass in TRACKING (R66, R69). -/
theorem exec_trackedPass {s : State} {a : Anchor} {p : Plan} (running : s.held = false) (due : s.planner.passDue = true)
    (awake : s.mode ≠ .standby) (tracked : s.trackedPlan = some (a, p)) :
    exec .planningPass s = .next (endPass (chooseAndSend (s.evaluated.passView a p s.evaluated.table) s.evaluated.table
      s.evaluated (s.classified a p))) := by
  rw [exec_planningPass running due awake, passBody_tracked (s := beginPass s) tracked]
  rfl

/-- What the stages leave but for latches and NOTICEs: the entries settled and their events counted (R69). -/
def State.staging (s : State) (a : Anchor) (p : Plan) : State :=
  let v := s.evaluated.passView a p s.evaluated.table
  { s.evaluated with
    table := s.evaluated.table.map (s.evaluated.staged v s.evaluated.table)
    stats := s.countedAll (s.evaluated.stageEvents v s.evaluated.table) }

theorem classified_leaves (s : State) (a : Anchor) (p : Plan) :
    (s.classified a p).sameButNotices (s.staging a p) ∧ (s.classified a p).latchesStay s [] :=
  stages_leave s.evaluated _ _

/-- In a sound state the staged entries are settled, and the events those of the pass (R70 to R79, log entry 34). -/
theorem staging_sound {s : State} {a : Anchor} {p : Plan} (ring : s.RingSound) (nodup : (s.table.map Entry.bus).Nodup)
    (tracked : s.trackedPlan = some (a, p)) :
    (s.staging a p).table = (s.table.map s.passed).map (s.settles a p (s.table.map s.passed)) ∧
      (s.staging a p).stats = s.countedAll (s.passEvents a p (s.table.map s.passed)) := by
  have ring' : s.evaluated.RingSound := ring
  have tracked' : s.evaluated.trackedPlan = some (a, p) := tracked
  have buses : s.evaluated.table.map Entry.bus = s.table.map Entry.bus :=
    List.map_map.trans (List.map_congr_left fun e _ => passed_bus s e)
  unfold State.staging
  dsimp only
  rw [passView_eq ring' tracked', stageEvents_eq ring' tracked']
  refine ⟨List.map_congr_left fun e mem => ?_, rfl⟩
  exact staged_settles ring' tracked' (buses ▸ nodup) mem

theorem countedAll_totals : ∀ (events : List Counted) (s : State), (s.countedAll events).totals = s.stats.totals
  | [], _ => rfl
  | (ev, sub, src) :: events, s => by
    rw [State.countedAll_cons, countedAll_totals events]
    rfl

/-! ### What a sent command leaves (R89) -/

/-- The totals behind the sending of a command (R165). -/
def Slot.sentTotals (c : Slot) (t : Totals) : Totals :=
  match c.action, c.role with
  | .adjust _, .lead => { t with sent := tally32 t.sent }
  | _, _ => t

theorem sendCommand_eq (c : Slot) (s : State) :
    sendCommand c s = (countEvent .commandSent (sentIndex c) (some (.port c.approach)) (queueMessage (commandMessage c)
      (s.onPlanner fun p => { p with slot := some c, tagCounter := c.tag }))).onTotals c.sentTotals := by
  obtain ⟨tag, action, phase, amount, grantId, role, bus, approach, commandTime, etaAtCommand, due⟩ := c
  cases action <;> cases role <;> rfl

/-- The state that a command's sending leaves but for latches and NOTICEs: slot, tag counter and statistics. -/
def State.sending (s : State) (c : Slot) : State :=
  { s with
    planner := { s.planner with slot := some c, tagCounter := c.tag },
    stats := { s.counted .commandSent (sentIndex c) (some (.port c.approach)) with
      totals := c.sentTotals s.stats.totals } }

/-- What a state holds that has sent a command: `base` with a queue that the command has joined (R89, R138). -/
def State.sentFrom (t base : State) (c : Slot) : Prop :=
  ∃ latches outbound dropped,
    t = { base.sending c with
      notices := { base.notices with latches := latches },
      link := { base.link with outbound := outbound, noticesDropped := dropped } } ∧
    joinedBy outbound base.link.outbound (commandMessage c)

theorem sendCommand_leaves {u base : State} (c : Slot) (h : u.sameButNotices base) :
    (sendCommand c u).sentFrom base c ∧ (sendCommand c u).latchesStay u [] := by
  rw [sendCommand_eq]
  refine ⟨?_, State.latchesStay_trans (State.latchesStay_of_eq rfl _)
    (State.latchesStay_trans (countEvent_latchesStay _ _ _ _ _) (State.latchesStay_of_eq rfl _))⟩
  obtain ⟨latches, before, dropped, rfl, notices, -⟩ := h
  have counted := countEvent_sameBut .commandSent (sentIndex c) (some (.port c.approach))
    (queueMessage (commandMessage c) ((base.noticing latches before dropped).onPlanner fun p =>
      { p with slot := some c, tagCounter := c.tag }))
  obtain ⟨latches', behind, dropped', written, notices', -⟩ := counted
  refine ⟨latches', base.link.outbound ++ before ++ commandMessage c :: behind, dropped', ?_, before, behind, rfl, ?_⟩
  · refine (congrArg (fun v : State => v.onTotals c.sentTotals) written).trans ?_
    simp only [State.onTotals, queueMessage, State.onLink, State.onPlanner, State.noticing, State.sending,
      List.append_assoc, List.singleton_append]
    rfl
  · intro m mem
    rcases List.mem_append.1 mem with first | later
    · exact notices m first
    · exact notices' m later

/-! ### What the stages keep of an entry -/

/-- An entry that a pass has rewritten: the vehicle and its estimate are the same, and it is not newly COMMANDED. -/
structure Entry.kin (e q : Entry) : Prop where
  bus : q.bus = e.bus
  approach : q.approach = e.approach
  phase : q.phase = e.phase
  est : q.est = e.est
  commanded : q.state = .commanded → e.state = .commanded

theorem Entry.kin_refl (e : Entry) : e.kin e := ⟨rfl, rfl, rfl, rfl, id⟩

theorem Entry.kin_trans {e q r : Entry} (h : e.kin q) (h' : q.kin r) : e.kin r :=
  ⟨h'.bus.trans h.bus, h'.approach.trans h.approach, h'.phase.trans h.phase, h'.est.trans h.est, h.commanded ∘ h'.commanded⟩

theorem coverEntry_kin (ws : List Window) (clearance : Nat) (e q : Entry) : q.kin (coverEntry ws clearance e q) := by
  unfold coverEntry
  split
  · split
    · exact ⟨rfl, rfl, rfl, rfl, nofun⟩
    · exact ⟨rfl, rfl, rfl, rfl, id⟩
  · exact Entry.kin_refl q

theorem testEntry_kin (s : State) (v : PassView) (e q : Entry) : q.kin (testEntry s v e q) := by
  unfold testEntry
  split
  · exact ⟨rfl, rfl, rfl, rfl, nofun⟩
  · exact Entry.kin_refl q

theorem staged_kin (s : State) (v : PassView) (l : List Entry) (e : Entry) : e.kin (s.staged v l e) :=
  Entry.kin_trans (rewritten_keeps Entry.kin_refl Entry.kin_trans (coverEntry_kin _ _) l e)
    (rewritten_keeps Entry.kin_refl Entry.kin_trans (testEntry_kin s v) l _)

theorem passed_commanded {s : State} {e : Entry} (commanded : (s.passed e).state = .commanded) : e.state = .commanded := by
  unfold State.passed at commanded
  split at commanded
  · exact commanded
  · exact (Entry.placeAfterPass_alike (s.keepEvaluation e)).commanded.1 commanded

/-! ### The choice of what is sent (R80, R81) -/

theorem chooseAndSend_held {v : PassView} {l : List Entry} {before u : State} {c : Slot} (held : u.planner.slot = some c) :
    chooseAndSend v l before u = u := by
  rw [chooseAndSend, held]

theorem chooseAndSend_revise {v : PassView} {l : List Entry} {before u : State} {r : Revise}
    (free : u.planner.slot = none) (pending : u.planner.revise = some r) :
    chooseAndSend v l before u = sendRevise r u := by
  rw [chooseAndSend, free, pending]

/-- The slot record of a REVISE (R81, R89, R104). -/
def Planner.reviseSlot (p : Planner) (r : Revise) : Slot :=
  { tag := nextTag p.tagCounter p.lost, action := .revise, phase := r.phase, amount := r.total, grantId := r.grantId,
    role := .lead, bus := none, approach := r.approach, commandTime := none, etaAtCommand := none, due := none }

theorem sendRevise_eq (r : Revise) (s : State) :
    sendRevise r s = sendCommand (s.planner.reviseSlot r) (s.onPlanner fun p => { p with revise := none }) := rfl

/-- The end of a pass whose mark is clear. -/
theorem endPass_eq {s : State} (mark : s.planner.passMark = false) (due : s.planner.passDue = false) :
    endPass s = s.onPlanner fun p => { p with passDue := false, passMark := false, passRunning := false } := by
  simp only [endPass, State.onPlanner, mark, due, Bool.or_self]

/-- The state behind a pass that sends `c`, `base` being what the pass leaves besides. -/
theorem endPass_sentFrom {v base : State} {c : Slot} (sent : v.sentFrom base c) (mark : base.planner.passMark = false)
    (due : base.planner.passDue = false) :
    (endPass v).sentFrom (base.onPlanner fun p => { p with passDue := false, passMark := false, passRunning := false }) c := by
  obtain ⟨latches, outbound, dropped, rfl, joined⟩ := sent
  exact ⟨latches, outbound, dropped, endPass_eq mark due, joined⟩

theorem statistics_eq {st base : Statistics} (totals : st.totals = base.totals) :
    st = { base with counters := st.counters } := by
  obtain ⟨counters, _⟩ := st
  cases totals
  rfl

theorem staging_totals (s : State) (a : Anchor) (p : Plan) : (s.staging a p).stats.totals = s.stats.totals :=
  countedAll_totals _ s

/-- A pass that hands nothing over does no more than settle its entries and count (R69). -/
theorem endPass_settled {u s : State} {a : Anchor} {p : Plan} (mark : s.planner.passMark = false)
    (leaves : u.sameButNotices (s.staging a p)) :
    (endPass u).planner = { s.planner with passDue := false, passMark := false, passRunning := false } ∧
      (endPass u).table = (s.staging a p).table ∧ (endPass u).stats = (s.staging a p).stats ∧
      (endPass u).sameButReports { s with planner := (endPass u).planner, table := (endPass u).table } := by
  have planner : u.planner = s.evaluated.planner := (sameButNotices_planner leaves).trans rfl
  have ended := (Blind.onPlanner fun q => { q with passDue := false, passMark := false, passRunning := false }).sameBut leaves
  rw [endPass_eq (by rw [planner]; exact mark) (by rw [planner]; rfl)]
  generalize u.onPlanner _ = t at ended
  have stats := statistics_eq (staging_totals s a p)
  obtain ⟨latches, out, dropped, rfl, notices, stays⟩ := ended
  refine ⟨rfl, rfl, rfl, latches, out, dropped, ?_, notices, stays⟩
  exact congrArg (fun st => ({ s with
    planner := { s.planner with passDue := false, passMark := false, passRunning := false },
    table := (s.staging a p).table, stats := st,
    notices := { s.notices with latches := latches },
    link := { s.link with outbound := s.link.outbound ++ out, noticesDropped := dropped } } : State)) stats

/-- The frame of a pass that sends a command. -/
theorem sentFrom_frame {t s base : State} {c : Slot} (sent : t.sentFrom base c)
    (frame : base = { s with planner := base.planner, table := base.table, stats := base.stats }) :
    t = { s with
      planner := t.planner, table := t.table, stats := t.stats, notices := { s.notices with latches := t.notices.latches },
      link := { s.link with outbound := t.link.outbound, noticesDropped := t.link.noticesDropped } } := by
  obtain ⟨latches, outbound, dropped, rfl, joined⟩ := sent
  rw [frame]
  rfl

theorem sentFrom_stats {t base : State} {c : Slot} (sent : t.sentFrom base c) : t.stats =
    { base.counted .commandSent (sentIndex c) (some (.port c.approach)) with totals := c.sentTotals base.stats.totals } := by
  obtain ⟨latches, outbound, dropped, rfl, joined⟩ := sent
  rfl

/-- Settles O21: the classification, then what the slot and the pending revise decide. -/
theorem reviseOutranksCandidates : Obligations.ReviseOutranksCandidates := by
  unfold Obligations.ReviseOutranksCandidates
  intro a p s running due mark awake tracked
  have row := exec_trackedPass running due awake tracked
  obtain ⟨leaves, latches⟩ := classified_leaves s a p
  have planner : (s.classified a p).planner = s.evaluated.planner :=
    (sameButNotices_planner leaves).trans rfl
  have revised : ∀ r, s.planner.slot = none → s.planner.revise = some r →
      exec .planningPass s = .next (endPass (sendRevise r (s.classified a p))) := fun r free pending => by
    rw [row, chooseAndSend_revise (by rw [planner]; exact free) (by rw [planner]; exact pending)]
  have kept : ∀ c, s.planner.slot = some c → exec .planningPass s = .next (endPass (s.classified a p)) := fun c held => by
    rw [row, chooseAndSend_held (by rw [planner]; exact held)]
  have sends : ∀ r, (endPass (sendRevise r (s.classified a p))).sentFrom ((s.staging a p).onPlanner fun q =>
        { q with revise := none, passDue := false, passMark := false, passRunning := false }) (s.planner.reviseSlot r) ∧
      (endPass (sendRevise r (s.classified a p))).latchesStay s [] := fun r => by
    rw [sendRevise_eq, planner]
    obtain ⟨sent, stays⟩ := sendCommand_leaves (s.planner.reviseSlot r)
      ((Blind.onPlanner fun q => { q with revise := none }).sameBut leaves)
    exact ⟨endPass_sentFrom sent mark rfl, State.latchesStay_trans (State.latchesStay_of_eq rfl _)
      (State.latchesStay_trans stays latches)⟩
  refine ⟨fun r free pending => ?_, fun c held => ?_, fun ring nodup busy => ?_⟩
  · obtain ⟨sent, stays⟩ := sends r
    refine ⟨_, revised r free pending, ?_⟩
    generalize endPass (sendRevise r (s.classified a p)) = t at sent stays
    have frame := sentFrom_frame (s := s) sent rfl
    have totals : t.stats.totals = s.stats.totals := by
      rw [sentFrom_stats sent]
      exact staging_totals s a p
    obtain ⟨latches', outbound, dropped, eq, joined⟩ := sent
    refine ⟨by rw [eq]; rfl, ?_, ?_, by rw [eq]; exact joined, stays⟩
    · refine frame.trans (congrArg (fun st => ({ s with
        planner := t.planner, table := t.table, stats := st, notices := { s.notices with latches := t.notices.latches },
        link := { s.link with outbound := t.link.outbound, noticesDropped := t.link.noticesDropped } } : State))
        (statistics_eq totals))
    · intro e mem commanded
      rw [eq] at mem
      obtain ⟨q, inside, rfl⟩ := List.mem_map.1 (show e ∈ (s.staging a p).table from mem)
      obtain ⟨d, held, rfl⟩ := List.mem_map.1 inside
      have kin := staged_kin s.evaluated (s.evaluated.passView a p s.evaluated.table) s.evaluated.table (s.passed d)
      exact ⟨d, held, (kin.bus.trans (passed_bus s d)).symm, passed_commanded (kin.commanded commanded)⟩
  · obtain ⟨ended, -, -, same⟩ := endPass_settled mark leaves
    exact ⟨_, kept c held, ended, same⟩
  · obtain ⟨table, stats⟩ := staging_sound ring nodup tracked
    rcases Option.eq_none_or_eq_some s.planner.slot with free | ⟨c, held⟩
    · rcases Option.eq_none_or_eq_some s.planner.revise with none_ | ⟨r, pending⟩
      · simp [free, none_] at busy
      · refine ⟨_, s.passed, revised r free pending, fun e _ => passed_evaluates s e, ?_⟩
        obtain ⟨sent, -⟩ := sends r
        generalize endPass (sendRevise r (s.classified a p)) = t at sent
        obtain ⟨latches', outbound, dropped, rfl, joined⟩ := sent
        refine ⟨table, ?_⟩
        rw [free, pending]
        dsimp only
        rw [State.countedAll_append, ← stats]
        rfl
    · refine ⟨_, s.passed, kept c held, fun e _ => passed_evaluates s e, ?_⟩
      obtain ⟨-, table', stats', -⟩ := endPass_settled mark leaves
      rw [table', stats', table, stats, held]
      exact ⟨rfl, congrArg (fun events => (s.countedAll events).counters) (List.append_nil _).symm⟩

end Sys2Proof.Machine
end


section
/-! SUPPORT. The candidate a pass chooses and what its handing over leaves (R72, R73, R77, R80, R85, R89, R106). -/

namespace Sys2Proof.Machine

/-! ### What a candidate has been tested for (R71 to R77) -/

/-- A candidate for a lead: the ledger, the token and the limits of its phase and of its action; an extension of the
current green (R71 to R73, R76). -/
theorem finding_lead {s : State} {v : PassView} {e : Entry} {act : Action} {n : Nat} (free : s.planner.grant = none)
    (h : s.finding v e = .candidate act n) :
    s.planner.tokens.get e.approach ≠ 0 ∧ s.planner.ledger.leads < s.planner.ledger.grantLimit ∧
      n ≤ s.planner.ledger.remaining ∧
      (act = .extend → n ≤ (s.config.phase e.phase).maxExtend ∧ ∃ w ∈ v.windows, w.phase = e.phase ∧ w.current = true) ∧
      (act = .advance → n ≤ (s.config.phase e.phase).maxAdvance ∧ s.config.general.aMin ≤ n) := by
  unfold State.finding at h
  rw [free] at h
  split at h
  · cases h
  · next act' w needed =>
    split at h
    · cases h
    · unfold State.testLead at h
      dsimp only at h
      split at h
      · split at h
        · cases h
        · next feasible =>
          obtain ⟨rfl, rfl, leads, token, -⟩ := leadFinding_candidate h
          obtain ⟨most, rest⟩ := extendVerdict_none feasible
          refine ⟨token, leads, rest, fun _ => ⟨by omega, ?_⟩, nofun⟩
          unfold neededAction firstWindow at needed
          split at needed
          · cases needed
          · next w' first =>
            split at needed
            · next current =>
              have phase := List.find?_some first
              simp only [Bool.and_eq_true, beq_iff_eq] at phase
              exact ⟨w', List.mem_of_find?_eq_some first, phase.1, current⟩
            · split at needed <;> cases needed
      · split at h
        · cases h
        · next feasible =>
          obtain ⟨rfl, rfl, leads, token, -⟩ := leadFinding_candidate h
          obtain ⟨rfl, least⟩ := advanceVerdict_ok feasible
          exact ⟨token, leads, Nat.min_le_right _ _, nofun, fun _ => ⟨by omega, least⟩⟩

/-- A candidate for a follower (R77). -/
theorem finding_follower {s : State} {v : PassView} {e : Entry} {act : Action} {n : Nat} {g : Grant}
    (active : s.planner.grant = some g) (h : s.finding v e = .candidate act n) :
    act = .extend ∧ s.followerPath g e = true ∧ g.members.length < 5 ∧
      g.total + n ≤ (s.config.phase e.phase).maxExtend ∧ n ≤ s.planner.ledger.remaining ∧
      extendedEnd v.windows g + n = e.est.winEnd + s.config.general.clearance := by
  unfold State.finding at h
  rw [active] at h
  split at h
  · cases h
  · split at h
    · cases h
    · unfold State.testFollower at h
      dsimp only at h
      split at h
      · cases h
      · next path =>
        split at h
        · cases h
        · split at h
          · cases h
          · next ends =>
            split at h
            · cases h
            · next room =>
              split at h
              · cases h
              · next feasible =>
                split at h
                · cases h
                · cases h
                  obtain ⟨most, rest⟩ := extendVerdict_none feasible
                  exact ⟨rfl, by simpa using path, Nat.lt_of_not_le room, most, rest, by omega⟩

/-! ### The current green of a projection (R56) -/

/-- An advance moves windows and leaves what they are (R60). -/
theorem shiftWindows_mem {v : Window} : ∀ {shift : Nat} {ws : List Window} {ts : List Nat}, v ∈ shiftWindows shift ws ts →
    ∃ w ∈ ws, w.phase = v.phase ∧ w.current = v.current
  | shift, w :: ws, t :: ts, mem => by
    rw [shiftWindows, List.mem_cons] at mem
    rcases mem with rfl | later
    · exact ⟨w, List.mem_cons_self, rfl, rfl⟩
    · obtain ⟨w', inside, same⟩ := shiftWindows_mem later
      exact ⟨w', List.mem_cons_of_mem _ inside, same⟩
  | shift, [], [], mem => by simp [shiftWindows] at mem
  | shift, w :: ws, [], mem => by
    rw [shiftWindows, List.mem_map] at mem
    obtain ⟨w', inside, rfl⟩ := mem
    exact ⟨w', inside, rfl, rfl⟩
  | shift, [], t :: ts, mem => by simp [shiftWindows] at mem

theorem timeline_current {c : Configuration} {p : Plan} {a : Anchor} {now : PartTime} {adj : Adjustment} {w : Window}
    (mem : w ∈ c.timeline p a now adj) (current : w.current = true) : a.interval = .green ∧ w.phase = a.phase := by
  rw [timeline_eq] at mem
  obtain ⟨i, -, rfl⟩ := List.mem_map.1 mem
  cases i with
  | zero =>
    unfold Configuration.ringAhead at current ⊢
    cases interval : a.interval <;> rw [interval] at current
    · exact ⟨rfl, rfl⟩
    · cases current
    · cases current
  | succ i => cases current

theorem project_current {c : Configuration} {p : Plan} {a : Anchor} {now : PartTime} {adj : Adjustment} {w : Window}
    (mem : w ∈ c.project p a now adj) (current : w.current = true) : a.interval = .green ∧ w.phase = a.phase := by
  unfold Configuration.project at mem
  have within := (List.takeWhile_sublist _).subset mem
  cases adj with
  | none => exact timeline_current within current
  | extend q x => exact timeline_current within current
  | advance q x =>
    obtain ⟨w', inside, phase, same⟩ := shiftWindows_mem within
    rw [← phase]
    exact timeline_current inside (same.trans current)

/-- Where the anchor shows the phase of a shadow grant, its green ends at the planned end, and the total is added (R77). -/
theorem extendedEnd_shadow {c : Configuration} {p : Plan} {a : Anchor} {now : PartTime} {g : Grant}
    (shadow : g.shadow = true) (green : a.interval = .green) (phase : a.phase = g.phase) :
    extendedEnd (c.project p a now .none) g = plannedRest c p a now g.phase + g.total := by
  unfold extendedEnd Configuration.project Configuration.timeline
  rw [green]
  simp [shadow, phase, plannedRest, Adjustment.extension]

/-! ### The choice (R80) -/

/-- The candidate of highest score is chosen, of smallest window end among equals, and the first among those (R80). -/
theorem chooseCandidate_eq {k : Candidate} {back : List Candidate}
    (behind : ∀ d ∈ back, d.entry.est.score < k.entry.est.score ∨
      d.entry.est.score = k.entry.est.score ∧ k.entry.est.winEnd ≤ d.entry.est.winEnd) :
    ∀ {front : List Candidate}, (∀ d ∈ front, d.entry.est.score < k.entry.est.score ∨
      d.entry.est.score = k.entry.est.score ∧ k.entry.est.winEnd < d.entry.est.winEnd) →
      chooseCandidate (front ++ k :: back) = some k
  | [], _ => by
    rw [List.nil_append, chooseCandidate]
    cases later : chooseCandidate back with
    | none => rfl
    | some d =>
      have worse := behind d (chooseCandidate_mem later)
      refine congrArg some ?_
      rw [betterCandidate, if_neg (by omega), if_neg (by omega)]
  | c :: front, before => by
    rw [List.cons_append, chooseCandidate, chooseCandidate_eq behind fun d mem => before d (List.mem_cons_of_mem _ mem)]
    refine congrArg some ?_
    rw [betterCandidate]
    rcases before c List.mem_cons_self with less | ⟨same, later⟩
    · exact if_pos less
    · rw [if_neg (by omega), if_pos ⟨same, later⟩]

theorem chooseCandidate_none {l : List Candidate} (nobody : chooseCandidate l = none) : l = [] := by
  cases l with
  | nil => rfl
  | cons c l =>
    unfold chooseCandidate at nobody
    split at nobody <;> cases nobody

/-! ### The chosen entry (R80) -/

/-- The tag of the next command (R89). -/
def State.handTag (s : State) : Nat := nextTag s.planner.tagCounter s.planner.lost

/-- The role of a chosen candidate: a follower beside an active grant, a lead without one (R77, R80). -/
def State.handRole (s : State) : Role := if s.planner.grant.isSome then .follower else .lead

/-- The chosen entry COMMANDED and its amount reserved (R80, R85). -/
def State.handing (s : State) (k : Candidate) : State :=
  { s with
    table := s.table.map fun q => if q.bus = k.entry.bus then q.command k.action k.amount s.now else q
    planner := { s.planner with ledger := s.planner.ledger.reserve k.amount s.handRole } }

/-- The slot record of a chosen candidate (R80, R89). -/
def State.handSlot (s : State) (k : Candidate) : Slot :=
  { tag := s.handTag, action := .adjust k.action, phase := k.entry.phase, amount := k.amount,
    grantId := match s.planner.grant with
      | some g => g.id
      | none => s.handTag
    role := s.handRole, bus := some k.entry.bus, approach := k.entry.approach, commandTime := some s.now,
    etaAtCommand := some k.entry.est.eta, due := none }

theorem handOver_run {s : State} (mode : s.mode = .run) (k : Candidate) :
    handOver k s = sendCommand (s.handSlot k) (s.handing k) := by
  unfold handOver
  dsimp only
  exact if_pos mode

theorem handOver_lead {s : State} (mode : s.mode = .monitor) (free : s.planner.grant = none) (k : Candidate) :
    handOver k s = shadowLead s.handTag k ((s.handing k).onPlanner fun p => { p with tagCounter := s.handTag }) := by
  have role : s.handRole = .lead := by rw [State.handRole, free]; rfl
  have chosen : (if s.planner.grant.isSome then Role.follower else Role.lead) = .lead := role
  unfold handOver State.handing
  dsimp only
  rw [if_neg (by rw [mode]; decide), role, chosen]
  rfl

theorem handOver_follower {s : State} {g : Grant} (mode : s.mode = .monitor) (active : s.planner.grant = some g)
    (k : Candidate) :
    handOver k s = shadowFollower k ((s.handing k).onPlanner fun p => { p with tagCounter := s.handTag }) := by
  have role : s.handRole = .follower := by rw [State.handRole, active]; rfl
  have chosen : (if s.planner.grant.isSome then Role.follower else Role.lead) = .follower := role
  unfold handOver State.handing
  dsimp only
  rw [if_neg (by rw [mode]; decide), role, chosen]
  rfl

/-! ### A command in RUN (R89) -/

/-- The pass that hands a command over in RUN, `base` being what its stages leave (R80, R85, R89). -/
theorem endPass_run {u base : State} (mode : base.mode = .run) (leaves : u.sameButNotices base) (k : Candidate)
    (mark : base.planner.passMark = false) (due : base.planner.passDue = false) :
    (endPass (handOver k u)).sentFrom ((base.handing k).onPlanner fun p =>
        { p with passDue := false, passMark := false, passRunning := false }) (base.handSlot k) ∧
      (endPass (handOver k u)).latchesStay u [] := by
  have handed : (u.handing k).sameButNotices (base.handing k) :=
    Blind.sameBut (f := fun v => v.handing k) (fun _ _ _ _ _ => rfl) leaves
  have same : u.mode = base.mode ∧ u.handSlot k = base.handSlot k := by
    obtain ⟨_, _, _, rfl, -, -⟩ := leaves
    exact ⟨rfl, rfl⟩
  rw [handOver_run (same.1.trans mode), same.2]
  obtain ⟨sent, stays⟩ := sendCommand_leaves (base.handSlot k) handed
  exact ⟨endPass_sentFrom sent mark due, State.latchesStay_trans (State.latchesStay_of_eq rfl _) stays⟩

/-! ### A shadow lead in MONITOR (R106) -/

/-- What a shadow lead leaves but for latches and NOTICEs (R82, R86, R91, R106). -/
def State.ledBy (s : State) (k : Candidate) : State :=
  { s with
    table := s.table.map fun q =>
      if q.bus = k.entry.bus then (q.command k.action k.amount s.now).asGranted .lead k.amount true else q
    planner := { s.planner with
      tagCounter := s.handTag
      tokens := s.planner.tokens.set k.entry.approach (s.planner.tokens.get k.entry.approach - 1)
      ledger := { s.planner.ledger with
        committed := s.planner.ledger.committed + k.amount, leads := s.planner.ledger.leads + 1, reservation := none }
      grant := some (newGrant s s.handTag k.action k.entry.phase k.amount k.amount k.entry.approach true [k.entry.bus]) } }

/-- The grant of a shadow lead and its one member, in a state that has paid for it. -/
def joinLead (tag : Nat) (k : Candidate) (s : State) : State :=
  updateEntry k.entry.bus (Entry.join .lead k.amount true) (s.onPlanner fun p => { p with
    grant := some (newGrant s tag k.action k.entry.phase k.amount k.amount k.entry.approach true [k.entry.bus]) })

theorem shadowLead_eq (tag : Nat) (k : Candidate) (s : State) :
    shadowLead tag k s =
      closeIfVain (joinLead tag k (takeToken k.entry.approach (s.onLedger fun l => l.convert k.amount))) := rfl

/-- A lead of use is kept: an extension of a green that is shown, an advance under a plan (R91, R100). -/
theorem closeIfVain_joinLead {tag : Nat} {k : Candidate} {s : State}
    (green : k.action = .extend → s.anchorGreen k.entry.phase = true) (cycle : k.action = .advance → s.cycleLength ≠ none) :
    closeIfVain (joinLead tag k s) = joinLead tag k s := by
  have active : (joinLead tag k s).planner.grant =
      some (newGrant s tag k.action k.entry.phase k.amount k.amount k.entry.approach true [k.entry.bus]) := rfl
  unfold closeIfVain
  rw [active]
  dsimp only [newGrant]
  cases action : k.action with
  | extend => exact if_pos (green action)
  | advance =>
    obtain ⟨n, length⟩ := Option.ne_none_iff_exists'.1 (cycle action)
    simp [length]

theorem joinLead_ledBy (k : Candidate) (s : State) (lead : s.handRole = .lead) :
    joinLead s.handTag k { s with
      table := (s.handing k).table
      planner := { s.planner with
        tagCounter := s.handTag
        ledger := (s.planner.ledger.reserve k.amount s.handRole).convert k.amount
        tokens := s.planner.tokens.set k.entry.approach (s.planner.tokens.get k.entry.approach - 1) } } = s.ledBy k := by
  have table : (s.handing k).table.map (fun q => if q.bus = k.entry.bus then q.join .lead k.amount true else q) =
      (s.ledBy k).table := by
    simp only [State.handing, State.ledBy, List.map_map]
    refine List.map_congr_left fun q _ => ?_
    by_cases same : q.bus = k.entry.bus
    · simp only [Function.comp, if_pos same]
      rw [if_pos (show (q.command k.action k.amount s.now).bus = _ from same), Entry.join_eq]
    · simp only [Function.comp, if_neg same]
  have ledger : (s.planner.ledger.reserve k.amount s.handRole).convert k.amount = (s.ledBy k).planner.ledger := by
    simp [lead, Ledger.reserve, Ledger.convert, State.ledBy]
  rw [ledger]
  exact congrArg (fun l => ({ s with table := l, planner := (s.ledBy k).planner } : State)) table

theorem handOver_leads {u base s : State} (mode : base.mode = .monitor) (free : base.planner.grant = none)
    (leaves : u.sameButNotices base) (stays : u.latchesStay s []) (tokens : base.planner.tokens = s.planner.tokens)
    (now : base.now = s.now) (k : Candidate) (green : k.action = .extend → base.anchorGreen k.entry.phase = true)
    (cycle : k.action = .advance → base.cycleLength ≠ none) :
    (handOver k u).sameButNotices (base.ledBy k) ∧ (handOver k u).tookToken s k.entry.approach ∧
      (handOver k u).latchesStay s [.tokensExhausted k.entry.approach] := by
  have role : base.handRole = .lead := by rw [State.handRole, free]; rfl
  have alike : u.mode = base.mode ∧ u.planner = base.planner ∧ u.handTag = base.handTag ∧ u.now = base.now := by
    obtain ⟨_, _, _, rfl, -, -⟩ := leaves
    exact ⟨rfl, rfl, rfl, rfl⟩
  obtain ⟨mode', planner, tag, now'⟩ := alike
  have reserved : (((u.handing k).onPlanner fun p => { p with tagCounter := base.handTag }).onLedger
      fun l => l.convert k.amount).sameButNotices { base with
        table := (base.handing k).table
        planner := { base.planner with
          tagCounter := base.handTag
          ledger := (base.planner.ledger.reserve k.amount base.handRole).convert k.amount } } :=
    Blind.sameBut (f := fun v => (((v.handing k).onPlanner fun p => { p with tagCounter := base.handTag }).onLedger
      fun l => l.convert k.amount)) (fun _ _ _ _ _ => rfl) leaves
  have paid := takeToken_sameBut (x := k.entry.approach) reserved
  have latches := takeToken_tookToken (x := k.entry.approach) (s := s)
    (u := ((u.handing k).onPlanner fun p => { p with tagCounter := base.handTag }).onLedger fun l => l.convert k.amount)
    ((congrArg Planner.tokens planner).trans tokens) (now'.trans now) stays
  rw [handOver_lead (mode'.trans mode) (by rw [planner]; exact free), tag, shadowLead_eq]
  generalize takeToken k.entry.approach _ = w at paid latches
  have signal : w.anchorGreen = base.anchorGreen ∧ w.cycleLength = base.cycleLength := by
    obtain ⟨_, _, _, rfl, -, -⟩ := paid
    exact ⟨rfl, rfl⟩
  rw [closeIfVain_joinLead (by rw [signal.1]; exact green) (by rw [signal.2]; exact cycle)]
  have joined := Blind.sameBut (f := joinLead base.handTag k) (fun _ _ _ _ _ => rfl) paid
  have result := joinLead_ledBy k base role
  exact ⟨result ▸ joined, latches⟩

/-! ### A shadow follower in MONITOR (R106) -/

/-- What a shadow follower leaves but for latches and NOTICEs (R86, R92, R106). -/
def State.followedBy (s : State) (g : Grant) (k : Candidate) : State :=
  { s with
    table := s.table.map fun q =>
      if q.bus = k.entry.bus then (q.command k.action k.amount s.now).asGranted .follower k.amount true else q
    planner := { s.planner with
      tagCounter := s.handTag
      revise := dropNamed s.planner.revise g.id
      ledger := { s.planner.ledger with committed := s.planner.ledger.committed + k.amount, reservation := none }
      grant := some { g with total := g.total + k.amount, members := g.members ++ [k.entry.bus] } } }

/-- The follower joins its grant, the reservation converted, in a state whose tag counter is set (R106). -/
def joinFollower (tag : Nat) (k : Candidate) (s : State) : State :=
  (updateEntry k.entry.bus (Entry.join .follower k.amount true)
    (((s.handing k).onPlanner fun p => { p with tagCounter := tag }).onLedger fun l => l.convert k.amount)).onGrant
      fun g => { g with members := g.members ++ [k.entry.bus] }

theorem joinFollower_raised {g : Grant} {s : State} (active : s.planner.grant = some g) (k : Candidate) :
    (joinFollower s.handTag k s).raised { g with members := g.members ++ [k.entry.bus] } k.amount = s.followedBy g k := by
  have role : s.handRole = .follower := by rw [State.handRole, active]; rfl
  have table : (s.handing k).table.map (fun q => if q.bus = k.entry.bus then q.join .follower k.amount true else q) =
      (s.followedBy g k).table := by
    simp only [State.handing, State.followedBy, List.map_map]
    refine List.map_congr_left fun q _ => ?_
    by_cases same : q.bus = k.entry.bus
    · simp only [Function.comp, if_pos same]
      rw [if_pos (show (q.command k.action k.amount s.now).bus = _ from same), Entry.join_eq]
    · simp only [Function.comp, if_neg same]
  have ledger : (s.planner.ledger.reserve k.amount s.handRole).convert k.amount = (s.followedBy g k).planner.ledger := by
    simp [role, Ledger.reserve, Ledger.convert, State.followedBy]
  refine Eq.trans ?_ (congrArg₂ (fun l t => ({ s with
    table := t, planner := { (s.followedBy g k).planner with ledger := l } } : State)) ledger table)
  rfl

/-- A shadow follower is the state it leaves, put to the trim test (R92, R106). -/
theorem handOver_follows {u base : State} {g : Grant} (mode : base.mode = .monitor) (active : base.planner.grant = some g)
    (leaves : u.sameButNotices base) (k : Candidate) :
    (handOver k u).sameButNotices (trimTest (base.followedBy g k)) ∧ (handOver k u).latchesStay u [] := by
  have alike : u.mode = base.mode ∧ u.planner = base.planner ∧ u.handTag = base.handTag := by
    obtain ⟨_, _, _, rfl, -, -⟩ := leaves
    exact ⟨rfl, rfl, rfl⟩
  obtain ⟨mode', planner, tag⟩ := alike
  have joins : Blind (joinFollower base.handTag k) := fun _ _ _ _ _ => rfl
  have raises := (Blind.raiseTotal k.amount).comp joins
  have result : raiseTotal k.amount (joinFollower base.handTag k base) = trimTest (base.followedBy g k) := by
    rw [raiseTotal_eq (g := { g with members := g.members ++ [k.entry.bus] })
      (by simp [joinFollower, State.onGrant, State.handing,
      State.onPlanner, State.onLedger, updateEntry, active]), joinFollower_raised active]
  rw [handOver_follower (mode'.trans mode) (by rw [planner]; exact active), tag]
  change (raiseTotal k.amount (joinFollower base.handTag k u)).sameButNotices _ ∧ _
  exact ⟨result ▸ raises.sameBut leaves, raises.latchesStay u []⟩

end Sys2Proof.Machine
end


section
/-! SUPPORT. The pass with the slot empty and no revise pending (R72 to R85, R106): the candidate it chooses, and what the
statement about it says of the state behind it. -/

namespace Sys2Proof.Machine

/-! ### The entry a command is for -/

theorem placeAfterPass_est (e : Entry) : e.placeAfterPass.est = e.est := by
  by_cases new : e.state = .new
  · unfold Entry.placeAfterPass
    rw [new]
  · obtain ⟨st, why, shown, same⟩ := placeAfterUpdate_frame e
    rw [placeAfterPass_eq new, same]
    rfl

/-- An entry that a pass classifies has been evaluated at this instant (R26). -/
theorem passed_evalTime {s : State} {e : Entry} (asks : (s.passed e).state.classifiable = true) :
    (s.passed e).est.evalTime = s.now := by
  unfold State.passed at asks ⊢
  split at asks
  · next new => rw [new] at asks; cases asks
  · next old => rw [if_neg old, placeAfterPass_est]; rfl

section
variable {s : State} {a : Anchor} {p : Plan} {k : Candidate}

/-- The candidate that the pass chooses, if any. -/
def State.chosen (s : State) (a : Anchor) (p : Plan) : Option Candidate :=
  chooseCandidate (s.evaluated.candidates (s.evaluated.passView a p s.evaluated.table) s.evaluated.table)

/-- The entry of the chosen candidate, COMMANDED behind the stages of the pass (R80). -/
def State.asked (s : State) (a : Anchor) (p : Plan) (k : Candidate) : Entry :=
  (s.evaluated.staged (s.evaluated.passView a p s.evaluated.table) s.evaluated.table k.entry).command k.action k.amount s.now

theorem chosen_candidate (chosen : s.chosen a p = some k) :
    k.entry ∈ s.evaluated.table ∧ k.entry.state.classifiable = true ∧
      coveredBy (s.evaluated.passView a p s.evaluated.table).windows s.config.general.clearance k.entry = false ∧
      s.evaluated.finding (s.evaluated.passView a p s.evaluated.table) k.entry = .candidate k.action k.amount :=
  mem_candidates.1 (chooseCandidate_mem chosen)

theorem chosen_evalTime (chosen : s.chosen a p = some k) : k.entry.est.evalTime = s.now := by
  obtain ⟨mem, asks, -⟩ := chosen_candidate chosen
  obtain ⟨e, -, same⟩ := List.mem_map.1 mem
  rw [← same] at asks ⊢
  exact passed_evalTime asks

theorem asked_kin (s : State) (a : Anchor) (p : Plan) (k : Candidate) :
    (s.asked a p k).bus = k.entry.bus ∧ (s.asked a p k).approach = k.entry.approach ∧
      (s.asked a p k).phase = k.entry.phase ∧ (s.asked a p k).est = k.entry.est := by
  have kin := staged_kin s.evaluated (s.evaluated.passView a p s.evaluated.table) s.evaluated.table k.entry
  exact ⟨kin.bus, kin.approach, kin.phase, kin.est⟩

/-- What is done to the chosen entry behind the stages is in the table that results. -/
theorem asked_mem (chosen : s.chosen a p = some k) (f : Entry → Entry) :
    f (s.evaluated.staged (s.evaluated.passView a p s.evaluated.table) s.evaluated.table k.entry) ∈
      (s.staging a p).table.map fun q => if q.bus = k.entry.bus then f q else q := by
  obtain ⟨mem, -⟩ := chosen_candidate chosen
  have kin := staged_kin s.evaluated (s.evaluated.passView a p s.evaluated.table) s.evaluated.table k.entry
  exact List.mem_map.2 ⟨_, List.mem_map_of_mem mem, if_pos kin.bus⟩

theorem chooseAndSend_nobody {u : State} (free : u.planner.slot = none) (calm : u.planner.revise = none)
    (nobody : s.chosen a p = none) :
    chooseAndSend (s.evaluated.passView a p s.evaluated.table) s.evaluated.table s.evaluated u = u := by
  rw [State.chosen] at nobody
  rw [chooseAndSend, free, calm]
  simp only [nobody]

theorem chooseAndSend_chosen {u : State} (free : u.planner.slot = none) (calm : u.planner.revise = none)
    (chosen : s.chosen a p = some k) :
    chooseAndSend (s.evaluated.passView a p s.evaluated.table) s.evaluated.table s.evaluated u = handOver k u := by
  rw [State.chosen] at chosen
  rw [chooseAndSend, free, calm]
  simp only [chosen]

/-! ### What the choice must be (R80) -/

/-- In a sound state an entry is offered exactly when it is a candidate (R76, R77). -/
theorem offers_iff (ring : s.RingSound) (tracked : s.trackedPlan = some (a, p)) {e : Entry} {act : Action} {n : Nat} :
    s.offers a p (s.table.map s.passed) e act n ↔
      { entry := e, action := act, amount := n } ∈
        s.evaluated.candidates (s.evaluated.passView a p s.evaluated.table) s.evaluated.table := by
  have ring' : s.evaluated.RingSound := ring
  have tracked' : s.evaluated.trackedPlan = some (a, p) := tracked
  rw [mem_candidates, passView_eq ring' tracked', finding_eq ring' tracked', servedIn_eq, classifiable_asks]
  exact Iff.rfl

theorem chosen_offers (ring : s.RingSound) (tracked : s.trackedPlan = some (a, p)) (chosen : s.chosen a p = some k) :
    s.offers a p (s.table.map s.passed) k.entry k.action k.amount :=
  (offers_iff ring tracked).2 (chooseCandidate_mem chosen)

theorem nobody_offers (ring : s.RingSound) (tracked : s.trackedPlan = some (a, p)) (nobody : s.chosen a p = none)
    (e : Entry) (act : Action) (n : Nat) : ¬s.offers a p (s.table.map s.passed) e act n := by
  intro offers
  have mem := (offers_iff ring tracked).1 offers
  rw [chooseCandidate_none nobody] at mem
  exact absurd mem List.not_mem_nil

theorem candidates_append (s : State) (v : PassView) (front back : List Entry) :
    s.candidates v (front ++ back) = s.candidates v front ++ s.candidates v back := by
  unfold State.candidates
  exact List.filterMap_append

theorem candidates_cons {s : State} {v : PassView} {e : Entry} {act : Action} {n : Nat} {l back : List Entry}
    (mem : { entry := e, action := act, amount := n } ∈ s.candidates v l) :
    s.candidates v (e :: back) = { entry := e, action := act, amount := n } :: s.candidates v back := by
  obtain ⟨-, asks, open_, found⟩ := mem_candidates.1 mem
  dsimp only at asks open_ found
  unfold State.candidates
  rw [List.filterMap_cons]
  simp only [asks, open_, found, Bool.not_false, Bool.and_self, if_true]

/-- The best of the entries offered is the one chosen (R80). -/
theorem chosen_best (ring : s.RingSound) (tracked : s.trackedPlan = some (a, p)) {front back : List Entry} {e : Entry}
    {act : Action} {n : Nat} (split : s.table.map s.passed = front ++ e :: back)
    (offers : s.offers a p (s.table.map s.passed) e act n)
    (before : ∀ f ∈ front, ∀ act' n', s.offers a p (s.table.map s.passed) f act' n' →
      f.est.score < e.est.score ∨ f.est.score = e.est.score ∧ e.est.winEnd < f.est.winEnd)
    (behind : ∀ f ∈ back, ∀ act' n', s.offers a p (s.table.map s.passed) f act' n' →
      f.est.score < e.est.score ∨ f.est.score = e.est.score ∧ e.est.winEnd ≤ f.est.winEnd) :
    s.chosen a p = some { entry := e, action := act, amount := n } := by
  have mine := (offers_iff ring tracked).1 offers
  have others : ∀ {part : List Entry} {d : Candidate}, (∀ f ∈ part, f ∈ s.evaluated.table) →
      d ∈ s.evaluated.candidates (s.evaluated.passView a p s.evaluated.table) part →
        d.entry ∈ part ∧ s.offers a p (s.table.map s.passed) d.entry d.action d.amount := fun within mem => by
    obtain ⟨inside, asks, open_, found⟩ := mem_candidates.1 mem
    exact ⟨inside, (offers_iff ring tracked).2 (mem_candidates.2 ⟨within _ inside, asks, open_, found⟩)⟩
  have table : s.evaluated.table = front ++ e :: back := split
  have list : s.evaluated.candidates (s.evaluated.passView a p s.evaluated.table) s.evaluated.table =
      s.evaluated.candidates (s.evaluated.passView a p s.evaluated.table) front ++ { entry := e, action := act, amount := n } ::
        s.evaluated.candidates (s.evaluated.passView a p s.evaluated.table) back := by
    conv_lhs => arg 3; rw [table]
    rw [candidates_append, candidates_cons mine]
  rw [State.chosen, list]
  refine chooseCandidate_eq (fun d mem => ?_) fun d mem => ?_
  · obtain ⟨inside, offered⟩ := others (fun f inside => by rw [table]; simp [inside]) mem
    exact behind d.entry inside _ _ offered
  · obtain ⟨inside, offered⟩ := others (fun f inside => by rw [table]; simp [inside]) mem
    exact before d.entry inside _ _ offered

/-- The table behind the handing over of an offered entry: it is rewritten, the others are settled (R79, R80). -/
theorem table_left (ring : s.RingSound) (nodup : (s.table.map Entry.bus).Nodup) (tracked : s.trackedPlan = some (a, p))
    {e : Entry} {act : Action} {n : Nat} (offers : s.offers a p (s.table.map s.passed) e act n) (f : Entry → Entry) :
    ((s.staging a p).table.map fun q => if q.bus = e.bus then f (q.command act n s.now) else q) =
      (s.table.map s.passed).map fun q =>
        if q.bus = e.bus then f (e.asCommanded act n s.now) else s.settles a p (s.table.map s.passed) q := by
  have buses : (s.table.map s.passed).map Entry.bus = s.table.map Entry.bus :=
    List.map_map.trans (List.map_congr_left fun e _ => passed_bus s e)
  have distinct : ∀ q ∈ s.table.map s.passed, q.bus = e.bus → q = e :=
    fun q mem same => List.inj_on_of_nodup_map (buses ▸ nodup) mem offers.1 same
  obtain ⟨-, asks, unserved, found⟩ := offers
  have settled : (s.settles a p (s.table.map s.passed) e).command act n s.now = e.asCommanded act n s.now := by
    rw [State.settles, if_neg (by simp [asks]), if_neg (by simp [unserved])]
    rfl
  have kept : ∀ q, (s.settles a p (s.table.map s.passed) q).bus = q.bus := fun q => by
    unfold State.settles
    split
    · rfl
    · split <;> rfl
  rw [(staging_sound ring nodup tracked).1, List.map_map]
  refine List.map_congr_left fun q mem => ?_
  simp only [Function.comp, kept]
  by_cases same : q.bus = e.bus
  · rw [if_pos same, if_pos same, distinct q mem same, settled]
  · rw [if_neg same, if_neg same]

/-! ### A lead and a follower that the pass hands over -/

theorem fits_of_remaining {l : Ledger} {n : Nat} (rest : n ≤ l.remaining) :
    l.committed + n ≤ max l.timeLimit l.committed := by
  unfold Ledger.remaining at rest
  omega

/-- A chosen lead is of use: an extension of a green that is shown, an advance under a plan (R71, R91, R100). -/
theorem chosen_useful (tracked : s.trackedPlan = some (a, p)) (free : s.planner.grant = none)
    (chosen : s.chosen a p = some k) :
    (k.action = .extend → (s.staging a p).anchorGreen k.entry.phase = true) ∧ (s.staging a p).cycleLength = some p.cycle := by
  obtain ⟨-, -, -, found⟩ := chosen_candidate chosen
  obtain ⟨-, -, -, greens, -⟩ := finding_lead (s := s.evaluated) free found
  refine ⟨fun act => ?_, ?_⟩
  · obtain ⟨-, w, mem, phase, current⟩ := greens act
    obtain ⟨green, same⟩ := project_current mem current
    have anchor : (s.staging a p).model.anchor = some a := trackedPlan_anchor tracked
    rw [State.anchorGreen, anchor]
    simp [← phase, same, green]
  · have tracked' : (s.staging a p).trackedPlan = some (a, p) := tracked
    rw [State.cycleLength, tracked']
    rfl

theorem trimTest_needed {g : Grant} {e : Entry} {s : State} (active : s.planner.grant = some g)
    (running : g.state = .running) (tracked : s.trackedPlan = some (a, p)) (mem : e ∈ s.table)
    (member : g.members.contains e.bus = true)
    (needs : g.total ≤ e.needNow s.now s.config.general.clearance (s.config.plannedGreen p g.phase - a.elapsedAt s.now)) :
    trimTest s = s := by
  have need := neededBy_iff.2 (Eq.refl (neededTotal s.now s.config.general.clearance
    (s.config.plannedGreen p g.phase - a.elapsedAt s.now) (s.table.filter fun q => g.members.contains q.bus)))
  have bound := need.1 e (List.mem_filter.2 ⟨mem, member⟩)
  rw [trimTest_running active running tracked need]
  exact if_neg (by omega)

/-- A shadow grant that has just risen for a follower is not trimmed: that follower needs it all (R77, R103). -/
theorem followedBy_untrimmed (tracked : s.trackedPlan = some (a, p)) {g : Grant} (mode : s.mode = .monitor)
    (active : s.planner.grant = some g) (chosen : s.chosen a p = some k)
    (green : g.shadow = true → s.anchorGreen g.phase = true) :
    trimTest ((s.staging a p).followedBy g k) = (s.staging a p).followedBy g k := by
  obtain ⟨-, -, -, found⟩ := chosen_candidate chosen
  obtain ⟨-, path, -, -, -, needs⟩ := finding_follower (s := s.evaluated) active found
  simp only [State.followerPath, Bool.and_eq_true, Bool.or_eq_true, beq_iff_eq, Bool.not_eq_true'] at path
  obtain ⟨⟨running, -⟩, open_⟩ := path
  have shadow : g.shadow = true := by
    rcases open_ with ⟨run, -⟩ | ⟨-, shadow⟩
    · rw [show s.evaluated.mode = s.mode from rfl, mode] at run
      cases run
    · exact shadow
  have shown := green shadow
  rw [State.anchorGreen, trackedPlan_anchor tracked] at shown
  simp only [Bool.and_eq_true, beq_iff_eq] at shown
  obtain ⟨phase, interval⟩ := shown
  have windows : (s.evaluated.passView a p s.evaluated.table).windows = s.config.project p a s.now .none := by
    have adj : adjustmentOf s.planner.grant = .none := by rw [active]; exact if_pos shadow
    exact congrArg (s.config.project p a s.now) adj
  rw [windows, extendedEnd_shadow shadow interval phase, plannedRest] at needs
  have evaluated := chosen_evalTime chosen
  obtain ⟨bus, -, -, est⟩ := asked_kin s a p k
  have mem := asked_mem chosen fun q => (q.command k.action k.amount s.now).asGranted .follower k.amount true
  refine trimTest_needed (s := (s.staging a p).followedBy g k) (g := { g with
    total := g.total + k.amount, members := g.members ++ [k.entry.bus] }) rfl running (show _ = _ from tracked) mem ?_ ?_
  · change (g.members ++ [k.entry.bus]).contains (s.asked a p k).bus = true
    rw [bus]
    simp
  · change g.total + k.amount ≤ Entry.needNow ((s.asked a p k).asGranted .follower k.amount true) s.now
      s.config.general.clearance (s.config.plannedGreen p g.phase - a.elapsedAt s.now)
    change g.total + k.amount ≤ (s.asked a p k).est.winEnd - (s.now - (s.asked a p k).est.evalTime).toNat +
      s.config.general.clearance - (s.config.plannedGreen p g.phase - a.elapsedAt s.now)
    change s.config.plannedGreen p g.phase - a.elapsedAt s.now + g.total + k.amount =
      k.entry.est.winEnd + s.config.general.clearance at needs
    rw [est, evaluated]
    simp only [BitVec.sub_self, BitVec.toNat_ofNat, Nat.zero_mod, Nat.sub_zero]
    omega

end

/-! ### What the statement says of the state behind the pass -/

/-- The frame of a pass, from what it leaves but for latches and NOTICEs. -/
theorem frame_of_sameBut {t s base : State} (h : t.sameButNotices base)
    (frame : base = { s with planner := base.planner, table := base.table, stats := base.stats }) :
    t = { s with
      planner := t.planner, table := t.table, stats := t.stats, notices := { s.notices with latches := t.notices.latches },
      link := { s.link with outbound := t.link.outbound, noticesDropped := t.link.noticesDropped } } := by
  obtain ⟨latches, out, dropped, rfl, -, -⟩ := h
  rw [frame]

/-- A pass that has counted and no more reports than that (R162). -/
theorem reports_of_sameBut {t s base : State} (h : t.sameButNotices base)
    (frame : base = { s with planner := base.planner, table := base.table, stats := base.stats })
    (totals : base.stats.totals = s.stats.totals) :
    t.sameButReports { s with planner := t.planner, table := t.table } := by
  have stats := statistics_eq totals
  obtain ⟨latches, out, dropped, rfl, notices, kept⟩ := h
  have notices_eq : base.notices = s.notices := (congrArg State.notices frame).trans rfl
  have link : base.link = s.link := (congrArg State.link frame).trans rfl
  refine ⟨latches, out, dropped, ?_, notices, notices_eq ▸ kept⟩
  rw [notices_eq, link]
  refine (congrArg (fun v : State => ({ v with
    notices := { s.notices with latches := latches },
    link := { s.link with outbound := s.link.outbound ++ out, noticesDropped := dropped } } : State)) frame).trans ?_
  exact congrArg (fun st => ({ s with
    planner := base.planner, table := base.table, stats := st, notices := { s.notices with latches := latches },
    link := { s.link with outbound := s.link.outbound ++ out, noticesDropped := dropped } } : State)) stats

theorem sameButNotices_stats {t base : State} (h : t.sameButNotices base) : t.stats = base.stats := by
  obtain ⟨_, _, _, rfl, _, _⟩ := h
  rfl

theorem Blind.endPass : Blind endPass := fun _ _ _ _ _ => rfl

section
variable {s : State} {a : Anchor} {p : Plan} {k : Candidate}

/-- What a chosen lead has been tested for, said of the entry it is for (R72, R73, R76). -/
theorem asked_leads (free : s.planner.grant = none) (chosen : s.chosen a p = some k) :
    s.planner.tokens.get (s.asked a p k).approach ≠ 0 ∧ s.planner.ledger.leads < s.planner.ledger.grantLimit ∧
      s.planner.ledger.committed + k.amount ≤ max s.planner.ledger.timeLimit s.planner.ledger.committed ∧
      (k.action = .extend → k.amount ≤ (s.config.phase (s.asked a p k).phase).maxExtend) ∧
      (k.action = .advance →
        k.amount ≤ (s.config.phase (s.asked a p k).phase).maxAdvance ∧ s.config.general.aMin ≤ k.amount) := by
  obtain ⟨-, -, -, found⟩ := chosen_candidate chosen
  obtain ⟨token, leads, rest, greens, advances⟩ := finding_lead (s := s.evaluated) free found
  obtain ⟨-, approach, phase, -⟩ := asked_kin s a p k
  rw [approach, phase]
  exact ⟨token, leads, fits_of_remaining rest, fun act => (greens act).1, advances⟩

/-- What a chosen follower has been tested for, said of the entry it is for (R77). -/
theorem asked_follows {g : Grant} (active : s.planner.grant = some g) (chosen : s.chosen a p = some k) :
    k.action = .extend ∧
      (g.state = .running ∧ g.phase = (s.asked a p k).phase ∧ g.members.length < 5 ∧
        g.total + k.amount ≤ (s.config.phase (s.asked a p k).phase).maxExtend ∧
        s.planner.ledger.committed + k.amount ≤ max s.planner.ledger.timeLimit s.planner.ledger.committed) ∧
      (s.mode = .run ∧ g.shadow = false ∨ s.mode = .monitor ∧ g.shadow = true) := by
  obtain ⟨-, -, -, found⟩ := chosen_candidate chosen
  obtain ⟨act, path, room, most, rest, -⟩ := finding_follower (s := s.evaluated) active found
  simp only [State.followerPath, Bool.and_eq_true, Bool.or_eq_true, beq_iff_eq, Bool.not_eq_true'] at path
  obtain ⟨⟨running, same⟩, open_⟩ := path
  obtain ⟨-, -, phase, -⟩ := asked_kin s a p k
  rw [phase]
  exact ⟨act, ⟨running, same, room, most, fits_of_remaining rest⟩, open_⟩

end

/-- The slot record of a lead carries its own tag as the grant id, and its sending is counted in the totals (R80, R89). -/
theorem handSlot_lead (k : Candidate) {s : State} (alone : s.planner.grant = none) :
    s.handRole = .lead ∧ (s.handSlot k).grantId = s.handTag ∧
      ∀ t, (s.handSlot k).sentTotals t = { t with sent := tally32 t.sent } := by
  have role : s.handRole = .lead := by rw [State.handRole, alone]; rfl
  refine ⟨role, ?_, fun t => ?_⟩
  · simp only [State.handSlot, alone]
  · simp only [State.handSlot, Slot.sentTotals, role]

/-- That of a follower carries the id of the grant. -/
theorem handSlot_follower (k : Candidate) {s : State} {g : Grant} (active : s.planner.grant = some g) :
    s.handRole = .follower ∧ (s.handSlot k).grantId = g.id ∧ ∀ t, (s.handSlot k).sentTotals t = t := by
  have role : s.handRole = .follower := by rw [State.handRole, active]; rfl
  refine ⟨role, ?_, fun t => ?_⟩
  · simp only [State.handSlot, active]
  · simp only [State.handSlot, Slot.sentTotals, role]

theorem sentIndex_handSlot (s : State) (k : Candidate) : sentIndex (s.handSlot k) =
    if s.planner.grant.isSome = true then 3 else if k.action = .extend then 0 else 1 := by
  cases grant : s.planner.grant <;> cases act : k.action <;> simp [State.handSlot, State.handRole, sentIndex, grant, act]

/-- The shadow grant of a lead, under a plan (R91, R100, R106). -/
theorem newGrant_shadow {s : State} {c : Nat} (cycle : s.cycleLength = some c) (tag : Nat) (act : Action) (phase n : Nat)
    (x : Approach) (members : List Nat) : newGrant s tag act phase n n x true members =
      { id := tag, action := act, phase := phase, requested := n, applied := n,
        total := if act = .extend then n else 0, members := members,
        state := if act = .extend then .running else .armed, acceptTime := s.now, shadow := true,
        armLimit := if act = .extend then none else some (s.now + BitVec.ofNat 32 c),
        outSeen := if act = .extend then none else some (!s.anchorGreen phase), approach := x } := by
  unfold newGrant
  rw [cycle]
  rfl

/-! ### The state behind a pass that hands over -/

section
variable {s : State} {a : Anchor} {p : Plan} {k : Candidate}

theorem chosen_is (ring : s.RingSound) (tracked : s.trackedPlan = some (a, p)) (chosen : s.chosen a p = some k)
    {front back : List Entry} {e : Entry} {act : Action} {n : Nat} (split : s.table.map s.passed = front ++ e :: back)
    (offers : s.offers a p (s.table.map s.passed) e act n)
    (before : ∀ f ∈ front, ∀ act' n', s.offers a p (s.table.map s.passed) f act' n' →
      f.est.score < e.est.score ∨ f.est.score = e.est.score ∧ e.est.winEnd < f.est.winEnd)
    (behind : ∀ f ∈ back, ∀ act' n', s.offers a p (s.table.map s.passed) f act' n' →
      f.est.score < e.est.score ∨ f.est.score = e.est.score ∧ e.est.winEnd ≤ f.est.winEnd) :
    k = { entry := e, action := act, amount := n } :=
  Option.some.inj (chosen.symm.trans (chosen_best ring tracked split offers before behind))

/-- In RUN: the command in the slot and in the queue, the reservation, and the sending counted (R80, R85, R89). -/
theorem run_handed (mode : s.mode = .run) (mark : s.planner.passMark = false) :
    let t := endPass (handOver k (s.classified a p))
    t = { s with
      planner := t.planner, table := t.table, stats := t.stats, notices := { s.notices with latches := t.notices.latches },
      link := { s.link with outbound := t.link.outbound, noticesDropped := t.link.noticesDropped } } ∧
    t.latchesStay s [] ∧
    t.planner = { s.planner with
      slot := some (s.handSlot k), tagCounter := s.handTag,
      ledger := s.planner.ledger.reserve k.amount s.handRole, passDue := false, passMark := false, passRunning := false } ∧
    t.table = (s.staging a p).table.map
      (fun q => if q.bus = k.entry.bus then q.command k.action k.amount s.now else q) ∧
    t.stats = { (s.staging a p).counted .commandSent (sentIndex (s.handSlot k)) (some (.port k.entry.approach)) with
      totals := (s.handSlot k).sentTotals s.stats.totals } ∧
    joinedBy t.link.outbound s.link.outbound (commandMessage (s.handSlot k)) := by
  obtain ⟨leaves, latches⟩ := classified_leaves s a p
  obtain ⟨handed, stays⟩ := endPass_run (base := s.staging a p) mode leaves k mark rfl
  generalize endPass (handOver k (s.classified a p)) = t at handed stays
  have stats := sentFrom_stats handed
  refine ⟨sentFrom_frame (s := s) handed rfl, State.latchesStay_trans stays latches, ?_⟩
  obtain ⟨_, _, _, rfl, joined⟩ := handed
  refine ⟨rfl, rfl, stats.trans ?_, joined⟩
  exact congrArg (fun totals => ({ (s.staging a p).counted .commandSent (sentIndex (s.handSlot k))
    (some (.port k.entry.approach)) with totals := (s.handSlot k).sentTotals totals } : Statistics)) (staging_totals s a p)

/-- In MONITOR without a grant: the shadow grant of the lead, its ledger and its token (R82, R106). -/
theorem monitor_led (tracked : s.trackedPlan = some (a, p)) (mode : s.mode = .monitor) (alone : s.planner.grant = none)
    (mark : s.planner.passMark = false) (chosen : s.chosen a p = some k) :
    let t := endPass (handOver k (s.classified a p))
    t.sameButNotices (((s.staging a p).ledBy k).onPlanner fun q =>
      { q with passDue := false, passMark := false, passRunning := false }) ∧
    t.tookToken s (s.asked a p k).approach ∧ t.latchesStay s [.tokensExhausted (s.asked a p k).approach] := by
  obtain ⟨leaves, latches⟩ := classified_leaves s a p
  obtain ⟨useful, cycle⟩ := chosen_useful tracked alone chosen
  obtain ⟨-, approach, -, -⟩ := asked_kin s a p k
  obtain ⟨led, took, stays⟩ := handOver_leads (base := s.staging a p) (s := s) mode alone leaves latches rfl rfl k useful
    fun _ => by rw [cycle]; exact Option.some_ne_none _
  have left := Blind.endPass.sameBut led
  rw [endPass_eq (s := (s.staging a p).ledBy k) mark rfl] at left
  rw [approach]
  exact ⟨left, took, stays⟩

/-- The planner's share of it, said of the entry that leads (R82, R85, R91, R100). -/
theorem ledBy_planner (tracked : s.trackedPlan = some (a, p)) (alone : s.planner.grant = none)
    (chosen : s.chosen a p = some k) : ((s.staging a p).ledBy k).planner = { s.planner with
      passDue := false, passRunning := true, tagCounter := s.handTag,
      tokens := s.planner.tokens.set (s.asked a p k).approach (s.planner.tokens.get (s.asked a p k).approach - 1),
      ledger := { s.planner.ledger with
        committed := s.planner.ledger.committed + k.amount, leads := s.planner.ledger.leads + 1, reservation := none },
      grant := some
        { id := s.handTag, action := k.action, phase := (s.asked a p k).phase, requested := k.amount, applied := k.amount,
          total := if k.action = .extend then k.amount else 0, members := [(s.asked a p k).bus],
          state := if k.action = .extend then .running else .armed, acceptTime := s.now, shadow := true,
          armLimit := if k.action = .extend then none else some (s.now + BitVec.ofNat 32 p.cycle),
          outSeen := if k.action = .extend then none else some (!s.anchorGreen (s.asked a p k).phase),
          approach := (s.asked a p k).approach } } := by
  obtain ⟨bus, approach, phase, -⟩ := asked_kin s a p k
  obtain ⟨-, cycle⟩ := chosen_useful tracked alone chosen
  rw [approach, phase, bus]
  exact congrArg (fun g => ({ ((s.staging a p).ledBy k).planner with grant := some g } : Planner))
    (newGrant_shadow cycle _ _ _ _ _ _)

/-- In MONITOR beside a shadow grant: the follower joins it, and its total rises (R106). -/
theorem monitor_followed (tracked : s.trackedPlan = some (a, p)) (mode : s.mode = .monitor) {g : Grant}
    (active : s.planner.grant = some g) (mark : s.planner.passMark = false) (chosen : s.chosen a p = some k) :
    let t := endPass (handOver k (s.classified a p))
    t = { s with
      planner := t.planner, table := t.table, stats := t.stats, notices := { s.notices with latches := t.notices.latches },
      link := { s.link with outbound := t.link.outbound, noticesDropped := t.link.noticesDropped } } ∧
    t.latchesStay s [] ∧
    ((g.shadow = true → s.anchorGreen g.phase = true) →
      t.sameButNotices (((s.staging a p).followedBy g k).onPlanner fun q =>
        { q with passDue := false, passMark := false, passRunning := false })) := by
  obtain ⟨leaves, latches⟩ := classified_leaves s a p
  obtain ⟨led, stays⟩ := handOver_follows (base := s.staging a p) mode active leaves k
  have left := Blind.endPass.sameBut led
  refine ⟨frame_of_sameBut (s := s) left ?_, State.latchesStay_trans stays latches, fun green => ?_⟩
  · rw [trimTest_eq]
    rfl
  · rw [followedBy_untrimmed tracked mode active chosen green,
      endPass_eq (s := (s.staging a p).followedBy g k) mark rfl] at left
    exact left

end

/-- Settles O22: the pass chooses nobody, or hands over the candidate it chooses, in RUN or MONITOR. -/
theorem passSendsAtMostOneLead : Obligations.PassSendsAtMostOneLead := by
  unfold Obligations.PassSendsAtMostOneLead
  intro a p s running due mark awake tracked free calm
  have row := exec_trackedPass running due awake tracked
  obtain ⟨leaves, latches⟩ := classified_leaves s a p
  have planner : (s.classified a p).planner = s.evaluated.planner := (sameButNotices_planner leaves).trans rfl
  rcases Option.eq_none_or_eq_some (s.chosen a p) with nobody | ⟨k, chosen⟩
  · rw [chooseAndSend_nobody (by rw [planner]; exact free) (by rw [planner]; exact calm) nobody] at row
    obtain ⟨ended, table, stats, same⟩ := endPass_settled mark leaves
    refine ⟨_, row, frame_of_sameBut (Blind.endPass.sameBut leaves) rfl, ?_⟩
    have stays : (endPass (s.classified a p)).latchesStay s [] := latches
    generalize endPass (s.classified a p) = t at *
    intro ended' tag nothing fits leads follows asked sent
    have idle : nothing := ⟨ended, stays, same⟩
    refine ⟨fun _ _ => .inl idle, fun _ _ _ => .inl idle, fun _ _ => .inl idle, fun _ _ _ _ => .inl idle,
      fun ring nodup => ⟨s.passed, fun e _ => passed_evaluates s e, fun _ => ⟨idle, ?_⟩,
        fun _ e _ act n _ offers => absurd offers (nobody_offers ring tracked nobody e act n)⟩⟩
    rw [table, stats]
    obtain ⟨settled, counted⟩ := staging_sound ring nodup tracked
    exact ⟨settled, congrArg Statistics.counters counted⟩
  · rw [chooseAndSend_chosen (by rw [planner]; exact free) (by rw [planner]; exact calm) chosen] at row
    have modes : s.mode = .run ∨ s.mode = .monitor := by
      cases mode : s.mode
      · exact absurd mode awake
      · exact .inr rfl
      · exact .inl rfl
    have unoffered : s.RingSound → ¬∀ e act n, ¬s.offers a p (s.table.map s.passed) e act n := fun ring nobody =>
      nobody _ _ _ (chosen_offers ring tracked chosen)
    obtain ⟨bus, approach, phase, est⟩ := asked_kin s a p k
    rcases modes with mode | mode
    · have other : s.mode ≠ .monitor := by rw [mode]; decide
      obtain ⟨frame, stays, planner', table, stats, joined⟩ := run_handed (a := a) (p := p) (k := k) mode mark
      refine ⟨_, row, frame, ?_⟩
      generalize endPass (handOver k (s.classified a p)) = t at stays planner' table stats joined ⊢
      intro ended tag nothing fits leads follows asked sent
      have sends : sent (s.handSlot k) k.action (s.asked a p k) := by
        refine ⟨congrArg Planner.slot planner', rfl, rfl, congrArg some bus.symm, approach.symm, phase.symm, rfl, ?_, rfl,
          ⟨?_, rfl, rfl, rfl, rfl⟩, rfl, rfl, rfl, stays, joined⟩
        · rw [est]
          rfl
        · rw [table]
          exact asked_mem chosen fun q => q.command k.action k.amount s.now
      refine ⟨fun _ alone => ?_, fun g _ active => ?_, fun monitors => absurd monitors other,
        fun g monitors => absurd monitors other, fun ring nodup => ?_⟩
      · obtain ⟨role, grantId, totals⟩ := handSlot_lead k alone
        rw [role] at planner'
        exact .inr ⟨_, k.action, _, sends, asked_leads alone chosen, role, grantId, by rw [stats]; exact totals _, planner'⟩
      · obtain ⟨role, grantId, totals⟩ := handSlot_follower k active
        obtain ⟨act, tested, open_⟩ := asked_follows active chosen
        rw [act] at sends
        rw [role] at planner'
        exact .inr ⟨_, _, sends, tested, (open_.resolve_right fun monitors => other monitors.1).2, role, grantId,
          by rw [stats]; exact totals _, planner'⟩
      · refine ⟨s.passed, fun e _ => passed_evaluates s e, fun nobody => absurd nobody (unoffered ring),
          fun front e back act n split offers before behind => ?_⟩
        obtain rfl := chosen_is ring tracked chosen split offers before behind
        refine ⟨fun _ => ⟨⟨_, congrArg Planner.slot planner', rfl, rfl, rfl⟩, ?_, ?_⟩, fun monitors => absurd monitors other⟩
        · rw [table]
          exact table_left ring nodup tracked offers id
        · rw [stats, State.countedAll_append, ← (staging_sound ring nodup tracked).2, sentIndex_handSlot]
          rfl
    · have other : s.mode ≠ .run := by rw [mode]; decide
      rcases Option.eq_none_or_eq_some s.planner.grant with alone | ⟨g, active⟩
      · obtain ⟨left, took, stays⟩ := monitor_led tracked mode alone mark chosen
        refine ⟨_, row, frame_of_sameBut (s := s) left rfl, ?_⟩
        generalize endPass (handOver k (s.classified a p)) = t at left took stays ⊢
        have table := sameButNotices_table left
        have planner' := (sameButNotices_planner left).trans (congrArg (fun q : Planner =>
          { q with passDue := false, passMark := false, passRunning := false }) (ledBy_planner tracked alone chosen))
        intro ended tag nothing fits leads follows asked sent
        refine ⟨fun runs => absurd runs other, fun g runs => absurd runs other, fun _ _ => .inr ⟨k.amount, k.action,
          (s.asked a p k).asGranted .lead k.amount true, ⟨?_, rfl, rfl, rfl, rfl⟩, asked_leads alone chosen, rfl, rfl, rfl,
          rfl, rfl, stays, took, reports_of_sameBut (s := s) left rfl (staging_totals s a p), planner'⟩,
          fun g _ active => ?_, fun ring nodup => ?_⟩
        · rw [table]
          exact asked_mem chosen fun q => (q.command k.action k.amount s.now).asGranted .lead k.amount true
        · rw [alone] at active
          cases active
        · refine ⟨s.passed, fun e _ => passed_evaluates s e, fun nobody => absurd nobody (unoffered ring),
            fun front e back act n split offers before behind => ?_⟩
          obtain rfl := chosen_is ring tracked chosen split offers before behind
          refine ⟨fun runs => absurd runs other, fun _ _ => ⟨⟨_, congrArg Planner.grant planner', ?_⟩, ?_, ?_⟩⟩
          · exact List.mem_singleton.2 bus.symm
          · rw [table, alone]
            exact table_left ring nodup tracked offers fun q => q.asGranted .lead n true
          · rw [← (staging_sound ring nodup tracked).2]
            exact (congrArg Statistics.counters (sameButNotices_stats left)).trans rfl
      · obtain ⟨act, tested, open_⟩ := asked_follows active chosen
        obtain ⟨frame, stays, joins⟩ := monitor_followed tracked mode active mark chosen
        refine ⟨_, row, frame, ?_⟩
        generalize endPass (handOver k (s.classified a p)) = t at stays joins ⊢
        intro ended tag nothing fits leads follows asked sent
        refine ⟨fun runs => absurd runs other, fun g runs => absurd runs other, fun _ alone => ?_, fun g' _ active' green => ?_,
          fun ring nodup => ?_⟩
        · rw [active] at alone
          cases alone
        · obtain rfl : g = g' := Option.some.inj (active.symm.trans active')
          have joined := joins green
          refine .inr ⟨k.amount, (s.asked a p k).asGranted .follower k.amount true, ⟨?_, congrArg some act, rfl, rfl, rfl⟩,
            tested, (open_.resolve_left fun runs => other runs.1).2, rfl, rfl, rfl, rfl, rfl, stays,
            reports_of_sameBut (s := s) joined rfl (staging_totals s a p), ?_⟩
          · rw [sameButNotices_table joined]
            exact asked_mem chosen fun q => (q.command k.action k.amount s.now).asGranted .follower k.amount true
          · rw [sameButNotices_planner joined, show ((s.asked a p k).asGranted .follower k.amount true).bus = _ from bus]
            exact congrArg (fun r => ({ ended with
              tagCounter := tag, revise := r, ledger := ((s.staging a p).followedBy g k).planner.ledger,
              grant := some { g with total := g.total + k.amount, members := g.members ++ [k.entry.bus] } } : Planner))
              (show dropNamed s.planner.revise g.id = s.planner.revise by rw [calm]; rfl)
        · refine ⟨s.passed, fun e _ => passed_evaluates s e, fun nobody => absurd nobody (unoffered ring),
            fun front e back act n split offers before behind => ?_⟩
          obtain rfl := chosen_is ring tracked chosen split offers before behind
          refine ⟨fun runs => absurd runs other, fun _ green => ?_⟩
          have joined := joins (green g active)
          refine ⟨⟨_, congrArg Planner.grant (sameButNotices_planner joined), ?_⟩, ?_, ?_⟩
          · exact List.mem_append_right _ (List.mem_singleton.2 rfl)
          · rw [sameButNotices_table joined, active]
            exact table_left ring nodup tracked offers fun q => q.asGranted .follower n true
          · rw [← (staging_sound ring nodup tracked).2]
            exact (congrArg Statistics.counters (sameButNotices_stats joined)).trans rfl

end Sys2Proof.Machine
end
